-- ==== Sys2Proof/Word.lean ====
section
/-! DEFINITION. The word types of the part and the plain fixed-length tables its state is made of.
Bit vectors stand for what the spec treats as words or wrapping counters; ids and sizes are Fin or Nat. -/

namespace Sys2Proof

abbrev Byte := BitVec 8
/-- A word of the acquisition port (R182), a block id or a length of a request. -/
abbrev Word16 := BitVec 16
/-- Sweep counter, send sequences, granted_through and its fellows (R108). -/
abbrev Word32 := BitVec 32
/-- Frame counter and sample indices (R7, R25). -/
abbrev Word64 := BitVec 64

/-- A channel 0..15. -/
abbrev ChannelId := Fin 16
/-- A plane 0..3. -/
abbrev PlaneId := Fin 4
/-- A drain class 0..3. -/
abbrev ClassId := Fin 4
/-- A block id; the part has blocks 0..8191 (R67). -/
abbrev BlockId := Nat

/-- A timer: `none` when stopped, otherwise the milliseconds it was started with (log entry 2). -/
abbrev Timer := Option Nat

/-- `xs` with entry `i` replaced. -/
def put {α : Type} {n : Nat} (xs : Vector α n) (i : Fin n) (a : α) : Vector α n :=
  xs.set i.val a i.isLt

/-- `f` at every entry. -/
def mapV {α β : Type} {n : Nat} (f : α → β) (xs : Vector α n) : Vector β n :=
  ⟨⟨xs.toList.map f⟩, by simp⟩

end Sys2Proof
end

