-- ==== Sys2Proof/Syntax.lean ====
section
/-! DEFINITION. The commands of the part: one constructor per row of spec/opcode_table.json, in the table's order.
A command is an event the part acts on; its operands are what the event brings from outside (log entry 1).
The rows by which MU executes a request carry no operands: the request in progress holds them (R154, R155, log entry 4). -/

namespace Sys2Proof

/-- One word arriving at the acquisition port, with the marks of R1. -/
structure PortWord where
  value : Word16
  frameStart : Bool
  frameEnd : Bool
  deriving DecidableEq, Repr

/-- A request the display processor gives the Review Port: the fields of R187, by request kind. -/
inductive ReviewCall where
  | locate (channel run : Byte) (index : Word64)
  | pin (block : Word16)
  | unpin (block : Word16)
  | read (block : Word16) (offset : Word32) (length : Word16)
  | describe (block : Word16)
  /-- a kind code that names none of the five kinds -/
  | unknown (kind : Byte)
  deriving DecidableEq, Repr

inductive Instr where
  /-- Words arriving at the port; AP takes a frame at each frame end, and at a frame start that cuts an open frame (R1). -/
  | acquisitionFrame (words : List PortWord)
  | sealAgeTimerExpiry (c : ChannelId)
  | headerWriteComplete (p : PlaneId)
  | payloadWriteComplete (p : PlaneId)
  | halfLoadComplete (p : PlaneId)
  | reviewReadComplete (p : PlaneId)
  | refreshComplete (p : PlaneId)
  | refreshTick (p : PlaneId)
  /-- The plane's initialisation ends, READY or FAULTY (R105). -/
  | planeInitEnd (p : PlaneId) (ready : Bool)
  | planeInitTimeout (p : PlaneId)
  | settleTimerExpiry
  /-- The bytes read from flash address 0 on, or `none` when the device does not answer (R177). -/
  | flashReadComplete (image : Option (List Byte))
  /-- Release of power-on or of the RESET pin, with the strap value sampled (R176). -/
  | deviceReset (straps : BitVec 2)
  | laneAlignmentLoss (lane : Fin 4)
  | receiveSilenceTimeout
  /-- The set of lanes that aligned in the attempt (R138). -/
  | trainingAttemptComplete (aligned : BitVec 4)
  | trainingAttemptFailed
  | trainingAttemptTimeout
  | helloTimerExpiry
  | forwardFrameStart
  | helloFrameEnd
  | replyFrameEnd
  | markFrameEnd
  | dataFrameEnd
  | fillFrameEnd
  /-- A valid FLOW frame: granted_through and committed_through (R149). -/
  | flowFrame (granted committed : Word32)
  /-- A valid REQUEST frame: tag, kind code and contents (R150). -/
  | requestFrame (tag kind : Byte) (contents : List Byte)
  | returnFillFrame
  /-- The bytes of a return frame that fails a test of R146, check included. -/
  | returnFrameRejected (bytes : List Byte)
  | tableWriteSlotMap
  | tableWriteProfile
  | tableWriteChannel
  | tableWriteSettings
  | tableRead
  | streamRun
  | streamPause
  | streamHalt
  | streamResume
  | streamStandby
  | channelStart
  | channelStop
  | channelFlush
  | blockQuery
  | statusQuery
  | forceBoundary
  | resetStream
  /-- The strap value sampled again (R167). -/
  | resetDevice (straps : BitVec 2)
  | unknownRequestKind
  /-- Channel byte, run byte and index of the request (R187). -/
  | locate (channel run : Byte) (index : Word64)
  | locateScanStep
  | pin (block : Word16)
  | unpin (block : Word16)
  | read (block : Word16) (offset : Word32) (length : Word16)
  | describe (block : Word16)
  /-- A review request whose kind code names none of the five kinds (R169). -/
  | unknownReviewKind (kind : Byte)
  | resetPinLow
  deriving DecidableEq, Repr

end Sys2Proof
end

