-- ==== Sys2Proof/Decode.lean ====
section
/-! DEFINITION. Reading bytes: little-endian numbers, the CRC-32 of R146, the return frames of R184, the review requests of
R187; and the decoder over the opcode table's bits, which the table gives for no row. What the archive and the display processor
build stands beside its decoder. -/

namespace Sys2Proof

/-- The number a little-endian sequence of bytes stands for (12, first paragraph). -/
def leNat : List Byte → Nat
  | [] => 0
  | b :: bs => b.toNat + 256 * leNat bs

/-- `x` in `n` bytes, least significant first. -/
def leBytes : Nat → Nat → List Byte
  | 0, _ => []
  | n + 1, x => BitVec.ofNat 8 x :: leBytes n (x / 256)

/-- The byte at an offset; 0 past the end. -/
def byteAt (bs : List Byte) (off : Nat) : Byte := bs.getD off 0#8

/-- The little-endian number of `n` bytes at an offset. -/
def leAt (bs : List Byte) (off n : Nat) : Nat := leNat ((bs.drop off).take n)

/-! ## CRC-32 (R146) -/

/-- Step 3 of R146: one data bit. -/
def crcBit (r : Word32) (bit : Bool) : Word32 :=
  if r.getLsbD 0 != bit then (r >>> 1) ^^^ 0xEDB88320#32 else r >>> 1

/-- The bits of a byte, least significant first. -/
def crcByte (r : Word32) (b : Byte) : Word32 :=
  crcBit (crcBit (crcBit (crcBit (crcBit (crcBit (crcBit (crcBit r
    (b.getLsbD 0)) (b.getLsbD 1)) (b.getLsbD 2)) (b.getLsbD 3)) (b.getLsbD 4)) (b.getLsbD 5)) (b.getLsbD 6)) (b.getLsbD 7)

/-- R146: preset to ones, all bytes in order, complement. -/
def crc32 (bs : List Byte) : Word32 := ~~~ (bs.foldl crcByte 0xFFFFFFFF#32)

/-- A frame's header and payload with its check behind, least significant byte first (R146, R184). -/
def withCheck (body : List Byte) : List Byte := body ++ leBytes 4 (crc32 body).toNat

/-! ## Return frames (R146, R184) -/

/-- A valid return frame. -/
inductive ReturnFrame where
  | flow (granted committed : Word32)
  | request (tag kind : Byte) (contents : List Byte)
  | fill
  deriving DecidableEq, Repr

/-- The frame a return frame's header and payload stand for, by kind and length (R181, R184). -/
def decodeReturnBody (body : List Byte) : Option ReturnFrame :=
  if byteAt body 0 = 0x11#8 then
    if body.length = 12 then some (.flow (BitVec.ofNat 32 (leAt body 4 4)) (BitVec.ofNat 32 (leAt body 8 4))) else none
  else if byteAt body 0 = 0x12#8 then
    if 8 ≤ body.length ∧ body.length = 8 + leAt body 4 2 then some (.request (byteAt body 1) (byteAt body 2) (body.drop 8))
    else none
  else if byteAt body 0 = 0x15#8 then
    if body.length = 4 then some .fill else none
  else none

/-- R146: a return frame is valid when its check, its kind and its length are right; `none` is a rejected frame. -/
def decodeReturnFrame (bytes : List Byte) : Option ReturnFrame :=
  if bytes.length < 5 then none
  else
    let body := bytes.take (bytes.length - 4)
    if leNat (bytes.drop (bytes.length - 4)) = (crc32 body).toNat then decodeReturnBody body else none

/-- The bytes of a valid return frame (R184). -/
def encodeReturnFrame : ReturnFrame → List Byte
  | .flow g c => withCheck ([0x11#8, 0#8, 0#8, 0#8] ++ leBytes 4 g.toNat ++ leBytes 4 c.toNat)
  | .request tag kind contents =>
      withCheck ([0x12#8, tag, kind, 0#8] ++ leBytes 2 contents.length ++ [0#8, 0#8] ++ contents)
  | .fill => withCheck [0x15#8, 0#8, 0#8, 0#8]

/-! ## Review requests (R181, R187) -/

/-- The block id of a PIN, UNPIN, READ or DESCRIBE, at offset 2. -/
def reviewBlock (bytes : List Byte) : Word16 := BitVec.ofNat 16 (leAt bytes 2 2)

/-- The request its bytes stand for, by the kind code at offset 0. -/
def decodeReviewBody (bytes : List Byte) : ReviewCall :=
  match (byteAt bytes 0).toNat with
  | 1 => .locate (byteAt bytes 2) (byteAt bytes 3) (BitVec.ofNat 64 (leAt bytes 4 8))
  | 2 => .pin (reviewBlock bytes)
  | 3 => .unpin (reviewBlock bytes)
  | 4 => .read (reviewBlock bytes) (BitVec.ofNat 32 (leAt bytes 4 4)) (BitVec.ofNat 16 (leAt bytes 8 2))
  | 5 => .describe (reviewBlock bytes)
  | _ => .unknown (byteAt bytes 0)

/-- A review request is 12 bytes (R187); no other number of bytes is one. -/
def decodeReviewRequest (bytes : List Byte) : Option ReviewCall :=
  if bytes.length = 12 then some (decodeReviewBody bytes) else none

/-- The command by which a review request reaches the part. -/
def ReviewCall.command : ReviewCall → Instr
  | .locate channel run index => .locate channel run index
  | .pin block => .pin block
  | .unpin block => .unpin block
  | .read block offset length => .read block offset length
  | .describe block => .describe block
  | .unknown kind => .unknownReviewKind kind

/-- The bytes of a review request; a field marked zero is sent as zero (R187). -/
def encodeReviewRequest : ReviewCall → List Byte
  | .locate channel run index => [1#8, 0#8, channel, run] ++ leBytes 8 index.toNat
  | .pin block => [2#8, 0#8] ++ leBytes 2 block.toNat ++ leBytes 8 0
  | .unpin block => [3#8, 0#8] ++ leBytes 2 block.toNat ++ leBytes 8 0
  | .read block offset length =>
      [4#8, 0#8] ++ leBytes 2 block.toNat ++ leBytes 4 offset.toNat ++ leBytes 2 length.toNat ++ leBytes 2 0
  | .describe block => [5#8, 0#8] ++ leBytes 2 block.toNat ++ leBytes 8 0
  | .unknown kind => kind :: leBytes 11 0

/-! ## The opcode table -/

/-- The command a word of the opcode table's bits spells: spec/opcode_table.json gives bits for no row, so no word spells one. -/
def decodeTableWord (_nbits _w : Nat) : Option Instr := none

end Sys2Proof
end

