-- ==== Sys2Proof/Config.lean ====
section
/-! DEFINITION. What the spec fixes for this part, by name, and the free values of the model. -/

namespace Sys2Proof.Config

/-- A block is 1 MiB (R67). -/
def blockSize : Nat := 1048576
/-- Blocks per plane (R67). -/
def blocksPerPlane : Nat := 2048
/-- Blocks 0..8191 (R67). -/
def blockCount : Nat := 8192
/-- Bytes of capture memory: four planes of 2 GiB (R67). -/
def memorySize : Nat := 8589934592
/-- A channel's staging buffer (R55). -/
def stagingSize : Nat := 4096
/-- Room kept free for the padding of the open record (R56). -/
def padReserve : Nat := 3
/-- Free room the exit test of a LOSS channel asks for (R33). -/
def exitRoom : Nat := 1024
/-- Occupancy at which a channel's intake is urgent (R96). -/
def urgentOccupancy : Nat := 3072
/-- Largest payload piece (R99). -/
def pieceMax : Nat := 512
/-- Header of a trace record (R183). -/
def recordHeaderSize : Nat := 32
/-- A drain half, and the payload of a full DATA frame (R117). -/
def halfSize : Nat := 4096
/-- Refreshes a plane can be owed (R103). -/
def owedMax : Nat := 8
/-- Entries of the Mark Queue (R128). -/
def markQueueMax : Nat := 64
/-- Where the sweep-skip count and the rejected count stay (R131, R146). -/
def countMax : Nat := 65535
/-- Entries of the request queue and of the reply queue (R154). -/
def requestQueueMax : Nat := 4
/-- Pins a block can carry (R87). -/
def pinMax : Nat := 3
/-- Outstanding limit of the drain (R114). -/
def outstandingMax : Nat := 256
/-- Entries a configuration flash image may count (R177). -/
def flashEntriesMax : Nat := 1024
/-- HELLO repeat interval, ms (R139). -/
def helloMs : Nat := 10
/-- Receive-silence interval, ms (R142). -/
def silenceMs : Nat := 1
/-- Bound on a training attempt, ms (R138). -/
def attemptMs : Nat := 4
/-- Bound on a plane's initialisation, ms (R105). -/
def planeInitMs : Nat := 250
/-- Settle interval, ms (R176). -/
def settleMs : Nat := 1
/-- The Wezane family code (R181). -/
def familyCode : Word16 := 0x5A57#16
/-- The revision of the part documented (R181). -/
def revision : Word16 := 0x0002#16

/-- FREE VALUE (log entry 8, DESIGN CHOICE). The two bytes at offset 4 of a PIN, UNPIN or READ response whose status leaves the
pin count or the clipped length unstated (R187). Applied to the count of free values taken so far. -/
opaque openReviewField : Nat → Word16

end Sys2Proof.Config
end

