-- ==== Sys2Proof/Machine/State.lean ====
section
/-! DEFINITION. The state of the part as plain data, block by block as the introduction of the spec lists them, and the state
right after the release of a device reset. -/

namespace Sys2Proof.Machine

/-! ## Names the spec gives to states, modes and causes -/

inductive StreamState where | init | standby | run | pause | halt
  deriving DecidableEq, Repr
inductive ChannelState where | idle | armed | active | loss | closing
  deriving DecidableEq, Repr
inductive BlockState where | offline | free | filling | sealing | queued | sending | sent | redrain | retired
  deriving DecidableEq, Repr
inductive LinkState where | down | training | syncWait | ready
  deriving DecidableEq, Repr
inductive PressureLevel where | open_ | tight | critical
  deriving DecidableEq, Repr
inductive HelloReason where | deviceStart | linkUp | streamReset
  deriving DecidableEq, Repr
inductive LossCause where | frame | overrun | shed | nospace | held
  deriving DecidableEq, Repr
inductive SealCause where | full | age | sweep | flush | stop
  deriving DecidableEq, Repr
inductive Mode where | pass | pick | mean | peak
  deriving DecidableEq, Repr
inductive Width where | w8 | w12 | w16
  deriving DecidableEq, Repr
inductive Policy where | keep | degrade | shed
  deriving DecidableEq, Repr
inductive EndKind where | split | break_
  deriving DecidableEq, Repr
inductive PlaneState where | initialising | ready | faulty
  deriving DecidableEq, Repr
inductive HalfState where | empty | loading | loaded | transmitting | abandoned
  deriving DecidableEq, Repr
inductive StartMode where | link | flash | flashRun | hold
  deriving DecidableEq, Repr
inductive StartPhase where | planeWait | settle | flashLoad | done
  deriving DecidableEq, Repr
inductive ReplyStatus where | ok | busy | refused | badArg | unknownKind
  deriving DecidableEq, Repr
inductive ReviewStatus where | ok | busy | notFound | badState | pinLimit | notPinned | badArg | aborted
  deriving DecidableEq, Repr

/-- A set of loss causes: bit n is the cause whose code is n (R181). -/
abbrev CauseSet := BitVec 5

/-! ## Acquisition Port -/

/-- The frame being received: its words so far, at most 35, and whether a further word was discarded (R1). -/
structure OpenFrame where
  words : List Word16
  overlong : Bool
  deriving DecidableEq, Repr

structure AcquisitionPort where
  /-- next expected tag; `none` is unset (R3, R5) -/
  expected : Option Word16
  frameCounter : Word64
  sweepCounter : Word32
  forcedBoundary : Bool
  tagResync : Bool
  openFrame : Option OpenFrame
  deriving DecidableEq, Repr

/-! ## Table Store -/

/-- A table entry with its pending copy (R13, R158). -/
structure Entry (α : Type) where
  current : α
  pending : Option α
  deriving DecidableEq, Repr

/-- A Profile Table entry (R43): factor 1..65536, offset −32768..32767, record_len 16..65536. -/
structure Profile where
  factor : Nat
  mode : Mode
  width : Width
  offset : Int
  recordLen : Nat
  deriving DecidableEq, Repr

/-- A Channel Table entry (R20); zone_line NONE is `none`. -/
structure ChannelConfig where
  profileA : Fin 8
  profileB : Fin 8
  profileF : Fin 8
  zoneLine : Option (Fin 4)
  cls : ClassId
  policy : Policy
  sealAgeMs : Nat
  sealAtSweep : Bool
  startAtSweep : Bool
  autostart : Bool
  deriving DecidableEq, Repr

/-- The current fields of Settings (R159); plane_mask is a plane set, bit p for plane p (R181). -/
structure Settings where
  slotCount : Nat
  planeMask : BitVec 4
  tightMark : Nat
  criticalMark : Nat
  hysteresis : Nat
  weights : Vector Nat 4
  deriving DecidableEq, Repr

structure TableStore where
  /-- `none` is UNUSED (R14) -/
  slotMap : Vector (Entry (Option ChannelId)) 32
  profiles : Vector (Entry Profile) 8
  channels : Vector (Entry ChannelConfig) 16
  settings : Settings
  /-- the Settings pending copy, which holds slot_count alone (R159) -/
  pendingSlotCount : Option Nat
  deriving DecidableEq, Repr

/-! ## Channel Engines -/

/-- The profile number a channel works under, with its copy of the content (R27, R44). -/
structure CurrentProfile where
  number : Fin 8
  content : Profile
  deriving DecidableEq, Repr

/-- The group accumulator (R46). -/
structure Group where
  n : Nat
  sum : Int
  first : Int
  least : Int
  greatest : Int
  firstIndex : Word64
  firstFrame : Word64
  deriving DecidableEq, Repr

/-- The open record and its OPEN header slot: target and fields known so far (R57, R59, R65). -/
structure OpenRecord where
  block : BlockId
  offset : Nat
  firstIndex : Word64
  firstFrame : Word64
  sweep : Word32
  valueCount : Nat
  clipCount : Nat
  /-- last index of the last group placed (R66) -/
  lastIndex : Word64
  deriving DecidableEq, Repr

/-- A complete record header (R65). -/
structure RecordHeader where
  firstIndex : Word64
  span : Nat
  firstFrame : Word64
  sweep : Word32
  factor : Nat
  offset : Int
  valueCount : Nat
  clipCount : Nat
  mode : Mode
  width : Width
  endKind : EndKind
  short : Bool
  deriving DecidableEq, Repr

/-- A WAITING header slot: the header and where it goes (R57). -/
structure WaitingHeader where
  block : BlockId
  offset : Nat
  header : RecordHeader
  deriving DecidableEq, Repr

/-- One run of the staging buffer: the payload of one record (R55). `pending` are the emitted bytes not yet written. -/
structure StagedRun where
  block : BlockId
  recordOffset : Nat
  written : Nat
  pending : List Byte
  closed : Bool
  deriving DecidableEq, Repr

/-- The gap holder's content, and the content of a GAP mark (R28, R129). -/
structure Gap where
  channel : ChannelId
  run : Byte
  firstIndex : Word64
  count : Word64
  firstFrame : Option Word64
  firstCause : LossCause
  causes : CauseSet
  deriving DecidableEq, Repr

structure Channel where
  state : ChannelState
  run : Byte
  nextIndex : Word64
  lastSweep : Word32
  current : Option CurrentProfile
  group : Option Group
  record : Option OpenRecord
  pack : Option (BitVec 12)
  /-- the staging buffer, oldest run first (R55) -/
  runs : List StagedRun
  /-- the WAITING header slots, oldest first (R57, log entry 13) -/
  waiting : List WaitingHeader
  filling : Option BlockId
  sealTimer : Timer
  gap : Option Gap
  deriving DecidableEq, Repr

/-! ## Ring Manager -/

/-- A block descriptor (R69); id and plane follow from the block. -/
structure Descriptor where
  state : BlockState
  owner : Option ChannelId
  run : Option Byte
  cls : Option ClassId
  cause : Option SealCause
  firstIndex : Option Word64
  lastIndex : Option Word64
  firstFrame : Option Word64
  sweep : Option Word32
  bytesUsed : Nat
  records : Nat
  unwritten : Nat
  seq : Option Word32
  pins : Nat
  deriving DecidableEq, Repr

structure Ring where
  /-- The Block Table: block ids strictly rising, no FREE or OFFLINE block listed. A block not listed has its descriptor
  cleared; it is FREE when its plane has a free list and OFFLINE otherwise (R67, R69, R71). -/
  blocks : List (BlockId × Descriptor)
  /-- the free list of each plane, oldest release first; `none` when the plane has none (R71) -/
  free : Vector (Option (List BlockId)) 4
  rotation : PlaneId
  level : PressureLevel
  /-- class queues 0..3, oldest first: DS's (R109), changed with the block's state in one action (R68, R80) -/
  queues : Vector (List BlockId) 4
  deriving DecidableEq, Repr

/-! ## Capture Memory Controller -/

/-- One access of a plane port (R94). `live` is cleared by a stream reset: the access still runs to its end, and its
completion is not reported (R107). -/
inductive Access where
  | refresh
  | headerWrite (c : ChannelId) (block : BlockId) (offset : Nat) (bytes : List Byte) (live : Bool)
  | payloadWrite (c : ChannelId) (block : BlockId) (offset : Nat) (bytes : List Byte) (live : Bool)
  | halfLoad (half : Fin 2) (block : BlockId) (offset : Nat) (length : Nat)
  | reviewRead (block : BlockId) (offset : Nat) (length : Nat) (live : Bool)
  deriving DecidableEq, Repr

/-- A DRAIN claim (R101). -/
structure LoadClaim where
  half : Fin 2
  block : BlockId
  offset : Nat
  length : Nat
  deriving DecidableEq, Repr

/-- The REVIEW claim (R102). -/
structure ReadClaim where
  block : BlockId
  offset : Nat
  length : Nat
  deriving DecidableEq, Repr

structure Plane where
  state : PlaneState
  port : Option Access
  /-- intake pointer (R98) -/
  pointer : ChannelId
  /-- refresh owed (R103) -/
  owed : Nat
  lapse : Bool
  fault : Bool
  drain : List LoadClaim
  review : Option ReadClaim
  initTimer : Timer
  deriving DecidableEq, Repr

/-! ## Drain Scheduler -/

/-- A member of the SENT or REDRAIN list with its send sequence (R111). -/
structure Sequenced where
  block : BlockId
  seq : Word32
  deriving DecidableEq, Repr

/-- A block of the SENDING slot (R110), with the frames claimed for loading and the frames begun so far (R117, R118). -/
structure SlotEntry where
  block : BlockId
  seq : Word32
  covered : Bool
  resend : Bool
  claimed : Nat
  begun : Nat
  deriving DecidableEq, Repr

/-- The frame of a drain half: the header fields read from RM at the claim (R118), and the bytes the load brought. -/
structure HalfFrame where
  block : BlockId
  seq : Word32
  frame : Nat
  frameCount : Nat
  offset : Nat
  length : Nat
  resend : Bool
  descriptor : Descriptor
  payload : List Byte
  deriving DecidableEq, Repr

structure Half where
  state : HalfState
  frame : Option HalfFrame
  deriving DecidableEq, Repr

structure Drain where
  currentClass : ClassId
  turn : Nat
  redrain : List Sequenced
  sent : List Sequenced
  slot : List SlotEntry
  halves : Vector Half 2
  granted : Word32
  committed : Word32
  transmitted : Word32
  highest : Word32
  nextSeq : Word32
  deriving DecidableEq, Repr

/-! ## Mark Unit -/

/-- A GAP mark or a SWEEP mark (sweep, boundary frame, skipped count) (R129, R131). -/
inductive Mark where
  | gap (g : Gap)
  | sweep (sweep : Word32) (frame : Word64) (skipped : Nat)
  deriving DecidableEq, Repr

structure MarkUnit where
  queue : List Mark
  headInTx : Bool
  skip : Nat
  deriving DecidableEq, Repr

/-! ## Management Unit -/

structure Request where
  tag : Byte
  kind : Byte
  contents : List Byte
  deriving DecidableEq, Repr

structure Reply where
  tag : Byte
  kind : Byte
  status : ReplyStatus
  contents : List Byte
  overflow : Bool
  deriving DecidableEq, Repr

structure Management where
  queue : List Request
  inProgress : Option Request
  replies : List Reply
  replyInTx : Bool
  overflow : Bool
  stream : StreamState
  deriving DecidableEq, Repr

/-! ## Spool Link -/

/-- The contents of a HELLO frame (R144). -/
structure Hello where
  reason : HelloReason
  stream : StreamState
  granted : Word32
  committed : Word32
  transmitted : Word32
  highest : Word32
  nextSeq : Word32
  redrain : Nat
  deriving DecidableEq, Repr

/-- The forward frame being sent (R148). A HELLO's `counts` and a MARK's `live` are cleared by a stream reset: the frame runs to
its end, and its end no longer counts (R151). A DATA frame's bytes are its half's. -/
inductive TxFrame where
  | hello (h : Hello) (counts : Bool)
  | reply (r : Reply)
  | mark (m : Mark) (live : Bool)
  | data (half : Fin 2)
  | fill
  deriving DecidableEq, Repr

structure Link where
  state : LinkState
  lanes : Nat
  reason : HelloReason
  helloDue : Bool
  helloSent : Bool
  helloTimer : Timer
  silenceTimer : Timer
  attemptTimer : Timer
  tx : Option TxFrame
  rejected : Nat
  /-- a return frame whose reception ended before the DOWN may still be handed on (R137, log entry 9) -/
  late : Bool
  deriving DecidableEq, Repr

/-! ## Review Port -/

/-- The request in progress: a LOCATE with its scan position, or a READ with its clipped length (R170, R173). A PIN, UNPIN or DESCRIBE
is answered in the step of its arrival and never waits here (log entry 34). -/
inductive ReviewRequest where
  | locate (channel : ChannelId) (run : Byte) (index : Word64) (position : Nat)
  | read (block : BlockId) (offset : Nat) (length : Nat)
  deriving DecidableEq, Repr

/-- A response given to the display processor (R187): 8 bytes of head, then `extra`. -/
structure ReviewResponse where
  kind : Byte
  status : ReviewStatus
  block : Word16
  value : Word16
  extra : List Byte
  deriving DecidableEq, Repr

structure ReviewPort where
  slot : Option ReviewRequest
  hold : Bool
  /-- the responses given so far, in order (log entry 21) -/
  responses : List ReviewResponse
  deriving DecidableEq, Repr

/-! ## Start-up logic -/

structure StartUp where
  mode : StartMode
  phase : StartPhase
  settleTimer : Timer
  configFault : Bool
  /-- the RESET pin is low: the part is held in device reset (R175, log entry 16) -/
  resetLow : Bool
  deriving DecidableEq, Repr

/-! ## The whole part -/

structure State where
  ap : AcquisitionPort
  ts : TableStore
  chans : Vector Channel 16
  rm : Ring
  planes : Vector Plane 4
  ds : Drain
  marks : MarkUnit
  mu : Management
  sl : Link
  rp : ReviewPort
  su : StartUp
  /-- capture memory: addresses strictly rising, no entry 0; an address not listed reads 0 (R105, log entry 11) -/
  mem : List Host.Cell
  /-- the commands that wait, first in first out (log entry 1) -/
  pending : List Instr
  /-- the review requests that will arrive while the next stream reset goes on, first to arrive first (R165, R174, log entry 5) -/
  resetArrivals : List ReviewCall
  /-- FREE VALUE as plain data: the order in which the channels take the next events common to them (log entry 7) -/
  orders : List (List ChannelId)
  /-- how many free values of Config have been taken (log entry 8) -/
  fresh : Nat
  deriving DecidableEq, Repr

/-- Why the part's model stops. -/
inductive Fault where
  /-- A port access reaches a byte outside the 8 GiB of capture memory (R67). Raised by HEADER_WRITE_COMPLETE,
  PAYLOAD_WRITE_COMPLETE, HALF_LOAD_COMPLETE and REVIEW_READ_COMPLETE. SAFE: the spec gives such an address no byte, and no state
  the part reaches makes such an access (log entry 19). -/
  | outsideCaptureMemory (address : Nat)
  deriving DecidableEq, Repr

/-- Why a command is refused. -/
inductive Refusal where
  /-- Raised by exec for a command that has no meaning yet; no command of this model is left so. SAFE. -/
  | notModelled (mnemonic : String)
  deriving DecidableEq, Repr

/-! ## After a device reset -/

/-- R18. -/
def AcquisitionPort.reset : AcquisitionPort :=
  { expected := none, frameCounter := 0#64, sweepCounter := 0#32, forcedBoundary := false, tagResync := false,
    openFrame := none }

/-- The defaults of the Profile Table (R45). -/
def Profile.default : Profile :=
  { factor := 1, mode := .pass, width := .w16, offset := 0, recordLen := 1024 }

/-- The defaults of the Channel Table (R42). -/
def ChannelConfig.default : ChannelConfig :=
  { profileA := 0, profileB := 0, profileF := 0, zoneLine := none, cls := 3, policy := .keep, sealAgeMs := 100,
    sealAtSweep := false, startAtSweep := true, autostart := false }

/-- R18, R92, R127. -/
def Settings.default : Settings :=
  { slotCount := 2, planeMask := 0b1111#4, tightMark := 1024, criticalMark := 256, hysteresis := 64,
    weights := #v[8, 4, 2, 1] }

/-- R18, R45, R42, R168. -/
def TableStore.reset : TableStore :=
  { slotMap := Vector.replicate 32 ⟨none, none⟩
    profiles := Vector.replicate 8 ⟨Profile.default, none⟩
    channels := Vector.replicate 16 ⟨ChannelConfig.default, none⟩
    settings := Settings.default
    pendingSlotCount := none }

/-- R42. -/
def Channel.reset : Channel :=
  { state := .idle, run := 0#8, nextIndex := 0#64, lastSweep := 0#32, current := none, group := none, record := none,
    pack := none, runs := [], waiting := [], filling := none, sealTimer := none, gap := none }

/-- A cleared descriptor (R69). -/
def Descriptor.cleared (st : BlockState) : Descriptor :=
  { state := st, owner := none, run := none, cls := none, cause := none, firstIndex := none, lastIndex := none,
    firstFrame := none, sweep := none, bytesUsed := 0, records := 0, unwritten := 0, seq := none, pins := 0 }

/-- R92, R127. -/
def Ring.reset : Ring :=
  { blocks := [], free := Vector.replicate 4 none, rotation := 3, level := .critical, queues := Vector.replicate 4 [] }

/-- R107. -/
def Plane.reset : Plane :=
  { state := .initialising, port := none, pointer := 15, owed := 0, lapse := false, fault := false, drain := [],
    review := none, initTimer := some Config.planeInitMs }

/-- R127. -/
def Drain.reset : Drain :=
  { currentClass := 0, turn := 0, redrain := [], sent := [], slot := [], halves := Vector.replicate 2 ⟨.empty, none⟩,
    granted := 0#32, committed := 0#32, transmitted := 0#32, highest := 0#32, nextSeq := 1#32 }

/-- R136. -/
def MarkUnit.reset : MarkUnit := { queue := [], headInTx := false, skip := 0 }

/-- R168. -/
def Management.reset : Management :=
  { queue := [], inProgress := none, replies := [], replyInTx := false, overflow := false, stream := .init }

/-- R152: DOWN, then TRAINING at once, with a first attempt begun (R138, log entry 17). -/
def Link.reset : Link :=
  { state := .training, lanes := 0, reason := .deviceStart, helloDue := false, helloSent := false, helloTimer := none,
    silenceTimer := none, attemptTimer := some Config.attemptMs, tx := none, rejected := 0, late := false }

/-- R175. -/
def ReviewPort.reset : ReviewPort := { slot := none, hold := false, responses := [] }

/-- R180; the start mode the straps name (R176). -/
def StartUp.reset (mode : StartMode) : StartUp :=
  { mode := mode, phase := .planeWait, settleTimer := none, configFault := false, resetLow := false }

/-- The part right after the release of a device reset whose straps read 00, LINK: what unconnected straps read
(11, "Electrical facts"; log entry 10). -/
def State.reset : State :=
  { ap := AcquisitionPort.reset
    ts := TableStore.reset
    chans := Vector.replicate 16 Channel.reset
    rm := Ring.reset
    planes := Vector.replicate 4 Plane.reset
    ds := Drain.reset
    marks := MarkUnit.reset
    mu := Management.reset
    sl := Link.reset
    rp := ReviewPort.reset
    su := StartUp.reset .link
    mem := []
    pending := []
    resetArrivals := []
    orders := []
    fresh := 0 }

end Sys2Proof.Machine
end

