-- ==== Sys2Proof/Machine/Ops.lean ====
section
/-! DEFINITION. The operations the meanings share: sorted tables, capture memory, serial comparison, the order in which
channels take a common event, and the guard of the RESET pin. -/

namespace Sys2Proof.Machine

/-- What a meaning answers. -/
abbrev Answer := Host.Outcome State Fault Refusal

/-! ## Tables with rising keys -/

def tableGet {α : Type} : List (Nat × α) → Nat → Option α
  | [], _ => none
  | (k, v) :: t, a => if a = k then some v else tableGet t a

def tablePut {α : Type} : List (Nat × α) → Nat → α → List (Nat × α)
  | [], a, v => [(a, v)]
  | (k, w) :: t, a, v =>
    if a < k then (a, v) :: (k, w) :: t else if a = k then (a, v) :: t else (k, w) :: tablePut t a v

def tableDel {α : Type} : List (Nat × α) → Nat → List (Nat × α)
  | [], _ => []
  | (k, w) :: t, a => if a = k then t else (k, w) :: tableDel t a

/-- The keys strictly rise. -/
def tableRising {α : Type} : List (Nat × α) → Bool
  | [] => true
  | [_] => true
  | (k, _) :: (k', w) :: t => decide (k < k') && tableRising ((k', w) :: t)

/-! ## Capture memory (R67, R94, R99) -/

/-- An address not listed reads 0 (R105, log entry 11). -/
def readByte (m : List Host.Cell) (a : Nat) : Byte := (tableGet m a).getD 0#8

/-- A write keeps the canonical form: writing 0 removes the entry. -/
def writeByte (m : List Host.Cell) (a : Nat) (v : Byte) : List Host.Cell :=
  if v = 0#8 then tableDel m a else tablePut m a v

def writeBytes (m : List Host.Cell) (a : Nat) : List Byte → List Host.Cell
  | [] => m
  | b :: bs => writeBytes (writeByte m a b) (a + 1) bs

def readBytes (m : List Host.Cell) (a : Nat) : Nat → List Byte
  | 0 => []
  | n + 1 => readByte m a :: readBytes m (a + 1) n

/-- The canonical form of capture memory: addresses strictly rising, no entry equal to what an unlisted address reads as. -/
def Memory.wf (m : List Host.Cell) : Bool := tableRising m && m.all (fun c => c.2 != 0#8)

/-- The address of an offset of a block (R67). -/
def blockAddress (b : BlockId) (off : Nat) : Nat := b * Config.blockSize + off

/-- The whole range lies in capture memory. -/
def inMemory (a len : Nat) : Bool := decide (a + len ≤ Config.memorySize)

/-- The plane a block lies in (R67). -/
def planeOf (b : BlockId) : PlaneId := Fin.ofNat 4 (b / Config.blocksPerPlane)

/-- The plane an address lies in (R67). -/
def planeOfAddress (a : Nat) : PlaneId := planeOf (a / Config.blockSize)

/-- Step 3 of R105: zero bytes over the whole plane. -/
def clearPlane (m : List Host.Cell) (p : PlaneId) : List Host.Cell := m.filter (fun c => planeOfAddress c.1 != p)

/-! ## Serial comparison (00, "Serial comparison") -/

/-- `a` is after `b`. -/
def seqAfter (a b : Word32) : Bool := decide (1 ≤ (a - b).toNat ∧ (a - b).toNat < 2 ^ 31)

/-- `a` is at or before `b`. -/
def seqAtOrBefore (a b : Word32) : Bool := !seqAfter a b

/-! ## Channels that take a common event (log entry 7) -/

def allChannels : List ChannelId := [0, 1, 2, 3, 4, 5, 6, 7, 8, 9, 10, 11, 12, 13, 14, 15]

/-- Every member once, at its first place. -/
def firstPlaces : List ChannelId → List ChannelId
  | [] => []
  | c :: t => c :: (firstPlaces t).filter (fun d => d != c)

/-- An order of all the channels: those `o` names, in its order, then the others by number. -/
def completeOrder (o : List ChannelId) : List ChannelId :=
  firstPlaces o ++ allChannels.filter (fun c => !o.contains c)

/-- The order of the next common event: the next of the free orders. -/
def nextOrder (s : State) : List ChannelId := completeOrder (s.orders.headD [])

/-- A common event taken: its order is used up. -/
def dropOrder (s : State) : State := { s with orders := s.orders.tail }

/-- Every channel takes `f` as its own event, one after another. -/
def eachChannel (f : ChannelId → State → State) (s : State) : State :=
  (nextOrder s).foldl (fun t c => f c t) (dropOrder s)

/-! ## The RESET pin -/

/-- While the RESET pin is low the part acts on nothing but the release (11, "RESET pin"; log entry 16). -/
def released (s : State) (f : State → State) : Answer :=
  if s.su.resetLow then .next s else .next (f s)

/-- An event that can only occur when `can` holds: otherwise nothing happens (log entry 3). -/
def onlyWhen (can : Bool) (f : State → State) (s : State) : State := if can then f s else s

end Sys2Proof.Machine
end

