-- ==== Sys2Proof/Machine/Flags.lean ====
section
/-! DEFINITION. Sets of causes and planes, counters that stay at their top, the pressure level, and the sticky flags with the
actions that set, report and clear them. -/

namespace Sys2Proof.Machine

/-! ## Sets (R181) -/

/-- The code of a loss cause (R181). -/
def causeCode : LossCause → Nat
  | .frame => 0 | .overrun => 1 | .shed => 2 | .nospace => 3 | .held => 4

/-- The set of one cause. -/
def causeSet (c : LossCause) : CauseSet := BitVec.ofNat 5 (2 ^ causeCode c)

/-- `c` joins the set (R28). -/
def addCause (s : CauseSet) (c : LossCause) : CauseSet := s ||| causeSet c

/-- `c` joins the set when its condition failed (R33). -/
def addCauseIf (failed : Bool) (c : LossCause) (s : CauseSet) : CauseSet := if failed then addCause s c else s

/-- Plane `p` is in the set. -/
def inPlaneSet (m : BitVec 4) (p : PlaneId) : Bool := m.getLsbD p.val

/-- A plane set from a test (R181). -/
def planeSet (f : PlaneId → Bool) : BitVec 4 :=
  BitVec.ofBool (f 3) ++ BitVec.ofBool (f 2) ++ BitVec.ofBool (f 1) ++ BitVec.ofBool (f 0)

/-- The set without plane `p`. -/
def removePlane (m : BitVec 4) (p : PlaneId) : BitVec 4 := planeSet (fun q => inPlaneSet m q && q != p)

/-- A count that stays at 65535 once it reaches it (R131, R146). -/
def countUp (n : Nat) : Nat := if n < Config.countMax then n + 1 else n

/-! ## Pressure (R74) -/

/-- One move of R74, with the free count `f`. -/
def pressureMove (st : Settings) (f : Nat) : PressureLevel → PressureLevel
  | .open_ => if f ≤ st.tightMark then .tight else .open_
  | .tight => if st.tightMark + st.hysteresis < f then .open_ else if f ≤ st.criticalMark then .critical else .tight
  | .critical => if st.criticalMark + st.hysteresis < f then .tight else .critical

/-- R74: moves until none applies; two are enough from every level. -/
def pressureLevel (st : Settings) (f : Nat) (l : PressureLevel) : PressureLevel :=
  pressureMove st f (pressureMove st f l)

/-! ## Sticky flags -/

/-- A refresh tick at a READY plane (R103, R104). -/
def tickPlane (p : Plane) : Plane :=
  if p.owed < Config.owedMax then { p with owed := p.owed + 1 } else { p with lapse := true }

/-- A STATUS_QUERY's reading clears the four REFRESH_LAPSE flags in the same action (R104). -/
def clearLapses (ps : Vector Plane 4) : Vector Plane 4 := mapV (fun p => { p with lapse := false }) ps

/-- A STATUS_QUERY's reading clears TAG_RESYNC in the same action (R6). -/
def clearTagResync (ap : AcquisitionPort) : AcquisitionPort := { ap with tagResync := false }

end Sys2Proof.Machine
end

