-- ==== Sys2Proof/Machine/Formats.lean ====
section
/-! DEFINITION. The layouts of 12_formats.md that the part builds: codes, trace record headers and packing, descriptors, replies,
marks, HELLO and DATA headers, review responses. Fields no layout gives are zero (12, first paragraph). -/

namespace Sys2Proof.Machine

/-! ## Codes (R181) -/

def byteOf (n : Nat) : Byte := BitVec.ofNat 8 n
def yesNo (b : Bool) : Byte := if b then 1#8 else 0#8

def StreamState.code : StreamState → Byte
  | .init => 0#8 | .standby => 1#8 | .run => 2#8 | .pause => 3#8 | .halt => 4#8
def ChannelState.code : ChannelState → Byte
  | .idle => 0#8 | .armed => 1#8 | .active => 2#8 | .loss => 3#8 | .closing => 4#8
def BlockState.code : BlockState → Byte
  | .offline => 0#8 | .free => 1#8 | .filling => 2#8 | .sealing => 3#8 | .queued => 4#8 | .sending => 5#8
  | .sent => 6#8 | .redrain => 7#8 | .retired => 8#8
def LinkState.code : LinkState → Byte
  | .down => 0#8 | .training => 1#8 | .syncWait => 2#8 | .ready => 3#8
def PressureLevel.code : PressureLevel → Byte
  | .open_ => 0#8 | .tight => 1#8 | .critical => 2#8
def HelloReason.code : HelloReason → Byte
  | .deviceStart => 0#8 | .linkUp => 1#8 | .streamReset => 2#8
def SealCause.code : SealCause → Byte
  | .full => 0#8 | .age => 1#8 | .sweep => 2#8 | .flush => 3#8 | .stop => 4#8
def Mode.code : Mode → Nat
  | .pass => 0 | .pick => 1 | .mean => 2 | .peak => 3
def Policy.code : Policy → Byte
  | .keep => 0#8 | .degrade => 1#8 | .shed => 2#8
def ReplyStatus.code : ReplyStatus → Byte
  | .ok => 0#8 | .busy => 1#8 | .refused => 2#8 | .badArg => 3#8 | .unknownKind => 4#8
def ReviewStatus.code : ReviewStatus → Byte
  | .ok => 0#8 | .busy => 1#8 | .notFound => 2#8 | .badState => 3#8 | .pinLimit => 4#8 | .notPinned => 5#8
  | .badArg => 6#8 | .aborted => 7#8

/-- The number of bits of a stored value. -/
def Width.bits : Width → Nat
  | .w8 => 8 | .w12 => 12 | .w16 => 16

/-- The width's code in a record header (R183). -/
def Width.headerCode : Width → Nat
  | .w8 => 0 | .w12 => 1 | .w16 => 2

/-- A set of causes in one byte. -/
def causeByte (s : CauseSet) : Byte := s.setWidth 8

/-- A plane set in one byte. -/
def planeSetByte (m : BitVec 4) : Byte := m.setWidth 8

/-- A signed 16-bit field. -/
def signed16 (x : Int) : List Byte := leBytes 2 (BitVec.ofInt 16 x).toNat

def word16 (w : Word16) : List Byte := leBytes 2 w.toNat
def word32 (w : Word32) : List Byte := leBytes 4 w.toNat
def word64 (w : Word64) : List Byte := leBytes 8 w.toNat
def zeros (n : Nat) : List Byte := List.replicate n 0#8

/-- A field absent in a descriptor, whose presence another field tells, leaves its bytes zero (R186, log entry 14). -/
def optWord32 (w : Option Word32) : List Byte := word32 (w.getD 0#32)
def optWord64 (w : Option Word64) : List Byte := word64 (w.getD 0#64)

/-! ## Trace records (R52, R53, R54, R183) -/

/-- The three bytes of a pair at W 12 (R183). -/
def pairBytes (a b : BitVec 12) : List Byte :=
  [a.setWidth 8, (a >>> 8).setWidth 8 ||| (b.setWidth 8 <<< 4), (b >>> 4).setWidth 8]

/-- The two bytes of a lone final value at W 12 (R53, R183). -/
def loneBytes (a : BitVec 12) : List Byte := [a.setWidth 8, (a >>> 8).setWidth 8]

/-- R183. -/
def RecordHeader.bytes (h : RecordHeader) : List Byte :=
  word64 h.firstIndex ++ leBytes 4 (h.span - 1) ++ word64 h.firstFrame ++ word32 h.sweep ++ leBytes 2 (h.factor - 1)
    ++ signed16 h.offset ++ leBytes 2 (h.valueCount - 1) ++ [byteOf h.clipCount]
    ++ [byteOf (h.mode.code + 4 * h.width.headerCode + (if h.endKind = .break_ then 16 else 0) + (if h.short then 32 else 0))]

/-! ## Block descriptors (R186) -/

def Descriptor.bytes (b : BlockId) (d : Descriptor) : List Byte :=
  leBytes 2 b ++ [byteOf (planeOf b).val, d.state.code]
    ++ [match d.owner with | some c => byteOf c.val | none => 0xFF#8]
    ++ [match d.run with | some r => r | none => 0xFF#8]
    ++ [match d.cls with | some k => byteOf k.val | none => 0xFF#8]
    ++ [match d.cause with | some k => k.code | none => 0xFF#8]
    ++ [byteOf d.pins]
    ++ [byteOf ((if d.firstIndex.isSome then 1 else 0) + (if d.seq.isSome then 2 else 0))]
    ++ zeros 2 ++ leBytes 4 d.bytesUsed ++ leBytes 4 d.records ++ leBytes 4 d.unwritten ++ optWord32 d.seq
    ++ optWord64 d.firstIndex ++ optWord64 d.lastIndex ++ optWord64 d.firstFrame ++ optWord32 d.sweep ++ zeros 8

/-! ## Table entries (R185) -/

def slotMapBytes (e : Option ChannelId) : List Byte :=
  [match e with | some c => byteOf c.val | none => 31#8] ++ zeros 3

def Profile.bytes (p : Profile) : List Byte :=
  leBytes 2 (p.factor - 1) ++ leBytes 2 (p.recordLen - 1) ++ signed16 p.offset ++ [byteOf p.mode.code, byteOf p.width.bits]

def ChannelConfig.bytes (c : ChannelConfig) : List Byte :=
  [byteOf c.profileA.val, byteOf c.profileB.val, byteOf c.profileF.val,
   match c.zoneLine with | some z => byteOf z.val | none => 4#8, byteOf c.cls.val, c.policy.code]
    ++ leBytes 2 c.sealAgeMs ++ [yesNo c.sealAtSweep, yesNo c.startAtSweep, yesNo c.autostart, 0#8]

def Settings.bytes (st : Settings) : List Byte :=
  [byteOf st.slotCount, planeSetByte st.planeMask] ++ leBytes 2 st.tightMark ++ leBytes 2 st.criticalMark
    ++ leBytes 2 st.hysteresis
    ++ [byteOf st.weights[0], byteOf st.weights[1], byteOf st.weights[2], byteOf st.weights[3]]

/-- The runtime part of a Channel Table entry: 12 bytes (R22, R184). -/
def Channel.runtimeBytes (ch : Channel) : List Byte :=
  [ch.state.code, ch.run, match ch.gap with | some g => causeByte g.causes | none => 0#8, 0#8] ++ word64 ch.nextIndex

/-! ## Forward frames (R184) -/

/-- REPLY: header and contents (R156, R184). -/
def Reply.body (r : Reply) : List Byte :=
  [0x03#8, r.tag, r.kind, r.status.code] ++ leBytes 2 r.contents.length ++ [yesNo r.overflow, 0#8] ++ r.contents

/-- HELLO: 32 header bytes (R144, R184). -/
def Hello.body (h : Hello) : List Byte :=
  [0x04#8, h.reason.code, h.stream.code, 0#8] ++ word16 Config.familyCode ++ word16 Config.revision ++ word32 h.granted
    ++ word32 h.committed ++ word32 h.transmitted ++ word32 h.highest ++ word32 h.nextSeq ++ leBytes 2 h.redrain ++ zeros 2

/-- MARK: 48 header bytes (R129, R131, R184). -/
def Mark.body : Mark → List Byte
  | .gap g =>
      [0x02#8, 1#8, 0#8, 0#8, byteOf g.channel.val, g.run, byteOf (causeCode g.firstCause), causeByte g.causes]
        ++ word64 g.firstIndex ++ word64 g.count ++ optWord64 g.firstFrame ++ zeros 16
  | .sweep n f skipped =>
      [0x02#8, 2#8, 0#8, 0#8] ++ word32 n ++ word64 f ++ leBytes 2 skipped ++ zeros 30

/-- DATA: 64 header bytes, then the payload (R118, R184). -/
def HalfFrame.body (f : HalfFrame) : List Byte :=
  [0x01#8, yesNo f.resend, byteOf f.frame, byteOf (f.frameCount - 1)] ++ word32 f.seq ++ leBytes 2 f.block
    ++ [match f.descriptor.owner with | some c => byteOf c.val | none => 0xFF#8]
    ++ [match f.descriptor.run with | some r => r | none => 0xFF#8]
    ++ [match f.descriptor.cls with | some k => byteOf k.val | none => 0xFF#8]
    ++ [match f.descriptor.cause with | some k => k.code | none => 0xFF#8]
    ++ leBytes 2 f.length ++ leBytes 4 f.offset ++ leBytes 4 f.descriptor.bytesUsed ++ leBytes 4 f.descriptor.records
    ++ optWord64 f.descriptor.firstIndex ++ optWord64 f.descriptor.lastIndex ++ optWord64 f.descriptor.firstFrame
    ++ optWord32 f.descriptor.sweep ++ zeros 8 ++ f.payload

/-- FILL: 4 header bytes (R184). -/
def fillBody : List Byte := [0x05#8, 0#8, 0#8, 0#8]

/-- The bytes of the frame in transmission, check included (R145, R146). A DATA frame is read from its half (R148). -/
def TxFrame.bytes (halves : Vector Half 2) : TxFrame → List Byte
  | .hello h _ => withCheck h.body
  | .reply r => withCheck r.body
  | .mark m _ => withCheck m.body
  | .data h => match (halves[h]).frame with | some f => withCheck f.body | none => []
  | .fill => withCheck fillBody

/-- The lane that carries byte `i` of a frame on `lanes` used lanes: dealt in turn from lane 0 (R145). -/
def laneOfByte (lanes i : Nat) : Nat := i % lanes

/-! ## Review responses (R187) -/

def ReviewResponse.bytes (r : ReviewResponse) : List Byte :=
  [r.kind, r.status.code] ++ word16 r.block ++ word16 r.value ++ zeros 2 ++ r.extra

end Sys2Proof.Machine
end

