-- ==== Sys2Proof/Machine/Reduction.lean ====
section
/-! DEFINITION. From samples to stored values and record sizes: groups, the four stages, packing units and sizes (R46 to R56). -/

namespace Sys2Proof.Machine

/-! ## Groups (R46) -/

/-- A group of one sample. -/
def Group.start (x : Int) (index frame : Word64) : Group :=
  { n := 1, sum := x, first := x, least := x, greatest := x, firstIndex := index, firstFrame := frame }

/-- A sample joins the group. -/
def Group.join (g : Group) (x : Int) : Group :=
  { g with n := g.n + 1, sum := g.sum + x, least := min g.least x, greatest := max g.greatest x }

/-- The index of the group's last sample (R66). -/
def Group.lastIndex (g : Group) : Word64 := g.firstIndex + BitVec.ofNat 64 g.n - 1#64

/-! ## The four stages (R48 to R51) -/

/-- Stage 1: the group's values before the offset, in the order they are placed. -/
def stage1 (mode : Mode) (g : Group) : List Int :=
  match mode with
  | .pass | .pick => [g.first]
  | .mean => [(2 * g.sum + g.n) / (2 * g.n)]
  | .peak => [g.least, g.greatest]

/-- Stage 3 at width W, on the value less the offset (R50). Integer division by a positive number is floor. -/
def requantize (w : Width) (d : Int) : Int :=
  match w with
  | .w16 => d
  | .w12 => (d + 8) / 16
  | .w8 => (d + 128) / 256

/-- The least stored value of a width (R51). -/
def Width.least : Width → Int
  | .w8 => -128 | .w12 => -2048 | .w16 => -32768

/-- The greatest stored value of a width (R51). -/
def Width.greatest : Width → Int
  | .w8 => 127 | .w12 => 2047 | .w16 => 32767

/-- A stored value and whether it had to be clamped (R51). -/
structure Stored where
  value : Int
  clamped : Bool
  deriving DecidableEq, Repr

/-- Stage 4. -/
def clampTo (w : Width) (q : Int) : Stored :=
  if q < w.least then ⟨w.least, true⟩ else if w.greatest < q then ⟨w.greatest, true⟩ else ⟨q, false⟩

/-- The stored value or values of a group under a profile. -/
def groupValues (p : Profile) (g : Group) : List Stored :=
  (stage1 p.mode g).map (fun v => clampTo p.width (requantize p.width (v - p.offset)))

/-- The clamps of a unit (R51). -/
def clampCount (vs : List Stored) : Nat := (vs.filter (fun v => v.clamped)).length

/-! ## Packing (R52, R53, R56) -/

/-- A stored value in W bits. -/
def valueBytes (w : Width) (v : Int) : List Byte :=
  match w with
  | .w8 => [BitVec.ofInt 8 v]
  | .w16 => leBytes 2 (BitVec.ofInt 16 v).toNat
  | .w12 => []

/-- The bytes a unit emits and the pack register after it: a PEAK pair or a single value. -/
def packUnit (p : Profile) (pack : Option (BitVec 12)) (vs : List Stored) : List Byte × Option (BitVec 12) :=
  match p.width, vs with
  | .w12, [v] =>
    match pack with
    | none => ([], some (BitVec.ofInt 12 v.value))
    | some a => (pairBytes a (BitVec.ofInt 12 v.value), none)
  | .w12, [a, b] => (pairBytes (BitVec.ofInt 12 a.value) (BitVec.ofInt 12 b.value), pack)
  | _, _ => (vs.flatMap (fun v => valueBytes p.width v.value), pack)

/-- The bytes a unit needs free, less the padding reserve; `none` for a value that fills held room and is not checked (R56). -/
def unitSize (p : Profile) (pack : Option (BitVec 12)) : Option Nat :=
  match p.mode, p.width with
  | .peak, .w8 => some 2
  | .peak, .w12 => some 3
  | .peak, .w16 => some 4
  | _, .w8 => some 1
  | _, .w16 => some 2
  | _, .w12 => if pack.isSome then none else some 3

/-! ## Sizes (R54) -/

/-- n rounded up to the next multiple of 4 (00, "Arithmetic"). -/
def pad4 (n : Nat) : Nat := (n + 3) / 4 * 4

/-- Payload bytes of a record of m values (R54). -/
def payloadBytes (w : Width) (m : Nat) : Nat :=
  match w with
  | .w8 => m
  | .w12 => 3 * (m / 2) + 2 * (m % 2)
  | .w16 => 2 * m

/-- The bytes a record of m values occupies (R54). -/
def recordSize (w : Width) (m : Nat) : Nat := Config.recordHeaderSize + pad4 (payloadBytes w m)

/-! ## Staging buffer and header slots (R55, R57) -/

/-- Emitted bytes not yet written, and the bytes held for an incomplete pair (R55). -/
def Channel.occupancy (ch : Channel) : Nat :=
  ch.runs.foldr (fun r n => r.pending.length + n) 0 + (if ch.pack.isSome then 3 else 0)

/-- Free room of the staging buffer. -/
def Channel.room (ch : Channel) : Nat := Config.stagingSize - ch.occupancy

/-- EMPTY header slots of the two (R57). -/
def Channel.emptySlots (ch : Channel) : Nat := 2 - (ch.waiting.length + (if ch.record.isSome then 1 else 0))

/-- `f` at the youngest run. -/
def onLastRun (f : StagedRun → StagedRun) : List StagedRun → List StagedRun
  | [] => []
  | [r] => [f r]
  | r :: r' :: t => r :: onLastRun f (r' :: t)

/-- Finished runs leave the head of the buffer (R97). -/
def dropFinished : List StagedRun → List StagedRun
  | [] => []
  | r :: t => if r.closed && r.pending.isEmpty then dropFinished t else r :: t

/-- Bytes join the youngest run. -/
def emitBytes (bs : List Byte) (runs : List StagedRun) : List StagedRun :=
  onLastRun (fun r => { r with pending := r.pending ++ bs }) runs

/-- The youngest run receives nothing more. -/
def closeRun (runs : List StagedRun) : List StagedRun := onLastRun (fun r => { r with closed := true }) runs

end Sys2Proof.Machine
end

