-- ==== Sys2Proof/Machine/Ring.lean ====
section
/-! DEFINITION. The Ring Manager: the Block Table, the free lists, allocation, pressure, the block states and pins (04). -/

namespace Sys2Proof.Machine

/-- The blocks of a plane, in increasing id order (R67). -/
def planeBlocks (p : PlaneId) : List BlockId := List.range' (p.val * Config.blocksPerPlane) Config.blocksPerPlane

/-- The descriptor of a block as RM holds it (R69, R70). -/
def Ring.block (rm : Ring) (b : BlockId) : Descriptor :=
  match tableGet rm.blocks b with
  | some d => d
  | none => .cleared (if b < Config.blockCount ∧ (rm.free[planeOf b]).isSome then .free else .offline)

/-- A change of the descriptor of a block that is neither FREE nor OFFLINE. -/
def Ring.modify (rm : Ring) (b : BlockId) (f : Descriptor → Descriptor) : Ring :=
  match tableGet rm.blocks b with
  | some d => { rm with blocks := tablePut rm.blocks b (f d) }
  | none => rm

/-- The FREE blocks of a plane; 0 when it has no list (R71). -/
def Ring.freeOf (rm : Ring) (p : PlaneId) : Nat :=
  match rm.free[p] with
  | some l => l.length
  | none => 0

/-- The sum of the lengths of the free lists (R73). -/
def Ring.freeCount (rm : Ring) : Nat := rm.freeOf 0 + rm.freeOf 1 + rm.freeOf 2 + rm.freeOf 3

/-- One evaluation of pressure (R74). -/
def Ring.evaluate (st : Settings) (rm : Ring) : Ring := { rm with level := pressureLevel st rm.freeCount rm.level }

/-- Pressure is evaluated when blocks moved into or out of FREE (R73). -/
def Ring.evaluateSince (rm : Ring) (st : Settings) (old : Ring) : Ring :=
  if rm.freeCount = old.freeCount then rm else rm.evaluate st

/-! ## Allocation (R72) -/

/-- The planes in rotation, from the one after the pointer (R72). -/
def searchOrder (p : PlaneId) : List PlaneId := [p + 1, p + 2, p + 3, p]

/-- The head of the plane's free list, with the rest. -/
def Ring.freeHead (rm : Ring) (p : PlaneId) : Option (PlaneId × BlockId × List BlockId) :=
  match rm.free[p] with
  | some (b :: rest) => some (p, b, rest)
  | _ => none

/-- The descriptor of a block just allocated (R72). -/
def Descriptor.allocated (c : ChannelId) (run : Byte) : Descriptor :=
  { Descriptor.cleared .filling with owner := some c, run := some run }

/-- R72: the block granted to channel `c`, with RM after the grant; `none` when no list has a block. -/
def Ring.allocate (st : Settings) (rm : Ring) (c : ChannelId) (run : Byte) : Option (BlockId × Ring) :=
  match (searchOrder rm.rotation).findSome? rm.freeHead with
  | none => none
  | some (p, b, rest) =>
    some (b, Ring.evaluate st
      { rm with free := put rm.free p (some rest), rotation := p, blocks := tablePut rm.blocks b (.allocated c run) })

/-! ## Sealing and queuing -/

/-- R80: the block becomes QUEUED at the tail of the class queue of its class at seal. -/
def Ring.enqueue (rm : Ring) (b : BlockId) : Ring :=
  match (rm.block b).cls with
  | none => rm
  | some k =>
    let rm' := rm.modify b (fun d => { d with state := .queued })
    { rm' with queues := put rm'.queues k (rm'.queues[k] ++ [b]) }

/-- R79: the seal request of a channel for its filling block. -/
def Ring.seal (rm : Ring) (b : BlockId) (k : ClassId) (cause : SealCause) : Ring :=
  let rm' := rm.modify b (fun d => { d with state := .sealing, cls := some k, cause := some cause })
  if (rm'.block b).unwritten = 0 then rm'.enqueue b else rm'

/-- R78, R80, R100: MC has written `n` bytes of the block. -/
def Ring.written (rm : Ring) (b : BlockId) (n : Nat) : Ring :=
  let rm' := rm.modify b (fun d => { d with unwritten := d.unwritten - n })
  if (rm'.block b).state = .sealing ∧ (rm'.block b).unwritten = 0 then rm'.enqueue b else rm'

/-! ## Return to FREE -/

/-- The block becomes FREE: its descriptor is cleared and it joins the tail of its plane's free list (R69, R71). -/
def Ring.toFree (rm : Ring) (b : BlockId) : Ring :=
  { rm with blocks := tableDel rm.blocks b
            free := put rm.free (planeOf b) ((rm.free[planeOf b]).map (fun l => l ++ [b])) }

/-- R82: a released block becomes FREE, or RETIRED while it has pins. Pressure is the caller's (R73). -/
def Ring.release (rm : Ring) (b : BlockId) : Ring :=
  if (rm.block b).pins = 0 then rm.toFree b else rm.modify b (fun d => { d with state := .retired })

/-- R81: release of an empty filling block at STOP. -/
def Ring.releaseEmpty (st : Settings) (rm : Ring) (b : BlockId) : Ring := (rm.toFree b).evaluate st

/-! ## Pins (R87, R88) -/

/-- The states in which a block can be pinned (R87). -/
def pinnable : BlockState → Bool
  | .queued | .sending | .sent | .redrain | .retired => true
  | .offline | .free | .filling | .sealing => false

/-- R87. -/
def Ring.pin (rm : Ring) (b : BlockId) : ReviewStatus × Ring :=
  if pinnable (rm.block b).state then
    if (rm.block b).pins < Config.pinMax then (.ok, rm.modify b (fun d => { d with pins := d.pins + 1 }))
    else (.pinLimit, rm)
  else (.badState, rm)

/-- R88. -/
def Ring.unpin (st : Settings) (rm : Ring) (b : BlockId) : ReviewStatus × Ring :=
  if (rm.block b).pins = 0 then (.notPinned, rm)
  else
    let rm' := rm.modify b (fun d => { d with pins := d.pins - 1 })
    if (rm'.block b).state = .retired ∧ (rm'.block b).pins = 0 then (.ok, (rm'.toFree b).evaluate st) else (.ok, rm')

/-! ## Planes (R90, R91, R93) -/

/-- Every block of the plane is FREE: it has a free list and no block of it is listed (R90). -/
def Ring.planeAllFree (rm : Ring) (p : PlaneId) : Bool :=
  (rm.free[p]).isSome && rm.blocks.all (fun e => planeOf e.1 != p)

/-- The plane's blocks become FREE, in increasing id order (R71). -/
def Ring.enablePlane (rm : Ring) (p : PlaneId) : Ring := { rm with free := put rm.free p (some (planeBlocks p)) }

/-- The plane's blocks become OFFLINE and its free list no longer exists (R90). -/
def Ring.disablePlane (rm : Ring) (p : PlaneId) : Ring := { rm with free := put rm.free p none }

/-- R90: the judged change of plane_mask from `old` to `new`, for one plane; a plane not READY keeps its blocks OFFLINE (R67). -/
def Ring.changePlane (old new : BitVec 4) (ready : Bool) (p : PlaneId) (rm : Ring) : Ring :=
  if inPlaneSet new p && !inPlaneSet old p then (if ready then rm.enablePlane p else rm)
  else if inPlaneSet old p && !inPlaneSet new p then rm.disablePlane p
  else rm

/-- R93: every block that is not OFFLINE becomes FREE and the free lists are rebuilt; with it DS's class queues are emptied
(R127). Pressure is evaluated once. -/
def Ring.streamReset (st : Settings) (rm : Ring) : Ring :=
  Ring.evaluate st
    { rm with blocks := []
              free := #v[(rm.free[0]).map (fun _ => planeBlocks 0), (rm.free[1]).map (fun _ => planeBlocks 1),
                         (rm.free[2]).map (fun _ => planeBlocks 2), (rm.free[3]).map (fun _ => planeBlocks 3)]
              queues := Vector.replicate 4 [] }

end Sys2Proof.Machine
end

