-- ==== Sys2Proof/Machine/Records.lean ====
section
/-! DEFINITION. Trace records in a channel: starts, values placed, ends, failed placements (R52 to R64), and the seal a full
block gets. A Channel Engine works on its own channel, on RM and on the Mark Queue. -/

namespace Sys2Proof.Machine

/-- What a channel reads of other blocks: its number, the Table Store and the stream state. -/
structure Env where
  c : ChannelId
  ts : TableStore
  stream : StreamState
  deriving DecidableEq, Repr

/-- What a channel's events change: the channel, RM and MK. -/
structure Engine where
  ch : Channel
  rm : Ring
  marks : MarkUnit
  deriving DecidableEq, Repr

/-- The channel's current Channel Table entry (R21). -/
def Env.config (v : Env) : ChannelConfig := (v.ts.channels[v.c]).current

/-- The current content of a profile. -/
def Env.profile (v : Env) (k : Fin 8) : Profile := (v.ts.profiles[k]).current

/-! ## Sealing (R37, R79) -/

/-- The channel asks RM to seal its filling block, with its class field as it stands. -/
def sealFilling (v : Env) (cause : SealCause) (e : Engine) : Engine :=
  match e.ch.filling with
  | none => e
  | some b =>
    { e with ch := { e.ch with filling := none, sealTimer := none }
             rm := e.rm.seal b v.config.cls cause }

/-- bytes_used of the filling block; 0 without one. -/
def Engine.fillingUsed (e : Engine) : Nat :=
  match e.ch.filling with
  | none => 0
  | some b => (e.rm.block b).bytesUsed

/-! ## Ending a record -/

/-- The header of a record that closes (R65). -/
def closedHeader (p : Profile) (r : OpenRecord) (kind : EndKind) : RecordHeader :=
  { firstIndex := r.firstIndex, span := (r.lastIndex - r.firstIndex).toNat + 1, firstFrame := r.firstFrame,
    sweep := r.sweep, factor := p.factor, offset := p.offset, valueCount := r.valueCount, clipCount := r.clipCount,
    mode := p.mode, width := p.width, endKind := kind, short := decide (r.valueCount < p.recordLen) }

/-- The lone value and the pad bytes emitted at a close (R53, R54). -/
def closingBytes (p : Profile) (r : OpenRecord) (pack : Option (BitVec 12)) : List Byte :=
  (match pack with
   | some a => loneBytes a
   | none => [])
  ++ zeros (pad4 (payloadBytes p.width r.valueCount) - payloadBytes p.width r.valueCount)

/-- The descriptor after a record of its block closed, `emitted` bytes at the close (R61, R76, R77, R78). -/
def Descriptor.recordClosed (p : Profile) (r : OpenRecord) (emitted : Nat) (d : Descriptor) : Descriptor :=
  { d with bytesUsed := r.offset + recordSize p.width r.valueCount
           unwritten := d.unwritten + emitted + Config.recordHeaderSize
           records := d.records + 1
           lastIndex := some r.lastIndex
           firstIndex := if d.records = 0 then some r.firstIndex else d.firstIndex
           firstFrame := if d.records = 0 then some r.firstFrame else d.firstFrame
           sweep := if d.records = 0 then some r.sweep else d.sweep }

/-- R61: the open record closes with an end kind. Without an open record nothing closes (R62, R63). -/
def closeRecord (kind : EndKind) (e : Engine) : Engine :=
  match e.ch.record, e.ch.current with
  | some r, some cp =>
    let bs := closingBytes cp.content r e.ch.pack
    { e with
      ch := { e.ch with pack := none, record := none
                        runs := dropFinished (closeRun (emitBytes bs e.ch.runs))
                        waiting := e.ch.waiting ++ [⟨r.block, r.offset, closedHeader cp.content r kind⟩] }
      rm := e.rm.modify r.block (Descriptor.recordClosed cp.content r bs.length) }
  | _, _ => e

/-- R64: the open record is abandoned; it has emitted no bytes. -/
def abandonRecord (e : Engine) : Engine :=
  match e.ch.record with
  | none => e
  | some r =>
    { e with ch := { e.ch with record := none }
             rm := e.rm.modify r.block (fun d => { d with bytesUsed := r.offset }) }

/-! ## Starting a record (R59) -/

/-- Step 1 of R59: the channel holds a filling block with room for `need` bytes, sealing a full one and allocating a new one
as needed; `false` is NOSPACE. -/
def ensureBlock (v : Env) (need : Nat) (e : Engine) : Engine × Bool :=
  let e1 := if e.ch.filling.isSome && decide (Config.blockSize < e.fillingUsed + need) then sealFilling v .full e else e
  match e1.ch.filling with
  | some _ => (e1, true)
  | none =>
    match e1.rm.allocate v.ts.settings v.c e1.ch.run with
    | none => (e1, false)
    | some (b, rm') => ({ e1 with ch := { e1.ch with filling := some b }, rm := rm' }, true)

/-- The duration the seal-age timer starts with; it does not start when seal_age_ms is 0 (R36). -/
def sealAgeStart (v : Env) : Timer := if v.config.sealAgeMs = 0 then none else some v.config.sealAgeMs

/-- Step 3 of R59: the record opens at the end of the filling block and reserves its size. -/
def openRecord (v : Env) (need : Nat) (g : Group) (e : Engine) : Engine :=
  match e.ch.filling with
  | none => e
  | some b =>
    let used := (e.rm.block b).bytesUsed
    { e with
      ch := { e.ch with
        record := some { block := b, offset := used, firstIndex := g.firstIndex, firstFrame := g.firstFrame,
                         sweep := e.ch.lastSweep, valueCount := 0, clipCount := 0, lastIndex := g.firstIndex }
        sealTimer := if used = 0 ∧ e.ch.sealTimer = none then sealAgeStart v else e.ch.sealTimer }
      rm := e.rm.modify b (fun d => { d with bytesUsed := used + need }) }

/-- R59: the three checks in order; the first that fails names the cause. -/
def startRecord (v : Env) (p : Profile) (g : Group) (e : Engine) : Engine × Option LossCause :=
  match ensureBlock v (recordSize p.width p.recordLen) e with
  | (e1, false) => (e1, some .nospace)
  | (e1, true) =>
    if e1.ch.emptySlots = 0 then (e1, some .overrun)
    else (openRecord v (recordSize p.width p.recordLen) g e1, none)

/-! ## Placing a value (R56, R58, R60) -/

/-- The staging check of R56. -/
def unitFits (p : Profile) (ch : Channel) : Bool :=
  match unitSize p ch.pack with
  | none => true
  | some n => decide (ch.occupancy + n + Config.padReserve ≤ Config.stagingSize)

/-- The record after a unit was placed in it (R51, R58). -/
def OpenRecord.grow (r : OpenRecord) (vs : List Stored) (g : Group) : OpenRecord :=
  { r with valueCount := r.valueCount + vs.length, clipCount := min 255 (r.clipCount + clampCount vs),
           lastIndex := g.lastIndex }

/-- The unit is emitted into the open record; a record's run begins with its first value (R55, R58). -/
def emitUnit (p : Profile) (g : Group) (r : OpenRecord) (e : Engine) : Engine :=
  let vs := groupValues p g
  let out := packUnit p e.ch.pack vs
  let runs := if r.valueCount = 0 then e.ch.runs ++ [⟨r.block, r.offset, 0, [], false⟩] else e.ch.runs
  { e with ch := { e.ch with runs := emitBytes out.1 runs, pack := out.2, record := some (r.grow vs g) }
           rm := e.rm.modify r.block (fun d => { d with unwritten := d.unwritten + out.1.length }) }

/-- R58 with a record open: check, emit, and close at record_len. A first value that fails abandons the record (R64). -/
def placeUnit (p : Profile) (g : Group) (e : Engine) : Engine × Option LossCause :=
  match e.ch.record with
  | none => (e, none)
  | some r =>
    if unitFits p e.ch then
      let e' := emitUnit p g r e
      if (r.grow (groupValues p g) g).valueCount = p.recordLen then (closeRecord .split e', none) else (e', none)
    else if r.valueCount = 0 then (abandonRecord e, some .overrun)
    else (e, some .overrun)

/-- R58: the value or values of a group are placed, starting a record if none is open. -/
def place (v : Env) (g : Group) (e : Engine) : Engine × Option LossCause :=
  match e.ch.current with
  | none => (e, none)
  | some cp =>
    if e.ch.record.isSome then placeUnit cp.content g e
    else
      match startRecord v cp.content g e with
      | (e1, some cause) => (e1, some cause)
      | (e1, none) => placeUnit cp.content g e1

/-! ## Loss (R28, R30) -/

/-- `n` samples from `frame` on join the gap, with a cause (R28). -/
def Gap.extend (n frame : Word64) (cause : LossCause) (g : Gap) : Gap :=
  { g with count := g.count + n, causes := addCause g.causes cause
           firstFrame := if g.firstFrame = none ∧ n ≠ 0#64 then some frame else g.firstFrame }

/-- A new gap (R28). -/
def Gap.start (c : ChannelId) (run : Byte) (first count : Word64) (frame : Option Word64) (cause : LossCause) : Gap :=
  { channel := c, run := run, firstIndex := first, count := count, firstFrame := frame, firstCause := cause,
    causes := causeSet cause }

/-- A loss of `n` samples whose first has index `first` and frame `frame`: an ACTIVE channel enters LOSS with it, a LOSS
channel extends its gap. -/
def lose (v : Env) (first n frame : Word64) (cause : LossCause) (ch : Channel) : Channel :=
  match ch.state with
  | .active => { ch with state := .loss, gap := some (Gap.start v.c ch.run first n (some frame) cause) }
  | .loss => { ch with gap := ch.gap.map (Gap.extend n frame cause) }
  | .idle | .armed | .closing => ch

/-- R30: what follows a failed placement of group `g`. -/
def failPlacement (v : Env) (g : Group) (cause : LossCause) (e : Engine) : Engine :=
  let e1 := closeRecord .break_ e
  { e1 with ch := lose v g.firstIndex (BitVec.ofNat 64 g.n) g.firstFrame cause
                    { e1.ch with current := none, group := none } }

/-- A completed group is placed, or its failure followed through; the accumulator is empty afterwards (R46). -/
def placeGroup (v : Env) (g : Group) (e : Engine) : Engine :=
  match place v g { e with ch := { e.ch with group := none } } with
  | (e1, none) => e1
  | (e1, some cause) => failPlacement v g cause e1

/-- R62: a SPLIT end. -/
def splitEnd (e : Engine) : Engine := closeRecord .split e

/-- R63: a BREAK end; the current profile becomes none. -/
def breakEnd (v : Env) (e : Engine) : Engine :=
  let e1 := match e.ch.group with
    | none => e
    | some g => placeGroup v g e
  let e2 := closeRecord .break_ e1
  { e2 with ch := { e2.ch with current := none } }

end Sys2Proof.Machine
end

