-- ==== Sys2Proof/Machine/Channels.lean ====
section
/-! DEFINITION. The Channel Engine's events: deliveries, missed-frame reports, changes of stream state, START, STOP, FLUSH, the
seal-age timer, and the end of CLOSING (02). -/

namespace Sys2Proof.Machine

/-- One arriving sample with its delivery's frame number and zone mask (R26). -/
structure Arrival where
  sample : Int
  frame : Word64
  zones : BitVec 4
  deriving DecidableEq, Repr

/-- A channel's samples of one frame (R16). -/
structure Delivery where
  samples : List Int
  frame : Word64
  sweep : Word32
  zones : BitVec 4
  boundary : Bool
  deriving DecidableEq, Repr

/-! ## Gap offers (R34, R130) -/

/-- The channel's gap leaves its holder: queued as a GAP mark, discarded when its count is 0, or refused by a full queue. -/
def offerGap (e : Engine) : Engine × Bool :=
  match e.ch.gap with
  | none => (e, true)
  | some g =>
    if g.count = 0#64 then ({ e with ch := { e.ch with gap := none } }, true)
    else if e.marks.queue.length < Config.markQueueMax then
      ({ e with ch := { e.ch with gap := none }, marks := { e.marks with queue := e.marks.queue ++ [.gap g] } }, true)
    else (e, false)

/-! ## Arrivals -/

/-- The profile number that applies to an arrival (step 2 of R27). -/
def effectiveProfile (cfg : ChannelConfig) (level : PressureLevel) (zones : BitVec 4) : Fin 8 :=
  if (match cfg.zoneLine with | some z => zones.getLsbD z.val | none => false) then cfg.profileA
  else if cfg.policy = .degrade ∧ level ≠ .open_ then cfg.profileF
  else cfg.profileB

/-- The profile a sample is grouped under: the current one, or the effective one with a copy of its content (step 4 of R27). -/
def groupingProfile (v : Env) (zones : BitVec 4) (e : Engine) : CurrentProfile :=
  match e.ch.current with
  | some cp => cp
  | none => ⟨effectiveProfile v.config e.rm.level zones, v.profile (effectiveProfile v.config e.rm.level zones)⟩

/-- The group in progress with the arriving sample in it (R46). -/
def joinedGroup (a : Arrival) (ch : Channel) : Group :=
  match ch.group with
  | none => Group.start a.sample ch.nextIndex a.frame
  | some g => g.join a.sample

/-- Step 4 of R27: the sample joins the group, and a complete group is placed. -/
def groupSample (v : Env) (a : Arrival) (e : Engine) : Engine :=
  let cp := groupingProfile v a.zones e
  let g := joinedGroup a e.ch
  let e1 := { e with ch := { e.ch with current := some cp, group := some g, nextIndex := e.ch.nextIndex + 1#64 } }
  if g.n = cp.content.factor then placeGroup v g e1 else e1

/-- Policy SHED under CRITICAL (R27, R33). -/
def shedding (v : Env) (rm : Ring) : Bool := decide (v.config.policy = .shed ∧ rm.level = .critical)

/-- Staging room and a header slot for the exit test (R33). -/
def exitRoomOk (ch : Channel) : Bool := decide (Config.exitRoom ≤ ch.room ∧ 0 < ch.emptySlots)

/-- A block to fill, or one to be had (R33). -/
def exitBlockOk (e : Engine) : Bool := e.ch.filling.isSome || decide (0 < e.rm.freeCount)

/-- The first four conditions of the exit test (R33). -/
def exitConditions (v : Env) (e : Engine) : Bool :=
  decide (v.stream = .run) && !shedding v e.rm && exitRoomOk e.ch && exitBlockOk e

/-- The causes of the failing conditions join the set (R33). -/
def exitCauses (v : Env) (e : Engine) (s : CauseSet) : CauseSet :=
  addCauseIf (!exitBlockOk e) .nospace (addCauseIf (!exitRoomOk e.ch) .overrun
    (addCauseIf (shedding v e.rm) .shed (addCauseIf (!decide (v.stream = .run)) .held s)))

/-- One sample lost to the gap, its causes apart (R33). -/
def Gap.addSample (frame : Word64) (g : Gap) : Gap :=
  { g with count := g.count + 1#64, firstFrame := if g.firstFrame = none then some frame else g.firstFrame }

/-- The exit test failed: the sample joins the gap with the causes of the failing conditions (R33). -/
def stayInLoss (v : Env) (a : Arrival) (e : Engine) : Engine :=
  { e with ch := { e.ch with nextIndex := e.ch.nextIndex + 1#64
                             gap := e.ch.gap.map (fun g =>
                               { g.addSample a.frame with causes := exitCauses v e g.causes }) } }

/-- R33, R34: an arrival in LOSS. -/
def arriveLoss (v : Env) (a : Arrival) (e : Engine) : Engine :=
  if exitConditions v e then
    match offerGap e with
    | (e1, true) => groupSample v a { e1 with ch := { e1.ch with state := .active, current := none } }
    | (e1, false) => stayInLoss v a e1
  else stayInLoss v a e

/-- R31: a SHED channel under CRITICAL, after its BREAK end. -/
def enterShed (v : Env) (a : Arrival) (e : Engine) : Engine :=
  { e with ch := { lose v e.ch.nextIndex 1#64 a.frame .shed e.ch with nextIndex := e.ch.nextIndex + 1#64 } }

/-- Whether the effective profile differs from the current one, by number only (step 3 of R27). -/
def profileChanges (v : Env) (zones : BitVec 4) (e : Engine) : Bool :=
  match e.ch.current with
  | some cp => decide (cp.number ≠ effectiveProfile v.config e.rm.level zones)
  | none => false

/-- R27: an arrival in ACTIVE. The profile chosen in step 2 is the one grouped under after the BREAK end of step 3. -/
def arriveActive (v : Env) (a : Arrival) (e : Engine) : Engine :=
  if shedding v e.rm then
    let e1 := breakEnd v e
    if e1.ch.state = .loss then arriveLoss v a e1 else enterShed v a e1
  else if profileChanges v a.zones e then
    let k := effectiveProfile v.config e.rm.level a.zones
    let e1 := breakEnd v e
    if e1.ch.state = .loss then arriveLoss v a e1
    else groupSample v a { e1 with ch := { e1.ch with current := some ⟨k, v.profile k⟩ } }
  else groupSample v a e

/-- An arrival in whatever state the previous one left the channel in (R26). -/
def arrive (v : Env) (a : Arrival) (e : Engine) : Engine :=
  match e.ch.state with
  | .active => arriveActive v a e
  | .loss => arriveLoss v a e
  | .idle | .armed | .closing => e

/-- The arrivals of a delivery, in slot order. -/
def arriveAll (v : Env) (d : Delivery) (e : Engine) : Engine :=
  d.samples.foldl (fun t x => arrive v ⟨x, d.frame, d.zones⟩ t) e

/-! ## Boundaries and deliveries -/

/-- R35. -/
def boundaryHandling (v : Env) (e : Engine) : Engine :=
  let e1 := if e.ch.state = .active then breakEnd v e else e
  if v.config.sealAtSweep ∧ 0 < e1.fillingUsed then sealFilling v .sweep e1 else e1

/-- R24: whether a delivery makes an ARMED channel ACTIVE. -/
def activates (v : Env) (d : Delivery) : Bool :=
  decide (v.stream = .run) && (!v.config.startAtSweep || d.boundary)

/-- R24: the channel as it becomes ACTIVE. -/
def activate (d : Delivery) (ch : Channel) : Channel :=
  { ch with state := .active, nextIndex := 0#64, lastSweep := d.sweep, current := none, sealTimer := none }

/-- R16, R24, R26: a channel takes a delivery. -/
def deliver (v : Env) (d : Delivery) (e : Engine) : Engine :=
  match e.ch.state with
  | .idle | .closing => e
  | .armed => if activates v d then arriveAll v d { e with ch := activate d e.ch } else e
  | .active | .loss =>
    let e1 := if d.boundary || d.sweep != e.ch.lastSweep then boundaryHandling v e else e
    arriveAll v d { e1 with ch := { e1.ch with lastSweep := d.sweep } }

/-- R29: a missed-frame report of `n` samples, the first of them in `frame`. -/
def missedReport (v : Env) (n frame : Word64) (e : Engine) : Engine :=
  match e.ch.state with
  | .active =>
    let e1 := breakEnd v e
    { e1 with ch := { lose v e1.ch.nextIndex n frame .frame e1.ch with nextIndex := e1.ch.nextIndex + n } }
  | .loss => { e with ch := { lose v e.ch.nextIndex n frame .frame e.ch with nextIndex := e.ch.nextIndex + n } }
  | .idle | .armed | .closing => e

/-! ## Changes of stream state (R32, R41) -/

/-- HELD joins the cause set of a LOSS channel. -/
def addHeld (ch : Channel) : Channel :=
  { ch with gap := ch.gap.map (fun g => { g with causes := addCause g.causes .held }) }

/-- R32: the stream leaves RUN for PAUSE or HALT. -/
def leaveRun (v : Env) (e : Engine) : Engine :=
  match e.ch.state with
  | .active =>
    let e1 := breakEnd v e
    if e1.ch.state = .active then
      { e1 with ch := { e1.ch with state := .loss
                                   gap := some (Gap.start v.c e1.ch.run e1.ch.nextIndex 0#64 none .held) } }
    else { e1 with ch := addHeld e1.ch }
  | .loss => { e with ch := addHeld e.ch }
  | .idle | .armed | .closing => e

/-! ## Stopping and closing (R38, R39) -/

/-- Nothing is left in the staging buffer and the header slots. -/
def Channel.stagingWritten (ch : Channel) : Bool := ch.runs.isEmpty && ch.waiting.isEmpty

/-- R39: a CLOSING channel whose gap is queued and whose staging is written becomes IDLE. -/
def Channel.closeIfDone (ch : Channel) : Channel :=
  if ch.state = .closing ∧ ch.gap = none ∧ ch.stagingWritten then { ch with state := .idle } else ch

/-- Step 2 of R38: seal with cause STOP, or release an empty block. -/
def giveUpBlock (v : Env) (e : Engine) : Engine :=
  match e.ch.filling with
  | none => e
  | some b =>
    if 0 < (e.rm.block b).bytesUsed then sealFilling v .stop e
    else { e with ch := { e.ch with filling := none, sealTimer := none }, rm := e.rm.releaseEmpty v.ts.settings b }

/-- R38 for an ACTIVE or LOSS channel. -/
def stopRun (v : Env) (e : Engine) : Engine :=
  let e1 := if e.ch.state = .active then breakEnd v e else e
  let e2 := (offerGap (giveUpBlock v e1)).1
  { e2 with ch := ({ e2.ch with state := .closing }).closeIfDone }

/-- R38: a STOP, with its answer. DESIGN CHOICE (log entry 38): its three steps are one step of the model. -/
def stopChannel (v : Env) (e : Engine) : Engine × ReplyStatus :=
  match e.ch.state with
  | .armed => ({ e with ch := { e.ch with state := .idle } }, .ok)
  | .active | .loss => (stopRun v e, .ok)
  | .idle | .closing => (e, .refused)

/-- R23: a START, with its answer. -/
def startChannel (_ : Env) (e : Engine) : Engine × ReplyStatus :=
  match e.ch.state with
  | .idle => ({ e with ch := { e.ch with state := .armed, run := e.ch.run + 1#8 } }, .ok)
  | .closing => (e, .busy)
  | .armed | .active | .loss => (e, .refused)

/-- R40: a FLUSH; the answer is OK in every case. -/
def flushChannel (v : Env) (e : Engine) : Engine × ReplyStatus :=
  match e.ch.state with
  | .active => if 0 < e.fillingUsed then (sealFilling v .flush (splitEnd e), .ok) else (e, .ok)
  | .loss => if 0 < e.fillingUsed then (sealFilling v .flush e, .ok) else (e, .ok)
  | .idle | .armed | .closing => (e, .ok)

/-- R36: the seal-age timer expires. -/
def sealAgeExpiry (v : Env) (e : Engine) : Engine :=
  if 0 < e.fillingUsed then sealFilling v .age (splitEnd e)
  else { e with ch := { e.ch with sealTimer := none } }

/-- R39, R130: a CLOSING channel that holds a gap offers it again after a departure from the Mark Queue. -/
def offerAgain (_ : Env) (e : Engine) : Engine :=
  if e.ch.state = .closing ∧ e.ch.gap.isSome then
    let e1 := (offerGap e).1
    { e1 with ch := e1.ch.closeIfDone }
  else e

/-- R41: a STANDBY command. -/
def takeStandby (v : Env) (e : Engine) : Engine := (stopChannel v e).1

/-- R42, second column: a stream reset; the run number, next index and last sweep are kept. -/
def Channel.streamReset (ch : Channel) : Channel :=
  { Channel.reset with run := ch.run, nextIndex := ch.nextIndex, lastSweep := ch.lastSweep }

/-! ## A channel within the part -/

/-- What channel `c` reads. -/
def State.env (s : State) (c : ChannelId) : Env := { c := c, ts := s.ts, stream := s.mu.stream }

/-- What channel `c` changes. -/
def State.engine (s : State) (c : ChannelId) : Engine := { ch := s.chans[c], rm := s.rm, marks := s.marks }

/-- The part with channel `c`'s engine replaced. -/
def State.withEngine (s : State) (c : ChannelId) (e : Engine) : State :=
  { s with chans := put s.chans c e.ch, rm := e.rm, marks := e.marks }

/-- Channel `c` takes an event. -/
def onChannel (f : Env → Engine → Engine) (c : ChannelId) (s : State) : State :=
  s.withEngine c (f (s.env c) (s.engine c))

end Sys2Proof.Machine
end

