-- ==== Sys2Proof/Machine/Drain.lean ====
section
/-! DEFINITION. The Drain Scheduler: selection under credit, weighted round robin, load claims, frame order, ends of transmission,
commits, link loss (06). -/

namespace Sys2Proof.Machine

/-- The frames of a block of `used` bytes (R117). -/
def frameCount (used : Nat) : Nat := (used + Config.halfSize - 1) / Config.halfSize

/-- The length of frame `i` (R117). -/
def frameLength (used i : Nat) : Nat := min Config.halfSize (used - i * Config.halfSize)

/-- The frames of a block as RM holds it. -/
def Ring.frames (rm : Ring) (b : BlockId) : Nat := frameCount (rm.block b).bytesUsed

/-! ## Selection (R112 to R116) -/

/-- The credit test (R114). -/
def Drain.credit (d : Drain) : Bool :=
  seqAtOrBefore d.nextSeq d.granted && decide ((d.nextSeq - d.committed).toNat ≤ Config.outstandingMax)

/-- The five positions of a search, each with its turn count (R115). -/
def searchPositions (cur : ClassId) (turn : Nat) : List (ClassId × Nat) :=
  [(cur, turn), (cur + 1, 0), (cur + 2, 0), (cur + 3, 0), (cur, 0)]

/-- R115: the class to take from, and the current class and turn count after; `none` when every queue is empty. -/
def wrrSearch (w : Vector Nat 4) (q : Vector (List BlockId) 4) (cur : ClassId) (turn : Nat) :
    Option (ClassId × ClassId × Nat) :=
  match (searchPositions cur turn).find? (fun x => !(q[x.1]).isEmpty && decide (x.2 < w[x.1])) with
  | some (k, t) => some (k, k, t + 1)
  | none =>
    match ([0, 1, 2, 3] : List ClassId).find? (fun k => !(q[k]).isEmpty && w[k] == 0) with
    | some k => some (k, cur, 0)
    | none => none

/-- R115, R116: a new block by weighted round robin, with the next send sequence. -/
def selectNew (w : Vector Nat 4) (x : Drain × Ring) : Drain × Ring :=
  match wrrSearch w x.2.queues x.1.currentClass x.1.turn with
  | none => x
  | some (k, cur, turn) =>
    match x.2.queues[k] with
    | [] => x
    | b :: rest =>
      ({ x.1 with currentClass := cur, turn := turn, highest := x.1.nextSeq, nextSeq := x.1.nextSeq + 1#32
                  slot := x.1.slot ++ [⟨b, x.1.nextSeq, false, false, 0, 0⟩] },
       Ring.modify { x.2 with queues := put x.2.queues k rest } b
         (fun d => { d with state := .sending, seq := some x.1.nextSeq }))

/-- R113: the head of REDRAIN, with the sequence it has. -/
def selectRedrain (m : Sequenced) (rest : List Sequenced) (x : Drain × Ring) : Drain × Ring :=
  ({ x.1 with redrain := rest, slot := x.1.slot ++ [⟨m.block, m.seq, false, true, 0, 0⟩] },
   x.2.modify m.block (fun d => { d with state := .sending }))

/-- One selection, when the link and the stream allow it (R112, R113, R114). -/
def selectOnce (allowed : Bool) (w : Vector Nat 4) (x : Drain × Ring) : Drain × Ring :=
  if allowed && decide (x.1.slot.length < 2) then
    match x.1.redrain with
    | m :: rest => selectRedrain m rest x
    | [] => if x.1.credit then selectNew w x else x
  else x

/-- Selection waits for the link READY and is stopped by HALT (R112, R124). -/
def State.selectionAllowed (s : State) : Bool := decide (s.sl.state = .ready ∧ s.mu.stream ≠ .halt)

/-- R112: at most two selections in turn fill the SENDING slot. -/
def selectBlocks (s : State) : State :=
  let x := selectOnce s.selectionAllowed s.ts.settings.weights
    (selectOnce s.selectionAllowed s.ts.settings.weights (s.ds, s.rm))
  { s with ds := x.1, rm := x.2 }

/-! ## Load claims (R101, R117) -/

/-- The earliest frame of the slot neither loaded nor claimed: its block's entry, and the slot with it claimed. -/
def claimNext (rm : Ring) : List SlotEntry → Option (SlotEntry × List SlotEntry)
  | [] => none
  | e :: t =>
    if e.claimed < rm.frames e.block then some (e, { e with claimed := e.claimed + 1 } :: t)
    else (claimNext rm t).map (fun r => (r.1, e :: r.2))

/-- The frame a claim will load, its header fields read from RM at the claim (R118). -/
def claimedFrame (rm : Ring) (e : SlotEntry) : HalfFrame :=
  { block := e.block, seq := e.seq, frame := e.claimed, frameCount := rm.frames e.block,
    offset := e.claimed * Config.halfSize, length := frameLength (rm.block e.block).bytesUsed e.claimed,
    resend := e.resend, descriptor := rm.block e.block, payload := [] }

/-- A DRAIN claim joins the list of its block's plane (R101). -/
def addDrainClaim (k : LoadClaim) (ps : Vector Plane 4) : Vector Plane 4 :=
  put ps (planeOf k.block) { ps[planeOf k.block] with drain := (ps[planeOf k.block]).drain ++ [k] }

/-- An EMPTY half claims the next frame (R117). -/
def claimLoad (h : Fin 2) (s : State) : State :=
  if (s.ds.halves[h]).state = .empty ∧ s.mu.stream ≠ .halt then
    match claimNext s.rm s.ds.slot with
    | none => s
    | some (e, slot') =>
      let f := claimedFrame s.rm e
      { s with ds := { s.ds with slot := slot', halves := put s.ds.halves h ⟨.loading, some f⟩ }
               planes := addDrainClaim ⟨h, f.block, f.offset, f.length⟩ s.planes }
  else s

/-- Half 0 receives the earlier frame (R117). -/
def claimLoads (s : State) : State := claimLoad 1 (claimLoad 0 s)

/-- What DS does on its own: selections, then load claims. -/
def drainWork (s : State) : State := claimLoads (selectBlocks s)

/-! ## Frame order (R118) -/

/-- The earliest frame that has not begun transmission: its block and number. -/
def nextFrame (rm : Ring) : List SlotEntry → Option (BlockId × Nat)
  | [] => none
  | e :: t => if e.begun < rm.frames e.block then some (e.block, e.begun) else nextFrame rm t

/-- That frame has begun. -/
def markBegun (rm : Ring) : List SlotEntry → List SlotEntry
  | [] => []
  | e :: t => if e.begun < rm.frames e.block then { e with begun := e.begun + 1 } :: t else e :: markBegun rm t

/-- The half is LOADED with a frame of the block. -/
def Half.holds (hf : Half) (b : BlockId) (i : Nat) : Bool :=
  decide (hf.state = .loaded) &&
    (match hf.frame with
     | some f => decide (f.block = b ∧ f.frame = i)
     | none => false)

/-- The half whose DATA frame may begin, if any (R118, R147). -/
def dataReady (s : State) : Option (Fin 2) :=
  if s.sl.state = .ready ∧ s.mu.stream ≠ .halt then
    match nextFrame s.rm s.ds.slot with
    | none => none
    | some (b, i) => ([0, 1] : List (Fin 2)).find? (fun h => (s.ds.halves[h]).holds b i)
  else none

/-- SL begins the frame of a half (R117, R118). -/
def Drain.beginFrame (rm : Ring) (h : Fin 2) (d : Drain) : Drain :=
  { d with slot := markBegun rm d.slot, halves := put d.halves h { d.halves[h] with state := .transmitting } }

/-! ## Lists in sequence order (R111) -/

/-- A block joins a list at the place its sequence puts it. -/
def insertBySeq (m : Sequenced) : List Sequenced → List Sequenced
  | [] => [m]
  | y :: t => if seqAfter y.seq m.seq then m :: y :: t else y :: insertBySeq m t

/-! ## End of transmission (R119) -/

/-- The first block leaves the slot at the end of its last frame: SENT, or released when covered (R84, R119). -/
def finishBlock (st : Settings) (e : SlotEntry) (rest : List SlotEntry) (x : Drain × Ring) : Drain × Ring :=
  let d := { x.1 with slot := rest
                      transmitted := if seqAfter e.seq x.1.transmitted then e.seq else x.1.transmitted }
  if e.covered then (d, (x.2.release e.block).evaluateSince st x.2)
  else ({ d with sent := insertBySeq ⟨e.block, e.seq⟩ d.sent }, x.2.modify e.block (fun b => { b with state := .sent }))

/-- R119: the last byte of the frame of half `h` has been sent. -/
def dataEnd (st : Settings) (h : Fin 2) (x : Drain × Ring) : Drain × Ring :=
  let d := { x.1 with halves := put x.1.halves h ⟨.empty, none⟩ }
  match (x.1.halves[h]).frame, d.slot with
  | some f, e :: rest => if f.frame + 1 = f.frameCount then finishBlock st e rest (d, x.2) else (d, x.2)
  | _, _ => (d, x.2)

/-! ## FLOW (R120, R121, R85) -/

/-- R120. -/
def Drain.takeGrant (g : Word32) (d : Drain) : Drain :=
  if seqAfter g d.granted ∧ (g - d.committed).toNat < 2 ^ 31 then { d with granted := g } else d

/-- The value committed_through takes from a received one: clamped to transmitted_through (R121). -/
def Drain.clampCommit (c : Word32) (d : Drain) : Word32 :=
  if seqAfter c d.committed then (if seqAfter c d.transmitted then d.transmitted else c) else d.committed

/-- The blocks of SENT and REDRAIN a commit covers, in increasing sequence order (R85). -/
def coveredBlocks (c : Word32) (d : Drain) : List Sequenced :=
  (d.redrain.filter (fun m => seqAtOrBefore m.seq c)).foldl (fun l m => insertBySeq m l)
    (d.sent.filter (fun m => seqAtOrBefore m.seq c))

/-- R121, R85: committed_through has advanced to `c`. -/
def commitTo (st : Settings) (c : Word32) (x : Drain × Ring) : Drain × Ring :=
  ({ x.1 with committed := c
              sent := x.1.sent.filter (fun m => seqAfter m.seq c)
              redrain := x.1.redrain.filter (fun m => seqAfter m.seq c)
              slot := x.1.slot.map (fun e => { e with covered := e.covered || seqAtOrBefore e.seq c }) },
   ((coveredBlocks c x.1).foldl (fun rm m => rm.release m.block) x.2).evaluateSince st x.2)

/-- R120, R121: DS takes a FLOW frame, granted_through first. -/
def takeFlow (st : Settings) (g c : Word32) (x : Drain × Ring) : Drain × Ring :=
  let d := x.1.takeGrant g
  let c' := d.clampCommit c
  if c' = d.committed then (d, x.2) else commitTo st c' (d, x.2)

/-! ## Link loss and stream reset (R123, R127) -/

/-- The port is making a half load for half `h`. -/
def loadInProgress (ps : Vector Plane 4) (h : Fin 2) : Bool :=
  ([0, 1, 2, 3] : List PlaneId).any (fun p =>
    match (ps[p]).port with
    | some (.halfLoad h' _ _ _) => h' == h
    | _ => false)

/-- A half at a link DOWN or stream reset (R117). -/
def Half.emptied (inProgress : Bool) (hf : Half) : Half :=
  match hf.state with
  | .abandoned => ⟨.abandoned, none⟩
  | .loading => if inProgress then ⟨.abandoned, none⟩ else ⟨.empty, none⟩
  | .empty | .loaded | .transmitting => ⟨.empty, none⟩

/-- Both halves at a link DOWN or stream reset. -/
def emptyHalves (ps : Vector Plane 4) (hs : Vector Half 2) : Vector Half 2 :=
  #v[(hs[(0 : Fin 2)]).emptied (loadInProgress ps 0), (hs[(1 : Fin 2)]).emptied (loadInProgress ps 1)]

/-- DS withdraws every claim not yet granted (R101). -/
def withdrawLoads (ps : Vector Plane 4) : Vector Plane 4 := mapV (fun p => { p with drain := [] }) ps

/-- A block of the slot at a link DOWN: released when covered, else REDRAIN (R86, R123). -/
def slotDown (x : Drain × Ring) (e : SlotEntry) : Drain × Ring :=
  if e.covered then (x.1, x.2.release e.block)
  else ({ x.1 with redrain := insertBySeq ⟨e.block, e.seq⟩ x.1.redrain },
        x.2.modify e.block (fun b => { b with state := .redrain }))

/-- A block of the SENT list at a link DOWN (R86, R123). -/
def sentDown (x : Drain × Ring) (m : Sequenced) : Drain × Ring :=
  ({ x.1 with redrain := insertBySeq m x.1.redrain }, x.2.modify m.block (fun b => { b with state := .redrain }))

/-- R86, R123: the collections at a link DOWN; pressure is evaluated if covered blocks became FREE. DESIGN CHOICE (log entry 31): two
covered blocks of the slot are released in slot order, the first position first; the spec gives them no order. -/
def collectionsDown (st : Settings) (x : Drain × Ring) : Drain × Ring :=
  let y := x.1.sent.foldl sentDown (x.1.slot.foldl slotDown ({ x.1 with slot := [], sent := [] }, x.2))
  (y.1, y.2.evaluateSince st x.2)

/-- R123: DS takes the DOWN report. -/
def State.drainDown (s : State) : State :=
  let x := collectionsDown s.ts.settings (s.ds, s.rm)
  { s with ds := { x.1 with halves := emptyHalves s.planes x.1.halves }, rm := x.2, planes := withdrawLoads s.planes }

/-- R127, second column, with R117 for the halves. -/
def Drain.streamReset (ps : Vector Plane 4) (d : Drain) : Drain :=
  { d with redrain := [], sent := [], slot := [], halves := emptyHalves ps d.halves, committed := d.highest,
           transmitted := d.highest }

end Sys2Proof.Machine
end

