-- ==== Sys2Proof/Machine/Arbiter.lean ====
section
/-! DEFINITION. The plane arbiters: the channels' offers, urgency, the choice of a channel and the grants (R95 to R99, R103). -/

namespace Sys2Proof.Machine

/-- A port is making a header write of channel `c`, on whichever plane (R97). -/
def headerWriting (ps : Vector Plane 4) (c : ChannelId) : Bool :=
  ([0, 1, 2, 3] : List PlaneId).any (fun p =>
    match (ps[p]).port with
    | some (.headerWrite c' _ _ _ _) => c' == c
    | _ => false)

/-- A port is making a payload write of channel `c`, on whichever plane (R97). -/
def payloadWriting (ps : Vector Plane 4) (c : ChannelId) : Bool :=
  ([0, 1, 2, 3] : List PlaneId).any (fun p =>
    match (ps[p]).port with
    | some (.payloadWrite c' _ _ _ _) => c' == c
    | _ => false)

/-- The header a channel offers (R97). -/
def headerOffer (s : State) (c : ChannelId) : Option WaitingHeader :=
  if headerWriting s.planes c then none else (s.chans[c]).waiting.head?

/-- The run whose head a channel offers (R97). -/
def payloadOffer (s : State) (c : ChannelId) : Option StagedRun :=
  match (s.chans[c]).runs with
  | [] => none
  | r :: _ => if r.pending.isEmpty || payloadWriting s.planes c then none else some r

/-- The access a channel's offer on plane `p` gives, its header before its payload (R98, R99). -/
def intakeAccess (s : State) (p : PlaneId) (c : ChannelId) : Option Access :=
  match headerOffer s c with
  | some w =>
    if planeOf w.block = p then some (.headerWrite c w.block w.offset w.header.bytes true) else payloadAccess
  | none => payloadAccess
where
  payloadAccess : Option Access :=
    match payloadOffer s c with
    | some r =>
      if planeOf r.block = p then
        some (.payloadWrite c r.block (r.recordOffset + Config.recordHeaderSize + r.written)
          (r.pending.take Config.pieceMax) true)
      else none
    | none => none

/-- A channel that makes intake urgent where it offers a piece (R96). -/
def Channel.urgent (ch : Channel) : Bool := decide (Config.urgentOccupancy ≤ ch.occupancy ∨ ch.waiting.length = 2)

/-- The channels in the order of a search that starts after the pointer (R98). -/
def intakeOrder (pointer : ChannelId) : List ChannelId := allChannels.map (fun i => pointer + 1 + i)

/-- The first channel of the search that offers a piece on the plane, urgent ones only at step 2 of R95, with its access. -/
def intakeChoice (s : State) (p : PlaneId) (urgentOnly : Bool) : Option (ChannelId × Access) :=
  (intakeOrder (s.planes[p]).pointer).findSome? (fun c =>
    if urgentOnly && !(s.chans[c]).urgent then none else (intakeAccess s p c).map (fun a => (c, a)))

/-- The plane after an INTAKE grant. -/
def Plane.grantIntake (x : ChannelId × Access) (pl : Plane) : Plane := { pl with port := some x.2, pointer := x.1 }

/-- The plane after a refresh grant (R103). -/
def Plane.grantRefresh (pl : Plane) : Plane := { pl with port := some .refresh, owed := pl.owed - 1 }

/-- Steps 5 and 6 of R95. -/
def grantLow (s : State) (p : PlaneId) : Plane :=
  match intakeChoice s p false with
  | some x => (s.planes[p]).grantIntake x
  | none => if 0 < (s.planes[p]).owed then (s.planes[p]).grantRefresh else s.planes[p]

/-- Steps 3 and 4 of R95, then the lower ones. -/
def grantReads (s : State) (p : PlaneId) : Plane :=
  let pl := s.planes[p]
  match pl.drain with
  | k :: rest => { pl with port := some (.halfLoad k.half k.block k.offset k.length), drain := rest }
  | [] =>
    match pl.review with
    | some r => { pl with port := some (.reviewRead r.block r.offset r.length true), review := none }
    | none => grantLow s p

/-- The grant order of R95 at a free port. -/
def grantOrder (s : State) (p : PlaneId) : Plane :=
  if Config.owedMax ≤ (s.planes[p]).owed then (s.planes[p]).grantRefresh
  else
    match intakeChoice s p true with
    | some x => (s.planes[p]).grantIntake x
    | none => grantReads s p

/-- The arbiter of plane `p` makes a grant when the plane is READY, its port free and a claim waits (R94, R95). -/
def grant (p : PlaneId) (s : State) : State :=
  if (s.planes[p]).state = .ready ∧ (s.planes[p]).port = none then { s with planes := put s.planes p (grantOrder s p) } else s

/-- Every arbiter. -/
def grants (s : State) : State := grant 3 (grant 2 (grant 1 (grant 0 s)))

/-- What DS and the arbiters do of their own once a command has acted (log entry 6). -/
def settle (s : State) : State := grants (drainWork s)

end Sys2Proof.Machine
end

