-- ==== Sys2Proof/Machine/Operands.lean ====
section
/-! DEFINITION. What the contents of a request, a flash entry and a review request stand for: which row of the opcode table executes a
request, the length each kind must have, and the decoding of table entries with their checks and clamps (R43, R157, R184, R185). -/

namespace Sys2Proof.Machine

/-- A byte as a number below `n`; `none` when it names nothing (R181). -/
def finOfByte (n : Nat) (b : Byte) : Option (Fin n) := if h : b.toNat < n then some ⟨b.toNat, h⟩ else none

/-- A yes/no field (R181). -/
def decodeYesNo (b : Byte) : Option Bool := if b = 0#8 then some false else if b = 1#8 then some true else none

/-! ## Which row executes a request (R157) -/

/-- The rows of the opcode table by which MU executes a request. -/
inductive RequestRow where
  | tableWriteSlotMap | tableWriteProfile | tableWriteChannel | tableWriteSettings | tableRead
  | streamRun | streamPause | streamHalt | streamResume | streamStandby
  | channelStart | channelStop | channelFlush | blockQuery | statusQuery | forceBoundary
  | resetStream | resetDevice | unknownRequestKind
  deriving DecidableEq, Repr

/-- The row by table code (R181). -/
def tableWriteRow (code : Nat) : Option RequestRow :=
  match code with
  | 1 => some .tableWriteSlotMap | 2 => some .tableWriteProfile | 3 => some .tableWriteChannel
  | 4 => some .tableWriteSettings | _ => none

/-- The row by stream command code (R161, R181). -/
def streamRow (code : Nat) : Option RequestRow :=
  match code with
  | 1 => some .streamRun | 2 => some .streamPause | 3 => some .streamHalt | 4 => some .streamResume
  | 5 => some .streamStandby | _ => none

/-- The row by channel command code (R164, R181). -/
def channelRow (code : Nat) : Option RequestRow :=
  match code with
  | 1 => some .channelStart | 2 => some .channelStop | 3 => some .channelFlush | _ => none

/-- The row by reset scope (R165, R181). -/
def resetRow (code : Nat) : Option RequestRow :=
  match code with
  | 1 => some .resetStream | 2 => some .resetDevice | _ => none

/-- The row that executes a request; `none` when a code in its contents names no table, command or scope, which is answered
BAD_ARG when MU starts it (R158, R161, R164, R165). -/
def Request.row (r : Request) : Option RequestRow :=
  match r.kind.toNat with
  | 1 => tableWriteRow (byteAt r.contents 0).toNat
  | 2 => some .tableRead
  | 3 => streamRow (byteAt r.contents 0).toNat
  | 4 => channelRow (byteAt r.contents 1).toNat
  | 5 => some .blockQuery
  | 6 => some .statusQuery
  | 7 => some .forceBoundary
  | 8 => resetRow (byteAt r.contents 0).toNat
  | _ => some .unknownRequestKind

/-- The size of an entry payload by table code (R185). -/
def entrySize (code : Nat) : Option Nat :=
  match code with
  | 1 => some 4 | 2 => some 8 | 3 => some 12 | 4 => some 12 | _ => none

/-- The contents length a row's request must have (R184); `none` for a kind that names nothing, whose length is not judged. -/
def RequestRow.length : RequestRow → Option Nat
  | .tableWriteSlotMap => some 8
  | .tableWriteProfile => some 12
  | .tableWriteChannel | .tableWriteSettings => some 16
  | .tableRead | .streamRun | .streamPause | .streamHalt | .streamResume | .streamStandby => some 4
  | .channelStart | .channelStop | .channelFlush | .blockQuery | .resetStream | .resetDevice => some 4
  | .statusQuery | .forceBoundary => some 0
  | .unknownRequestKind => none

/-- The length test of R157. -/
def lengthFits (row : RequestRow) (r : Request) : Bool :=
  match row.length with
  | some n => decide (r.contents.length = n)
  | none => true

/-! ## Table entries (R14, R20, R43, R159, R185) -/

/-- Slot Map content: a channel, UNUSED, or nothing (R14). -/
def decodeSlotMap (bs : List Byte) : Option (Option ChannelId) :=
  if byteAt bs 0 = 31#8 then some none else (finOfByte 16 (byteAt bs 0)).map some

def decodeMode (b : Byte) : Option Mode :=
  match b.toNat with
  | 0 => some .pass | 1 => some .pick | 2 => some .mean | 3 => some .peak | _ => none

def decodeWidth (b : Byte) : Option Width :=
  match b.toNat with
  | 8 => some .w8 | 12 => some .w12 | 16 => some .w16 | _ => none

/-- The clamp of R43. -/
def clampRecordLen (mode : Mode) (n : Nat) : Nat :=
  let m := if n < 16 then 16 else n
  if mode = .peak ∧ m % 2 = 1 then m + 1 else m

/-- A Profile Table entry, checked and clamped (R43, R185). -/
def decodeProfile (bs : List Byte) : Option Profile :=
  match decodeMode (byteAt bs 6), decodeWidth (byteAt bs 7) with
  | some mode, some width =>
    let factor := leAt bs 0 2 + 1
    if mode = .pass ∧ factor ≠ 1 then none
    else some { factor := factor, mode := mode, width := width, offset := (BitVec.ofNat 16 (leAt bs 4 2)).toInt,
                recordLen := clampRecordLen mode (leAt bs 2 2 + 1) }
  | _, _ => none

/-- zone_line: Z0..Z3, or NONE (R181). -/
def decodeZone (b : Byte) : Option (Option (Fin 4)) :=
  if b = 4#8 then some none else (finOfByte 4 b).map some

def decodePolicy (b : Byte) : Option Policy :=
  match b.toNat with
  | 0 => some .keep | 1 => some .degrade | 2 => some .shed | _ => none

/-- A Channel Table entry (R20, R185). -/
def decodeChannel (bs : List Byte) : Option ChannelConfig := do
  let a ← finOfByte 8 (byteAt bs 0)
  let b ← finOfByte 8 (byteAt bs 1)
  let f ← finOfByte 8 (byteAt bs 2)
  let z ← decodeZone (byteAt bs 3)
  let k ← finOfByte 4 (byteAt bs 4)
  let p ← decodePolicy (byteAt bs 5)
  let atSweep ← decodeYesNo (byteAt bs 8)
  let startAt ← decodeYesNo (byteAt bs 9)
  let auto ← decodeYesNo (byteAt bs 10)
  return { profileA := a, profileB := b, profileF := f, zoneLine := z, cls := k, policy := p, sealAgeMs := leAt bs 6 2,
           sealAtSweep := atSweep, startAtSweep := startAt, autostart := auto }

/-- The content checks of a Settings write (R159). -/
def settingsInRange (slots mask tight critical hyst : Nat) (ws : List Nat) : Bool :=
  decide (2 ≤ slots ∧ slots ≤ 32 ∧ mask < 16 ∧ critical + hyst < tight ∧ tight ≤ 8192) && ws.all (fun w => decide (w ≤ 15))

/-- A Settings entry (R159, R181, R185). -/
def decodeSettings (bs : List Byte) : Option Settings :=
  let w := fun i => (byteAt bs i).toNat
  if settingsInRange (w 0) (w 1) (leAt bs 2 2) (leAt bs 4 2) (leAt bs 6 2) [w 8, w 9, w 10, w 11] then
    some { slotCount := w 0, planeMask := BitVec.ofNat 4 (w 1), tightMark := leAt bs 2 2, criticalMark := leAt bs 4 2,
           hysteresis := leAt bs 6 2, weights := #v[w 8, w 9, w 10, w 11] }
  else none

/-! ## Review requests (R169) -/

/-- A block id 0..8191. -/
def blockInRange (b : Word16) : Bool := decide (b.toNat < Config.blockCount)

/-- The form checks of a READ (R169). -/
def readFormOk (b : Word16) (off : Word32) (len : Word16) : Bool :=
  blockInRange b && decide (4 ≤ len.toNat ∧ len.toNat ≤ 4096 ∧ len.toNat % 4 = 0 ∧ off.toNat % 4 = 0)

end Sys2Proof.Machine
end

