-- ==== Sys2Proof/Machine/Tables.lean ====
section
/-! DEFINITION. The Table Store: immediate and staged writes, the commit, and reads (R13, R14, R20, R43 to R45, R158 to R160). -/

namespace Sys2Proof.Machine

/-- An immediate write replaces the entry and removes its pending copy; a staged one becomes the pending copy (R158). -/
def Entry.write {α : Type} (immediate : Bool) (x : α) (e : Entry α) : Entry α :=
  if immediate then ⟨x, none⟩ else ⟨e.current, some x⟩

/-- A pending copy replaces the current entry (R13). -/
def Entry.commit {α : Type} (e : Entry α) : Entry α :=
  match e.pending with
  | some x => ⟨x, none⟩
  | none => e

/-- R13: every pending copy is committed. -/
def TableStore.commit (ts : TableStore) : TableStore :=
  { slotMap := mapV Entry.commit ts.slotMap
    profiles := mapV Entry.commit ts.profiles
    channels := mapV Entry.commit ts.channels
    settings := { ts.settings with slotCount := ts.pendingSlotCount.getD ts.settings.slotCount }
    pendingSlotCount := none }

/-- The stream states in which Slot Map and slot_count writes are immediate (R14, R15). -/
def configuring (st : StreamState) : Bool := decide (st = .init ∨ st = .standby)

/-- An entry number within a table of `n` entries (R158). -/
def entryNumber (n : Nat) (no : Byte) : Option (Fin n) := finOfByte n no

/-- R14: a write to a Slot Map entry. -/
def writeSlotMap (no : Byte) (bs : List Byte) (s : State) : State × ReplyStatus :=
  match entryNumber 32 no, decodeSlotMap bs with
  | some i, some x =>
    let table := put s.ts.slotMap i ((s.ts.slotMap[i]).write (configuring s.mu.stream) x)
    ({ s with ts := { s.ts with slotMap := table } }, .ok)
  | _, _ => (s, .badArg)

/-- The Channel Table entry of channel `c` names profile `k` (R44). -/
def namesProfile (s : State) (k : Fin 8) (c : ChannelId) : Bool :=
  let cfg := (s.ts.channels[c]).current
  cfg.profileA == k || cfg.profileB == k || cfg.profileF == k

/-- A profile is referenced by a channel that is not IDLE (R44). -/
def profileReferenced (s : State) (k : Fin 8) : Bool :=
  allChannels.any (fun c => decide ((s.chans[c]).state ≠ .idle) && namesProfile s k c)

/-- R43, R44: a write to a Profile Table entry. -/
def writeProfile (no : Byte) (bs : List Byte) (s : State) : State × ReplyStatus :=
  match entryNumber 8 no, decodeProfile bs with
  | some k, some x =>
    let table := put s.ts.profiles k ((s.ts.profiles[k]).write (!profileReferenced s k) x)
    ({ s with ts := { s.ts with profiles := table } }, .ok)
  | _, _ => (s, .badArg)

/-- R20: a write to a Channel Table entry. -/
def writeChannel (no : Byte) (bs : List Byte) (s : State) : State × ReplyStatus :=
  match entryNumber 16 no, decodeChannel bs with
  | some c, some x =>
    let table := put s.ts.channels c ((s.ts.channels[c]).write (decide ((s.chans[c]).state = .idle)) x)
    ({ s with ts := { s.ts with channels := table } }, .ok)
  | _, _ => (s, .badArg)

/-! ## Settings (R75, R90, R125, R159) -/

/-- RM's judgement of a plane_mask that differs from the current one (R90). -/
def maskAllowed (new : BitVec 4) (s : State) : Bool :=
  let old := s.ts.settings.planeMask
  decide (s.mu.stream = .standby) && decide (new ≠ 0#4) &&
    ([0, 1, 2, 3] : List PlaneId).all (fun p =>
      (!(inPlaneSet old p && !inPlaneSet new p) || s.rm.planeAllFree p) &&
      (!(inPlaneSet new p && !inPlaneSet old p) || decide ((s.planes[p]).state ≠ .faulty)))

/-- The pressure marks differ (R75). -/
def marksDiffer (a b : Settings) : Bool :=
  decide (a.tightMark ≠ b.tightMark ∨ a.criticalMark ≠ b.criticalMark ∨ a.hysteresis ≠ b.hysteresis)

/-- RM takes new marks: pressure is evaluated once when they differ (R75). -/
def takeMarks (old new : Settings) (rm : Ring) : Ring := if marksDiffer old new then rm.evaluate new else rm

/-- RM takes a new plane_mask in one action, pressure evaluated once (R90). -/
def takeMask (s : State) (new : Settings) (rm : Ring) : Ring :=
  let old := s.ts.settings.planeMask
  if new.planeMask = old then rm
  else
    let ready := fun p : PlaneId => decide ((s.planes[p]).state = .ready)
    Ring.evaluate new (Ring.changePlane old new.planeMask (ready 3) 3 (Ring.changePlane old new.planeMask (ready 2) 2
      (Ring.changePlane old new.planeMask (ready 1) 1 (Ring.changePlane old new.planeMask (ready 0) 0 rm))))

/-- A Settings write that passes takes effect field by field (R159). -/
def applySettings (new : Settings) (s : State) : State :=
  let now := configuring s.mu.stream
  { s with
    ts := { s.ts with
      settings := { new with slotCount := if now then new.slotCount else s.ts.settings.slotCount }
      pendingSlotCount := if now then none else some new.slotCount }
    rm := takeMask s new (takeMarks s.ts.settings new s.rm) }

/-- R159: a write to Settings. -/
def writeSettings (no : Byte) (bs : List Byte) (s : State) : State × ReplyStatus :=
  match entryNumber 1 no, decodeSettings bs with
  | some _, some new =>
    if new.planeMask = s.ts.settings.planeMask ∨ maskAllowed new.planeMask s then (applySettings new s, .ok)
    else (s, .refused)
  | _, _ => (s, .badArg)

/-- A TABLE_WRITE by table code: `no` is the entry number and `bs` the entry payload (R158). -/
def writeTable (table : Nat) (no : Byte) (bs : List Byte) (s : State) : State × ReplyStatus :=
  match table with
  | 1 => writeSlotMap no bs s
  | 2 => writeProfile no bs s
  | 3 => writeChannel no bs s
  | 4 => writeSettings no bs s
  | _ => (s, .badArg)

/-! ## Reads (R160, R184) -/

/-- The contents of a TABLE_READ reply: head, current payload, pending payload when present (R184). -/
def readContents (table no : Byte) (current : List Byte) (pending : Option (List Byte)) : List Byte :=
  [table, no, yesNo pending.isSome, 0#8] ++ current ++ pending.getD []

/-- An entry's reply contents. -/
def Entry.readContents {α : Type} (f : α → List Byte) (table no : Byte) (e : Entry α) : List Byte :=
  Machine.readContents table no (f e.current) (e.pending.map f)

/-- R160: the contents of the reply; `none` for a table or entry that does not exist. DESIGN CHOICE (log entry 32): the entry at TS and
the runtime part at the channel are read in one step, so no event falls between the two reads. -/
def readTable (table no : Byte) (s : State) : Option (List Byte) :=
  match table.toNat with
  | 1 => (entryNumber 32 no).map (fun i => (s.ts.slotMap[i]).readContents slotMapBytes table no)
  | 2 => (entryNumber 8 no).map (fun k => (s.ts.profiles[k]).readContents Profile.bytes table no)
  | 3 => (entryNumber 16 no).map (fun c =>
      (s.ts.channels[c]).readContents ChannelConfig.bytes table no ++ (s.chans[c]).runtimeBytes)
  | 4 => (entryNumber 1 no).map (fun _ =>
      readContents table no s.ts.settings.bytes
        (s.ts.pendingSlotCount.map (fun n => ({ s.ts.settings with slotCount := n }).bytes)))
  | _ => none

end Sys2Proof.Machine
end

