-- ==== Sys2Proof/Machine/Acquisition.lean ====
section
/-! DEFINITION. The Acquisition Port: frames on the port, the tag sequence, boundaries, distribution (01). -/

namespace Sys2Proof.Machine

/-- A complete frame's parts (R182). -/
structure FrameParts where
  tag : Word16
  flags : Word16
  samples : List Word16
  check : Word16
  deriving DecidableEq, Repr

/-- The parts of a frame of three words or more (R1, R182). -/
def frameParts : List Word16 → Option FrameParts
  | tag :: flags :: w :: rest =>
    some { tag := tag, flags := flags, samples := (w :: rest).dropLast, check := (w :: rest).getLast (by simp) }
  | _ => none

/-- The sum, modulo 65536, of the tag, the flags word and every sample (R2). -/
def FrameParts.sum (f : FrameParts) : Word16 := f.samples.foldl (fun a w => a + w) (f.tag + f.flags)

/-- The SWEEP flag (R182). -/
def FrameParts.sweepFlag (f : FrameParts) : Bool := f.flags.getLsbD 0

/-- The zone mask Z0..Z3 (R9, R182). -/
def FrameParts.zones (f : FrameParts) : BitVec 4 := (f.flags >>> 4).setWidth 4

/-- A boundary candidate of R2, and the boundary of R10 once the frame is good. -/
def boundaryFrame (s : State) (f : FrameParts) : Bool := f.sweepFlag || s.ap.forcedBoundary

/-- The sample count is acceptable (R2). -/
def countAcceptable (s : State) (f : FrameParts) : Bool :=
  decide (f.samples.length = s.ts.settings.slotCount) ||
    (match s.ts.pendingSlotCount with
     | some n => decide (n ≠ s.ts.settings.slotCount ∧ f.samples.length = n) && boundaryFrame s f
     | none => false)

/-- R2: the parts of a good frame; `none` for a bad one. `framed` is false for a frame cut or too long (R1). -/
def goodFrame (s : State) (framed : Bool) (words : List Word16) : Option FrameParts :=
  match frameParts words with
  | some f => if framed && decide (f.sum = f.check) && countAcceptable s f then some f else none
  | none => none

/-! ## Missed frames (R3, R5, R8) -/

/-- The current Slot Map entries below slot_count, in slot order (R15). -/
def usedSlots (ts : TableStore) : List (Entry (Option ChannelId)) := ts.slotMap.toList.take ts.settings.slotCount

/-- The number of slots a channel has (R8). -/
def slotsOf (ts : TableStore) (c : ChannelId) : Nat := ((usedSlots ts).filter (fun e => e.current == some c)).length

/-- R8: one report for each ACTIVE or LOSS channel with slots; `missed` frames, the first of them numbered `first`. -/
def reportMissed (missed : Nat) (first : Word64) (s : State) : State :=
  eachChannel (fun c t =>
    if slotsOf s.ts c = 0 then t
    else onChannel (fun v e => missedReport v (BitVec.ofNat 64 (slotsOf s.ts c * missed)) first e) c t) s

/-- R3: a bad frame is counted as one missed frame. -/
def takeBad (s : State) : State :=
  let first := s.ap.frameCounter
  let s1 := { s with ap := { s.ap with frameCounter := first + 1#64, expected := s.ap.expected.map (fun t => t + 1#16) } }
  if s.ap.expected.isSome then reportMissed 1 first s1 else s1

/-- The frames a good frame's tag shows as missed (R5). -/
def missedFrames (ap : AcquisitionPort) (tag : Word16) : Nat :=
  match ap.expected with
  | none => 0
  | some e => if (tag - e).toNat < 4096 then (tag - e).toNat else 0

/-- A tag 4096 or more ahead resynchronises (R5). -/
def resynchronises (ap : AcquisitionPort) (tag : Word16) : Bool :=
  match ap.expected with
  | none => false
  | some e => decide (4096 ≤ (tag - e).toNat)

/-- Stage 1 of R4: tag comparison and the counters (R5, R7); a good frame clears the forced-boundary flag (R10). -/
def compareTag (f : FrameParts) (ap : AcquisitionPort) : AcquisitionPort :=
  { ap with expected := some (f.tag + 1#16)
            tagResync := ap.tagResync || resynchronises ap f.tag
            frameCounter := ap.frameCounter + BitVec.ofNat 64 (missedFrames ap f.tag) + 1#64
            forcedBoundary := false }

/-! ## Boundaries (R12, R131) -/

/-- R131: MK takes a SWEEP request. -/
def MarkUnit.sweepRequest (sweep : Word32) (frame : Word64) (m : MarkUnit) : MarkUnit :=
  if m.queue.length < Config.markQueueMax then { m with queue := m.queue ++ [.sweep sweep frame m.skip], skip := 0 }
  else { m with skip := countUp m.skip }

/-- Stage 3 of R4: the steps of R12, for the boundary frame numbered `frame`. -/
def takeBoundary (frame : Word64) (s : State) : State :=
  let n := s.ap.sweepCounter + 1#32
  { s with ap := { s.ap with sweepCounter := n }
           ts := s.ts.commit
           marks := if configuring s.mu.stream then s.marks else s.marks.sweepRequest n frame }

/-! ## Distribution (R16) -/

/-- A channel's samples of a frame, in slot order, as signed values. -/
def samplesFor (ts : TableStore) (samples : List Word16) (c : ChannelId) : List Int :=
  ((usedSlots ts).zip samples).filterMap (fun x => if x.1.current = some c then some x.2.toInt else none)

/-- Stage 4 of R4: each channel with samples takes its delivery. -/
def distribute (f : FrameParts) (frame : Word64) (boundary : Bool) (s : State) : State :=
  eachChannel (fun c t =>
    let xs := samplesFor s.ts f.samples c
    if xs.isEmpty then t
    else onChannel (fun v e => deliver v ⟨xs, frame, s.ap.sweepCounter, f.zones, boundary⟩ e) c t) s

/-- R4: the four stages of a good frame.
DESIGN CHOICE (log entry 36): the stages are one step, so no departure from the Mark Queue falls between the SWEEP request of stage 3
and a channel's arrival of stage 4; R134 does not exclude one. -/
def takeGood (f : FrameParts) (s : State) : State :=
  let missed := missedFrames s.ap f.tag
  let frame := s.ap.frameCounter + BitVec.ofNat 64 missed
  let boundary := boundaryFrame s f
  let s1 := { s with ap := compareTag f s.ap }
  let s2 := if missed = 0 then s1 else reportMissed missed s.ap.frameCounter s1
  let s3 := if boundary then takeBoundary frame s2 else s2
  distribute f frame boundary s3

/-- AP takes a frame: good or bad (R1 to R4). DS and the arbiters then act. -/
def takeFrame (framed : Bool) (words : List Word16) (s : State) : State :=
  settle (match goodFrame s framed words with
    | some f => takeGood f s
    | none => takeBad s)

/-! ## The port (R1) -/

/-- The open frame with a further word; words beyond the 35th are discarded. -/
def OpenFrame.add (w : Word16) (f : OpenFrame) : OpenFrame :=
  if f.words.length < 35 then { f with words := f.words ++ [w] } else { f with overlong := true }

/-- The port's open frame set. -/
def setOpen (o : Option OpenFrame) (s : State) : State := { s with ap := { s.ap with openFrame := o } }

/-- A frame-start word ends an open frame as a bad one and begins a new frame (R1). -/
def startFrame (s : State) : State :=
  match s.ap.openFrame with
  | some f => setOpen (some ⟨[], false⟩) (takeFrame false f.words (setOpen none s))
  | none => setOpen (some ⟨[], false⟩) s

/-- A word of the open frame, and the frame's taking at its end; outside a frame a word counts as nothing (R1). -/
def addWord (w : PortWord) (s : State) : State :=
  match s.ap.openFrame with
  | none => s
  | some f =>
    let f' := f.add w.value
    if w.frameEnd then takeFrame (!f'.overlong) f'.words (setOpen none s) else setOpen (some f') s

/-- One word at the port. -/
def portWord (s : State) (w : PortWord) : State := addWord w (if w.frameStart then startFrame s else s)

/-- ACQUISITION_FRAME (R1): the words arrive one after another. -/
def execAcquisitionFrame (words : List PortWord) (s : State) : Answer :=
  released s (fun t => words.foldl portWord t)

end Sys2Proof.Machine
end

