-- ==== Sys2Proof/Machine/Responses.lean ====
section
/-! DEFINITION. The responses the Review Port gives (R169, R187), used by its requests, by completed reads and by resets. -/

namespace Sys2Proof.Machine

/-- The request kind codes of the Review Port (R181). -/
def locateKind : Byte := 1#8
def pinKind : Byte := 2#8
def unpinKind : Byte := 3#8
def readKind : Byte := 4#8
def describeKind : Byte := 5#8

/-- The block id of a response that names no block (R187). -/
def noBlock : Word16 := 0xFFFF#16

/-- A response is given to the display processor. -/
def respond (r : ReviewResponse) (s : State) : State := { s with rp := { s.rp with responses := s.rp.responses ++ [r] } }

/-- A response whose two bytes at offset 4 the spec leaves unstated: a free value (R187, log entry 8). -/
def respondOpen (kind : Byte) (st : ReviewStatus) (b : Word16) (s : State) : State :=
  respond ⟨kind, st, b, Config.openReviewField s.fresh, []⟩ { s with fresh := s.fresh + 1 }

/-- The request in progress has been answered: the slot is emptied and the port is IDLE (R169). -/
def emptySlot (s : State) : State := { s with rp := { s.rp with slot := none } }

/-- A request in the slot is answered ABORTED and the slot is emptied (R174, R175). -/
def abortReview (s : State) : State :=
  match s.rp.slot with
  | none => s
  | some (.locate _ _ _ _) => emptySlot (respond ⟨locateKind, .aborted, noBlock, 0#16, []⟩ s)
  | some (.read b _ _) => emptySlot (respondOpen readKind .aborted (BitVec.ofNat 16 b) s)

end Sys2Proof.Machine
end

