-- ==== Sys2Proof/Machine/Review.lean ====
section
/-! DEFINITION. The Review Port's requests (10): LOCATE and its scan, PIN, UNPIN, READ, DESCRIBE. -/

namespace Sys2Proof.Machine

/-- RP takes a request only when it is IDLE and its reset hold is clear; otherwise the request is answered BUSY (R169). -/
def accepts (s : State) : Bool := s.rp.slot.isNone && !s.rp.hold

/-- A pin count as a response's two bytes (R187). -/
def pinsWord (rm : Ring) (b : Word16) : Word16 := BitVec.ofNat 16 (rm.block b.toNat).pins

/-! ## LOCATE (R170, R171) -/

/-- A LOCATE that passes its form check starts its scan at entry 0. -/
def locate (channel run : Byte) (index : Word64) (s : State) : State :=
  if accepts s then
    match finOfByte 16 channel with
    | some c => { s with rp := { s.rp with slot := some (.locate c run index 0) } }
    | none => respond ⟨locateKind, .badArg, noBlock, 0#16, []⟩ s
  else respond ⟨locateKind, .busy, noBlock, 0#16, []⟩ s

/-- LOCATE (R169, R170). -/
def execLocate (channel run : Byte) (index : Word64) (s : State) : Answer := released s (locate channel run index)

/-- The index lies within the block's range (R170). -/
def indexWithin (index : Word64) (d : Descriptor) : Bool :=
  match d.firstIndex, d.lastIndex with
  | some a, some z => decide ((index - a).toNat ≤ (z - a).toNat)
  | _, _ => false

/-- An entry matches a LOCATE (R170). -/
def locateMatches (c : ChannelId) (run : Byte) (index : Word64) (d : Descriptor) : Bool :=
  pinnable d.state && decide (d.owner = some c) && decide (d.run = some run) && indexWithin index d

/-- The scan stops at entry `b`: RM pins the block in the same action, and the LOCATE is answered with the descriptor (R170). -/
def locateFound (b : BlockId) (s : State) : State :=
  let x := s.rm.pin b
  emptySlot (respond ⟨locateKind, x.1, BitVec.ofNat 16 b, 0#16, (x.2.block b).bytes b⟩ { s with rm := x.2 })

/-- The scan reads one entry (R170, R171). -/
def scanStep (s : State) : State :=
  match s.rp.slot with
  | some (.locate c run index b) =>
    if locateMatches c run index (s.rm.block b) then locateFound b s
    else if b + 1 < Config.blockCount then { s with rp := { s.rp with slot := some (.locate c run index (b + 1)) } }
    else emptySlot (respond ⟨locateKind, .notFound, noBlock, 0#16, []⟩ s)
  | _ => s

/-- LOCATE_SCAN_STEP (R171). -/
def execLocateScanStep (s : State) : Answer := released s scanStep

/-! ## PIN and UNPIN (R87, R88, R172) -/

/-- R87, R172. DESIGN CHOICE (log entry 34): the request's arrival, RM's action and the answer are one step. -/
def pin (b : Word16) (s : State) : State :=
  if !accepts s then respondOpen pinKind .busy b s
  else if !blockInRange b then respondOpen pinKind .badArg b s
  else
    let x := s.rm.pin b.toNat
    respond ⟨pinKind, x.1, b, pinsWord x.2 b, []⟩ { s with rm := x.2 }

/-- PIN. -/
def execPin (b : Word16) (s : State) : Answer := released s (pin b)

/-- R88, R172. DESIGN CHOICE (log entry 34): the request's arrival, RM's action and the answer are one step. -/
def unpin (b : Word16) (s : State) : State :=
  if !accepts s then respondOpen unpinKind .busy b s
  else if !blockInRange b then respondOpen unpinKind .badArg b s
  else
    let x := s.rm.unpin s.ts.settings b.toNat
    respond ⟨unpinKind, x.1, b, pinsWord x.2 b, []⟩ { s with rm := x.2 }

/-- UNPIN. -/
def execUnpin (b : Word16) (s : State) : Answer := released s (unpin b)

/-! ## READ (R173) -/

/-- Step 2 of R173: the REVIEW claim on the block's plane; the request is in progress until the read ends. -/
def claimReview (b : BlockId) (off len : Nat) (s : State) : State :=
  { s with planes := put s.planes (planeOf b) { s.planes[planeOf b] with review := some ⟨b, off, len⟩ }
           rp := { s.rp with slot := some (.read b off len) } }

/-- Step 1 of R173: the checks on the block. -/
def checkRead (b : Word16) (off len : Nat) (s : State) : State :=
  let d := s.rm.block b.toNat
  if d.pins = 0 then respondOpen readKind .notPinned b s
  else if d.bytesUsed ≤ off then respondOpen readKind .badArg b s
  else grants (claimReview b.toNat off (min len (d.bytesUsed - off)) s)

/-- R169, R173. -/
def read (b : Word16) (off : Word32) (len : Word16) (s : State) : State :=
  if !accepts s then respondOpen readKind .busy b s
  else if !readFormOk b off len then respondOpen readKind .badArg b s
  else checkRead b off.toNat len.toNat s

/-- READ. -/
def execRead (b : Word16) (off : Word32) (len : Word16) (s : State) : Answer := released s (read b off len)

/-! ## DESCRIBE and requests of unknown kind (R169, R172) -/

/-- R172: two bytes at offset 4 carry no field. DESIGN CHOICE (log entry 34): as for PIN. -/
def describe (b : Word16) (s : State) : State :=
  if !accepts s then respond ⟨describeKind, .busy, b, 0#16, []⟩ s
  else if !blockInRange b then respond ⟨describeKind, .badArg, b, 0#16, []⟩ s
  else respond ⟨describeKind, .ok, b, 0#16, (s.rm.block b.toNat).bytes b.toNat⟩ s

/-- DESCRIBE. -/
def execDescribe (b : Word16) (s : State) : Answer := released s (describe b)

/-- A kind code that names none of the five is answered BAD_ARG, or BUSY like any request (R169). -/
def unknownReview (kind : Byte) (s : State) : State :=
  respond ⟨kind, if accepts s then .badArg else .busy, noBlock, 0#16, []⟩ s

/-- A review request arrives while another block's event goes on (R169). -/
def takeReview (s : State) : ReviewCall → State
  | .locate channel run index => locate channel run index s
  | .pin block => pin block s
  | .unpin block => unpin block s
  | .read block offset length => read block offset length s
  | .describe block => describe block s
  | .unknown kind => unknownReview kind s

/-- UNKNOWN_REVIEW_KIND. -/
def execUnknownReviewKind (kind : Byte) (s : State) : Answer := released s (unknownReview kind)

end Sys2Proof.Machine
end

