-- ==== Sys2Proof/Machine/Requests.lean ====
section
/-! DEFINITION. The Management Unit's queues: arrival, start, judgement of form, and the reply (R154 to R157); and the device and
stream resets, which reach every block (R165, R167). -/

namespace Sys2Proof.Machine

/-- A reply is placed at the tail of the reply queue, with REQUEST_OVERFLOW, which it clears (R156). -/
def placeReply (r : Request) (st : ReplyStatus) (contents : List Byte) (s : State) : State :=
  { s with mu := { s.mu with replies := s.mu.replies ++ [⟨r.tag, r.kind, st, contents, s.mu.overflow⟩], overflow := false } }

/-- The request queue set. -/
def setQueue (q : List Request) (s : State) : State := { s with mu := { s.mu with queue := q } }

/-- R155: MU may start a request. -/
def canStart (s : State) : Bool := s.mu.inProgress.isNone && decide (s.mu.replies.length < Config.requestQueueMax)

/-- R155, R157: the head starts when nothing is in progress and a reply has room. In INIT it is answered BUSY at once; with a code
that names no table, command or scope BAD_ARG at once; and the next is tested. -/
def startFrom : List Request → State → State
  | [], s => setQueue [] s
  | r :: rest, s =>
    if canStart s then
      if s.mu.stream = .init then startFrom rest (placeReply r .busy [] s)
      else if r.row = none then startFrom rest (placeReply r .badArg [] s)
      else { s with mu := { s.mu with queue := rest, inProgress := some r } }
    else setQueue (r :: rest) s

/-- MU tests for a start (R155). -/
def startRequests (s : State) : State := startFrom s.mu.queue s

/-- R154: a request arrives. -/
def arriveRequest (r : Request) (s : State) : State :=
  if s.mu.queue.length < Config.requestQueueMax then startRequests (setQueue (s.mu.queue ++ [r]) s)
  else { s with mu := { s.mu with overflow := true } }

/-- A request's outcome: the part after it, its status, and the reply contents of an OK. -/
abbrev Served := State × ReplyStatus × List Byte

/-- R157: the form of a request of a row is judged before its meaning. -/
def judged (row : RequestRow) (r : Request) (run : State → Served) (s : State) : Served :=
  if s.mu.stream = .init then (s, .busy, [])
  else if row = .unknownRequestKind then (s, .unknownKind, [])
  else if lengthFits row r then run s
  else (s, .badArg, [])

/-- R155: the request in progress ends with its reply, and MU tests for the next. -/
def finish (r : Request) (x : Served) : State :=
  let s := placeReply r x.2.1 x.2.2 x.1
  startRequests { s with mu := { s.mu with inProgress := none } }

/-- The request in progress, if it is one the row executes. -/
def inProgressOf (row : RequestRow) (s : State) : Option Request :=
  match s.mu.inProgress with
  | some r => if r.row = some row then some r else none
  | none => none

/-- MU executes the request in progress as its row says; without one of that row nothing happens (log entries 3, 4). -/
def serve (row : RequestRow) (run : Request → State → Served) (s : State) : State :=
  match inProgressOf row s with
  | some r => finish r (judged row r (run r) s)
  | none => s

/-! ## Device reset (R167, R176) -/

/-- The start mode a strap value names (R176). -/
def modeOf (straps : BitVec 2) : StartMode :=
  match straps.toNat with
  | 0 => .link
  | 1 => .flash
  | 2 => .flashRun
  | _ => .hold

/-- The release of a device reset: every block takes its reset values, the straps are latched, a review request in the slot is
answered ABORTED (R175, R176). Capture memory keeps its bytes until each plane's initialisation clears it (R105, log entry 11). What
is not the part's own is kept: the waiting commands, the responses given, the free values. -/
def deviceReset (straps : BitVec 2) (s : State) : State :=
  let t := abortReview s
  { State.reset with
    su := StartUp.reset (modeOf straps)
    rp := { ReviewPort.reset with responses := t.rp.responses }
    mem := t.mem
    pending := t.pending
    resetArrivals := t.resetArrivals
    orders := t.orders
    fresh := t.fresh }

/-! ## Stream reset (R165) -/

/-- Accesses in progress run to their end and are not reported; the REVIEW claim is withdrawn (R102, R107). -/
def Access.unreported : Access → Access
  | .headerWrite c b o bs _ => .headerWrite c b o bs false
  | .payloadWrite c b o bs _ => .payloadWrite c b o bs false
  | .reviewRead b o n _ => .reviewRead b o n false
  | .halfLoad h b o n => .halfLoad h b o n
  | .refresh => .refresh

/-- Step 1: every channel becomes IDLE; RP answers ABORTED and sets its hold; MC withdraws the REVIEW claim (R42, R174). Step 2: the
intake offers are gone, and writes in progress go unreported (R107). -/
def resetChannels (s : State) : State :=
  let t := abortReview s
  { t with chans := mapV Channel.streamReset t.chans
           planes := mapV (fun p => { p with port := p.port.map Access.unreported, review := none }) t.planes
           rp := { t.rp with hold := true } }

/-- Step 3: RM and DS in one action (R93, R127). -/
def resetRing (s : State) : State :=
  { s with rm := s.rm.streamReset s.ts.settings
           ds := s.ds.streamReset s.planes
           planes := withdrawLoads s.planes }

/-- Steps 4, 5 and 6: marks, tables, stream (R136, R13, R165). -/
def resetTables (s : State) : State :=
  { s with marks := MarkUnit.reset, ts := s.ts.commit, mu := { s.mu with stream := .standby } }

/-- A frame in transmission at a stream reset (R151). -/
def TxFrame.atStreamReset : TxFrame → Option TxFrame
  | .data _ => none
  | .hello h _ => some (.hello h false)
  | .mark m _ => some (.mark m false)
  | .reply r => some (.reply r)
  | .fill => some .fill

/-- The HELLO reason after a stream reset (R143). -/
def HelloReason.atStreamReset : HelloReason → HelloReason
  | .linkUp => .streamReset
  | r => r

/-- Step 7: SL (R151, R152). -/
def Link.streamReset (l : Link) : Link :=
  let l1 := { l with reason := l.reason.atStreamReset, tx := l.tx.bind TxFrame.atStreamReset }
  if l.state = .ready ∨ l.state = .syncWait then
    { l1 with state := .syncWait, helloDue := true, helloSent := false, helloTimer := some Config.helloMs }
  else l1

/-- The review requests that arrive while the reset goes on reach RP after its step. They find the hold set and change nothing but
RP's answers, so their place among the later steps is not observable (R169, R174, log entry 5). -/
def takeArrivals (s : State) : State := s.resetArrivals.foldl takeReview { s with resetArrivals := [] }

/-- Steps 1 to 7 of R165, and the end of RP's hold with step 8 (R174). -/
def streamReset (s : State) : State :=
  let t := resetTables (resetRing (takeArrivals (resetChannels s)))
  { t with sl := t.sl.streamReset, rp := { t.rp with hold := false } }

end Sys2Proof.Machine
end

