-- ==== Sys2Proof/Machine/ChannelCommands.lean ====
section
/-! DEFINITION. The commands that act on one channel: START, STOP, FLUSH and the seal-age timer's expiry (R23, R36, R38, R40, R164). -/

namespace Sys2Proof.Machine

/-- A CHANNEL_CMD taken by the channel it names (R23, R164). -/
def channelCommand (f : Env → Engine → Engine × ReplyStatus) (r : Request) (s : State) : Served :=
  match finOfByte 16 (byteAt r.contents 0) with
  | none => (s, .badArg, [])
  | some c =>
    let x := f (s.env c) (s.engine c)
    (s.withEngine c x.1, x.2, [])

/-- CHANNEL_START (R23). -/
def execChannelStart (s : State) : Answer := released s (serve .channelStart (channelCommand startChannel))

/-- CHANNEL_STOP (R38, R39). -/
def execChannelStop (s : State) : Answer :=
  released s (fun t => settle (serve .channelStop (channelCommand stopChannel) t))

/-- CHANNEL_FLUSH (R40). -/
def execChannelFlush (s : State) : Answer :=
  released s (fun t => settle (serve .channelFlush (channelCommand flushChannel) t))

/-- SEAL_AGE_TIMER_EXPIRY (R36). -/
def execSealAgeTimerExpiry (c : ChannelId) (s : State) : Answer :=
  released s (onlyWhen (s.chans[c]).sealTimer.isSome (fun t => settle (onChannel (fun v e => sealAgeExpiry v e) c t)))

end Sys2Proof.Machine
end

