-- ==== Sys2Proof/Machine/Management.lean ====
section
/-! DEFINITION. The Management Unit's commands other than those to one channel: table requests, stream commands, queries, resets
(R11, R70, R157 to R167). -/

namespace Sys2Proof.Machine

/-! ## Table requests (R158 to R160) -/

/-- A TABLE_WRITE: the entry number stands at offset 1 of the contents, the entry payload at offset 4 (R184). -/
def tableWrite (write : Byte → List Byte → State → State × ReplyStatus) (r : Request) (s : State) : Served :=
  let x := write (byteAt r.contents 1) (r.contents.drop 4) s
  (x.1, x.2, [])

/-- TABLE_WRITE_SLOT_MAP (R14). -/
def execTableWriteSlotMap (s : State) : Answer := released s (serve .tableWriteSlotMap (tableWrite writeSlotMap))

/-- TABLE_WRITE_PROFILE (R43, R44). -/
def execTableWriteProfile (s : State) : Answer := released s (serve .tableWriteProfile (tableWrite writeProfile))

/-- TABLE_WRITE_CHANNEL (R20). -/
def execTableWriteChannel (s : State) : Answer := released s (serve .tableWriteChannel (tableWrite writeChannel))

/-- TABLE_WRITE_SETTINGS (R159): new weights may let DS select. -/
def execTableWriteSettings (s : State) : Answer :=
  released s (fun t => settle (serve .tableWriteSettings (tableWrite writeSettings) t))

/-- R160. -/
def tableRead (r : Request) (s : State) : Served :=
  match readTable (byteAt r.contents 0) (byteAt r.contents 1) s with
  | some bs => (s, .ok, bs)
  | none => (s, .badArg, [])

/-- TABLE_READ (R160). -/
def execTableRead (s : State) : Answer := released s (serve .tableRead tableRead)

/-! ## Stream commands (R41, R161, R162) -/

/-- MU changes the stream state. -/
def setStream (st : StreamState) (s : State) : State := { s with mu := { s.mu with stream := st } }

/-- A stream command taken from one of the states `sources`, the change then passed on; refused in any other state (R161, R162).
DESIGN CHOICE (log entry 33): MU changes and every channel takes the change in one step, so no delivery or boundary falls between. -/
def streamCommand (sources : List StreamState) (target : StreamState) (pass : State → State) (s : State) : Served :=
  if s.mu.stream ∈ sources then (pass (setStream target s), .ok, []) else (s, .refused, [])

/-- STREAM_RUN (R161): the change has no effect on a channel by itself (R41). -/
def execStreamRun (s : State) : Answer :=
  released s (serve .streamRun (fun _ t => streamCommand [.standby] .run id t))

/-- Every channel takes PAUSE, or HALT from RUN (R32, R41). -/
def passLeaveRun (s : State) : State := eachChannel (onChannel leaveRun) s

/-- STREAM_PAUSE (R161, R32). -/
def execStreamPause (s : State) : Answer :=
  released s (fun t => settle (serve .streamPause (fun _ u => streamCommand [.run] .pause passLeaveRun u) t))

/-- STREAM_HALT (R161, R32, R124): HALT from PAUSE changes no channel (R41). -/
def execStreamHalt (s : State) : Answer :=
  released s (fun t => settle (serve .streamHalt (fun _ u =>
    if u.mu.stream = .pause then streamCommand [.pause] .halt id u
    else streamCommand [.run] .halt passLeaveRun u) t))

/-- STREAM_RESUME (R161): leaving HALT, DS selects and claims again (R124). -/
def execStreamResume (s : State) : Answer :=
  released s (fun t => settle (serve .streamResume (fun _ u => streamCommand [.pause, .halt] .run id u) t))

/-- Every channel takes a STANDBY command (R41). -/
def passStandby (s : State) : State := eachChannel (onChannel takeStandby) s

/-- STREAM_STANDBY (R161, R41). -/
def execStreamStandby (s : State) : Answer :=
  released s (fun t => settle (serve .streamStandby
    (fun _ u => streamCommand [.run, .pause, .halt] .standby passStandby u) t))

/-! ## Queries (R70, R163) -/

/-- R70. -/
def blockQuery (r : Request) (s : State) : Served :=
  let b := leAt r.contents 0 2
  if b < Config.blockCount then (s, .ok, (s.rm.block b).bytes b) else (s, .badArg, [])

/-- BLOCK_QUERY (R70). -/
def execBlockQuery (s : State) : Answer := released s (serve .blockQuery blockQuery)

/-- A count in two bytes. -/
def count16 (n : Nat) : List Byte := leBytes 2 n

/-- The status record (R163, R184). -/
def statusRecord (s : State) : List Byte :=
  [s.mu.stream.code, s.sl.state.code, byteOf s.sl.lanes, s.rm.level.code]
    ++ count16 s.sl.rejected ++ count16 s.marks.queue.length
    ++ count16 (s.rm.freeOf 0) ++ count16 (s.rm.freeOf 1) ++ count16 (s.rm.freeOf 2) ++ count16 (s.rm.freeOf 3)
    ++ count16 (s.rm.queues[0]).length ++ count16 (s.rm.queues[1]).length
    ++ count16 (s.rm.queues[2]).length ++ count16 (s.rm.queues[3]).length
    ++ count16 s.ds.sent.length ++ count16 s.ds.redrain.length
    ++ word32 s.ds.granted ++ word32 s.ds.committed ++ word32 s.ds.transmitted ++ word32 s.ds.highest ++ word32 s.ds.nextSeq
    ++ word32 s.ap.sweepCounter ++ word64 s.ap.frameCounter
    ++ [byteOf ((if s.ap.tagResync then 1 else 0) + (if s.su.configFault then 2 else 0)),
        planeSetByte (planeSet (fun p => (s.planes[p]).lapse)), planeSetByte (planeSet (fun p => (s.planes[p]).fault)), 0#8]

/-- R163: the reading of TAG_RESYNC and of the REFRESH_LAPSE flags clears them. DESIGN CHOICE (log entry 32): the parts of all owners are
read in one step, so no event falls between their readings. -/
def statusQuery (_ : Request) (s : State) : Served :=
  ({ s with ap := clearTagResync s.ap, planes := clearLapses s.planes }, .ok, statusRecord s)

/-- STATUS_QUERY (R163). -/
def execStatusQuery (s : State) : Answer := released s (serve .statusQuery statusQuery)

/-! ## Other requests -/

/-- R11. -/
def forceBoundary (_ : Request) (s : State) : Served := ({ s with ap := { s.ap with forcedBoundary := true } }, .ok, [])

/-- FORCE_BOUNDARY (R11). -/
def execForceBoundary (s : State) : Answer := released s (serve .forceBoundary forceBoundary)

/-- RESET_STREAM (R165): the reply is step 8. -/
def execResetStream (s : State) : Answer := released s (serve .resetStream (fun _ t => (streamReset t, .ok, [])))

/-- A RESET with scope DEVICE that passes has no reply (R157, R167). -/
def serveDeviceReset (straps : BitVec 2) (s : State) : State :=
  match inProgressOf .resetDevice s with
  | none => s
  | some r =>
    if s.mu.stream = .init then finish r (s, .busy, [])
    else if lengthFits .resetDevice r then deviceReset straps s
    else finish r (s, .badArg, [])

/-- RESET_DEVICE (R167). -/
def execResetDevice (straps : BitVec 2) (s : State) : Answer := released s (serveDeviceReset straps)

/-- UNKNOWN_REQUEST_KIND (R157). -/
def execUnknownRequestKind (s : State) : Answer :=
  released s (serve .unknownRequestKind (fun _ t => (t, .unknownKind, [])))

end Sys2Proof.Machine
end

