-- ==== Sys2Proof/Machine/MemoryControl.lean ====
section
/-! DEFINITION. The Capture Memory Controller's commands: completions, refresh ticks, the end of plane initialisation (05). -/

namespace Sys2Proof.Machine

/-- The access ends and the port is free (R94). -/
def freePort (p : PlaneId) (s : State) : State := { s with planes := put s.planes p { s.planes[p] with port := none } }

/-- A write lands in capture memory (R99). -/
def storeBytes (b : BlockId) (off : Nat) (bs : List Byte) (s : State) : State :=
  { s with mem := writeBytes s.mem (blockAddress b off) bs }

/-- The channel and RM take the completion of a header write (R57, R100). -/
def headerWritten (c : ChannelId) (b : BlockId) (s : State) : State :=
  let ch := s.chans[c]
  { s with chans := put s.chans c ({ ch with waiting := ch.waiting.tail }).closeIfDone
           rm := s.rm.written b Config.recordHeaderSize }

/-- The piece's bytes leave the oldest run (R55). -/
def pieceWritten (n : Nat) : List StagedRun → List StagedRun
  | [] => []
  | r :: t => dropFinished ({ r with written := r.written + n, pending := r.pending.drop n } :: t)

/-- The channel and RM take the completion of a payload write (R55, R100). -/
def payloadWritten (c : ChannelId) (b : BlockId) (n : Nat) (s : State) : State :=
  let ch := s.chans[c]
  { s with chans := put s.chans c ({ ch with runs := pieceWritten n ch.runs }).closeIfDone
           rm := s.rm.written b n }

/-- HEADER_WRITE_COMPLETE (R99, R100). After a stream reset the write ends unreported (R107). -/
def execHeaderWriteComplete (p : PlaneId) (s : State) : Answer :=
  match (s.planes[p]).port with
  | some (.headerWrite c b off bs live) =>
    if s.su.resetLow then .next s
    else if inMemory (blockAddress b off) bs.length then
      .next (settle ((if live then headerWritten c b else id) (freePort p (storeBytes b off bs s))))
    else .fault (.outsideCaptureMemory (blockAddress b off))
  | _ => .next s

/-- PAYLOAD_WRITE_COMPLETE (R99, R100). After a stream reset the write ends unreported (R107). -/
def execPayloadWriteComplete (p : PlaneId) (s : State) : Answer :=
  match (s.planes[p]).port with
  | some (.payloadWrite c b off bs live) =>
    if s.su.resetLow then .next s
    else if inMemory (blockAddress b off) bs.length then
      .next (settle ((if live then payloadWritten c b bs.length else id) (freePort p (storeBytes b off bs s))))
    else .fault (.outsideCaptureMemory (blockAddress b off))
  | _ => .next s

/-- A half when MC reports the completion of its load (R101, R117). -/
def Half.loadEnded (bs : List Byte) (hf : Half) : Half :=
  match hf.state with
  | .loading => ⟨.loaded, hf.frame.map (fun f => { f with payload := bs })⟩
  | .abandoned => ⟨.empty, none⟩
  | .empty | .loaded | .transmitting => hf

/-- HALF_LOAD_COMPLETE (R101, R117). -/
def execHalfLoadComplete (p : PlaneId) (s : State) : Answer :=
  match (s.planes[p]).port with
  | some (.halfLoad h b off len) =>
    if s.su.resetLow then .next s
    else if inMemory (blockAddress b off) len then
      let bs := readBytes s.mem (blockAddress b off) len
      .next (settle (freePort p
        { s with ds := { s.ds with halves := put s.ds.halves h ((s.ds.halves[h]).loadEnded bs) } }))
    else .fault (.outsideCaptureMemory (blockAddress b off))
  | _ => .next s

/-- The READ in progress is answered with its bytes (R173). -/
def answerRead (b : BlockId) (bs : List Byte) (s : State) : State :=
  match s.rp.slot with
  | some (.read _ _ len) => emptySlot (respond ⟨readKind, .ok, BitVec.ofNat 16 b, BitVec.ofNat 16 len, bs⟩ s)
  | _ => s

/-- REVIEW_READ_COMPLETE (R102, R173). After a stream reset the bytes are discarded (R102). -/
def execReviewReadComplete (p : PlaneId) (s : State) : Answer :=
  match (s.planes[p]).port with
  | some (.reviewRead b off len live) =>
    if s.su.resetLow then .next s
    else if inMemory (blockAddress b off) len then
      let bs := readBytes s.mem (blockAddress b off) len
      .next (settle ((if live then answerRead b bs else id) (freePort p s)))
    else .fault (.outsideCaptureMemory (blockAddress b off))
  | _ => .next s

/-- REFRESH_COMPLETE (R103). -/
def execRefreshComplete (p : PlaneId) (s : State) : Answer :=
  released s (onlyWhen (decide ((s.planes[p]).port = some .refresh)) (fun t => settle (freePort p t)))

/-- REFRESH_TICK (R103, R104): counted for a READY plane only. -/
def execRefreshTick (p : PlaneId) (s : State) : Answer :=
  released s (onlyWhen (decide ((s.planes[p]).state = .ready))
    (fun t => grants { t with planes := put t.planes p (tickPlane t.planes[p]) }))

/-! ## Plane initialisation (R91, R105, R106) -/

/-- Every plane has reported the end of its initialisation. -/
def allReported (ps : Vector Plane 4) : Bool :=
  ([0, 1, 2, 3] : List PlaneId).all (fun p => decide ((ps[p]).state ≠ .initialising))

/-- The start-up logic notes a result: after the fourth the settle timer starts (R176). -/
def noteReport (s : State) : State :=
  if s.su.phase = .planeWait ∧ allReported s.planes then
    { s with su := { s.su with phase := .settle, settleTimer := some Config.settleMs } }
  else s

/-- A plane ends READY: its bytes are zero and, when plane_mask names it, its blocks become FREE (R91, R105). -/
def planeReady (p : PlaneId) (s : State) : State :=
  let rm := if inPlaneSet s.ts.settings.planeMask p then (s.rm.enablePlane p).evaluate s.ts.settings else s.rm
  { s with planes := put s.planes p { s.planes[p] with state := .ready, owed := 0, initTimer := none }
           mem := clearPlane s.mem p, rm := rm }

/-- A plane ends FAULTY: PLANE_FAULT is set and the plane leaves plane_mask (R91, R106). -/
def planeFaulty (p : PlaneId) (s : State) : State :=
  { s with planes := put s.planes p { s.planes[p] with state := .faulty, fault := true, owed := 0, initTimer := none }
           ts := { s.ts with settings :=
             { s.ts.settings with planeMask := removePlane s.ts.settings.planeMask p } } }

/-- PLANE_INIT_END (R105). -/
def execPlaneInitEnd (p : PlaneId) (ready : Bool) (s : State) : Answer :=
  released s (onlyWhen (decide ((s.planes[p]).state = .initialising))
    (fun t => noteReport (if ready then planeReady p t else planeFaulty p t)))

/-- PLANE_INIT_TIMEOUT (R105): 250 ms have passed and the plane ends FAULTY. -/
def execPlaneInitTimeout (p : PlaneId) (s : State) : Answer :=
  released s (onlyWhen (decide ((s.planes[p]).state = .initialising)) (fun t => noteReport (planeFaulty p t)))

end Sys2Proof.Machine
end

