-- ==== Sys2Proof/Machine/SpoolLink.lean ====
section
/-! DEFINITION. The Spool Link's commands: link states, training, HELLO, the choice of forward frames and their ends, return
frames (08). -/

namespace Sys2Proof.Machine

/-- The link is SYNC_WAIT or READY: its lanes carry frames (08, table of link states). -/
def Link.up (l : Link) : Bool := decide (l.state = .syncWait ∨ l.state = .ready)

/-! ## DOWN (R133, R137, R141, R142) -/

/-- SL as it enters DOWN and, in the same event, TRAINING, whose first attempt begins (R137, R138). -/
def Link.down (l : Link) : Link :=
  { l with state := .training, lanes := 0, helloDue := false, helloSent := false, helloTimer := none, silenceTimer := none,
           attemptTimer := some Config.attemptMs, tx := none, late := true }

/-- R137: SL enters DOWN from SYNC_WAIT or READY, and DS, MK and MU take the report.
DESIGN CHOICE (log entry 38): all of it is one step, so no event falls between SL's own change and a block's taking of the report. -/
def linkDown (s : State) : State :=
  let t := s.drainDown
  { t with marks := { t.marks with headInTx := false }
           mu := { t.mu with replyInTx := false }
           sl := t.sl.down }

/-- LANE_ALIGNMENT_LOSS (R141): the loss of a lane not in use is not watched. -/
def execLaneAlignmentLoss (lane : Fin 4) (s : State) : Answer :=
  released s (onlyWhen (s.sl.up && decide (lane.val < s.sl.lanes)) linkDown)

/-- RECEIVE_SILENCE_TIMEOUT (R142). -/
def execReceiveSilenceTimeout (s : State) : Answer :=
  released s (onlyWhen (s.sl.up && s.sl.silenceTimer.isSome) linkDown)

/-! ## Training (R138, R139) -/

/-- The lane count an attempt settles on; `none` when lane 0 did not align (R138). -/
def trainedLanes (aligned : BitVec 4) : Option Nat :=
  if aligned = 0b1111#4 then some 4
  else if aligned.getLsbD 0 && aligned.getLsbD 1 then some 2
  else if aligned.getLsbD 0 then some 1
  else none

/-- R139: SL enters SYNC_WAIT from TRAINING with a lane count. -/
def Link.enterSyncWait (n : Nat) (l : Link) : Link :=
  { l with state := .syncWait, lanes := n, helloDue := true, helloSent := false, helloTimer := some Config.helloMs,
           silenceTimer := some Config.silenceMs, attemptTimer := none, late := false }

/-- The next training attempt begins at once (R138). -/
def Link.nextAttempt (l : Link) : Link := { l with attemptTimer := some Config.attemptMs }

/-- TRAINING_ATTEMPT_COMPLETE (R138, R139). -/
def execTrainingAttemptComplete (aligned : BitVec 4) (s : State) : Answer :=
  released s (onlyWhen (decide (s.sl.state = .training)) (fun t =>
    match trainedLanes aligned with
    | some n => { t with sl := t.sl.enterSyncWait n }
    | none => t))

/-- TRAINING_ATTEMPT_FAILED (R138). -/
def execTrainingAttemptFailed (s : State) : Answer :=
  released s (onlyWhen (decide (s.sl.state = .training)) (fun t => { t with sl := t.sl.nextAttempt }))

/-- TRAINING_ATTEMPT_TIMEOUT (R138). -/
def execTrainingAttemptTimeout (s : State) : Answer :=
  released s (onlyWhen (decide (s.sl.state = .training) && s.sl.attemptTimer.isSome)
    (fun t => { t with sl := t.sl.nextAttempt }))

/-! ## HELLO (R139, R143, R144) -/

/-- HELLO_TIMER_EXPIRY (R139). -/
def execHelloTimerExpiry (s : State) : Answer :=
  released s (onlyWhen (decide (s.sl.state = .syncWait) && s.sl.helloTimer.isSome)
    (fun t => { t with sl := { t.sl with helloDue := true, helloTimer := some Config.helloMs } }))

/-- The contents of a HELLO, read when SL begins the frame (R144). -/
def State.hello (s : State) : Hello :=
  { reason := s.sl.reason, stream := s.mu.stream, granted := s.ds.granted, committed := s.ds.committed,
    transmitted := s.ds.transmitted, highest := s.ds.highest, nextSeq := s.ds.nextSeq, redrain := s.ds.redrain.length }

/-! ## Frame starts (R147, R148) -/

/-- The transmitter takes a frame. -/
def setTx (f : Option TxFrame) (s : State) : State := { s with sl := { s.sl with tx := f } }

/-- HELLO due becomes no as the HELLO begins (R139). -/
def startHello (s : State) : State :=
  { s with sl := { s.sl with helloDue := false, tx := some (.hello s.hello true) } }

/-- The head of the reply queue is in transmission. -/
def startReply (r : Reply) (s : State) : State := setTx (some (.reply r)) { s with mu := { s.mu with replyInTx := true } }

/-- The head of the Mark Queue is in transmission. -/
def startMark (m : Mark) (s : State) : State := setTx (some (.mark m true)) { s with marks := { s.marks with headInTx := true } }

/-- The half becomes TRANSMITTING. -/
def startData (h : Fin 2) (s : State) : State := setTx (some (.data h)) { s with ds := s.ds.beginFrame s.rm h }

/-- The reply ready at a frame start (R147). -/
def replyReady (s : State) : Option Reply := if s.mu.replyInTx then none else s.mu.replies.head?

/-- The mark ready at a frame start (R132, R147). -/
def markReady (s : State) : Option Mark :=
  if decide (s.sl.state = .ready) && !s.marks.headInTx then s.marks.queue.head? else none

/-- Orders 4 and 5 of R147. -/
def startDataOrFill (s : State) : State :=
  match dataReady s with
  | some h => startData h s
  | none => setTx (some .fill) s

/-- Order 3 of R147, then the lower ones. -/
def startMarkOrLower (s : State) : State :=
  match markReady s with
  | some m => startMark m s
  | none => startDataOrFill s

/-- R147: the first kind that is ready. -/
def startFrameOf (s : State) : State :=
  if s.sl.helloDue then startHello s
  else
    match replyReady s with
    | some r => startReply r s
    | none => startMarkOrLower s

/-- FORWARD_FRAME_START (R147, R148): one frame begins as soon as the last one ends. -/
def execForwardFrameStart (s : State) : Answer :=
  released s (onlyWhen (s.sl.up && s.sl.tx.isNone) startFrameOf)

/-! ## Frame ends (R119, R132, R139, R148, R151, R155) -/

/-- HELLO_FRAME_END: HELLO sent becomes yes, but for a HELLO begun before a stream reset (R148, R151). -/
def execHelloFrameEnd (s : State) : Answer :=
  match s.sl.tx with
  | some (.hello _ counts) =>
    released s (fun t => { t with sl := { t.sl with tx := none, helloSent := t.sl.helloSent || counts } })
  | _ => .next s

/-- The head leaves the reply queue and MU tests for a start (R148, R155). -/
def replySent (s : State) : State :=
  startRequests { s with mu := { s.mu with replies := s.mu.replies.tail, replyInTx := false } }

/-- REPLY_FRAME_END. -/
def execReplyFrameEnd (s : State) : Answer :=
  match s.sl.tx with
  | some (.reply _) => released s (fun t => replySent (setTx none t))
  | _ => .next s

/-- The head leaves the Mark Queue, and the departure is passed to the CLOSING channels that hold a gap (R132).
DESIGN CHOICE (log entry 35): the departure and every re-offer are one step, so no SWEEP request and no arrival offer falls between
them, where R134 takes them in whatever order they reach MK. -/
def markSent (s : State) : State :=
  eachChannel (onChannel offerAgain) { s with marks := { s.marks with queue := s.marks.queue.tail, headInTx := false } }

/-- MARK_FRAME_END: MK disregards the end of a MARK begun before a stream reset (R136, R151). -/
def execMarkFrameEnd (s : State) : Answer :=
  match s.sl.tx with
  | some (.mark _ live) => released s (fun t => (if live then markSent else id) (setTx none t))
  | _ => .next s

/-- DS acts on the end of a DATA frame (R119). -/
def dataSent (h : Fin 2) (s : State) : State :=
  let x := dataEnd s.ts.settings h (s.ds, s.rm)
  { s with ds := x.1, rm := x.2 }

/-- DATA_FRAME_END. -/
def execDataFrameEnd (s : State) : Answer :=
  match s.sl.tx with
  | some (.data h) => released s (fun t => settle (dataSent h (setTx none t)))
  | _ => .next s

/-- FILL_FRAME_END. -/
def execFillFrameEnd (s : State) : Answer :=
  match s.sl.tx with
  | some .fill => released s (setTx none)
  | _ => .next s

/-! ## Return frames (R140, R142, R146, R149, R150) -/

/-- A return frame can end its reception: the link is up, or the frame was complete before the DOWN (R137, log entry 9). -/
def receiving (s : State) : Bool := s.sl.up || (decide (s.sl.state = .training) && s.sl.late)

/-- A valid return frame starts the receive-silence timer again while the link is up (R142). -/
def Link.heard (l : Link) : Link := if l.up then { l with silenceTimer := some Config.silenceMs } else { l with late := false }

/-- DS takes the two values of a FLOW frame (R120, R121, R149). -/
def flowTaken (granted committed : Word32) (s : State) : State :=
  let x := takeFlow s.ts.settings granted committed (s.ds, s.rm)
  { s with ds := x.1, rm := x.2 }

/-- R140: a FLOW taken in SYNC_WAIT with HELLO sent yes brings the link to READY. -/
def Link.takeReady (l : Link) : Link :=
  if l.state = .syncWait ∧ l.helloSent then
    { l with state := .ready, helloTimer := none, helloDue := false, reason := .linkUp }
  else l

/-- FLOW_FRAME: the FLOW is handed to DS before READY is reported (R140). -/
def execFlowFrame (granted committed : Word32) (s : State) : Answer :=
  released s (onlyWhen (receiving s) (fun t =>
    let u := flowTaken granted committed t
    settle { u with sl := u.sl.heard.takeReady }))

/-- REQUEST_FRAME (R150, R154). -/
def execRequestFrame (tag kind : Byte) (contents : List Byte) (s : State) : Answer :=
  released s (onlyWhen (receiving s) (fun t =>
    arriveRequest ⟨tag, kind, contents⟩ { t with sl := t.sl.heard }))

/-- RETURN_FILL_FRAME (R150). -/
def execReturnFillFrame (s : State) : Answer :=
  released s (onlyWhen (receiving s) (fun t => { t with sl := t.sl.heard }))

/-- SL counts a rejected frame; the receive-silence timer is not started again (R146). -/
def Link.reject (l : Link) : Link := { l with rejected := countUp l.rejected, late := l.late && l.up }

/-- RETURN_FRAME_REJECTED (R146): bytes that form a valid frame are not rejected. -/
def execReturnFrameRejected (bytes : List Byte) (s : State) : Answer :=
  released s (onlyWhen (receiving s && (decodeReturnFrame bytes).isNone) (fun t => { t with sl := t.sl.reject }))

end Sys2Proof.Machine
end

