-- ==== Sys2Proof/Machine/StartUp.lean ====
section
/-! DEFINITION. Start-up: the settle interval, the configuration flash image, the end of start-up, the RESET pin (11). -/

namespace Sys2Proof.Machine

/-! ## End of start-up (R179) -/

/-- An autostart channel is armed as by a START: run 1, ARMED. -/
def autostart (ts : TableStore) (chans : Vector Channel 16) : Vector Channel 16 :=
  allChannels.foldl (fun cs c =>
    if ((ts.channels[c]).current).autostart then put cs c { cs[c] with state := .armed, run := 1#8 } else cs) chans

/-- R179: start-up ends in one action; `valid` says that a valid flash image was read. Requests that waited are then started. -/
def endStartUp (valid : Bool) (s : State) : State :=
  let t := { s with su := { s.su with phase := .done, settleTimer := none } }
  startRequests (
    if t.su.mode = .flashRun ∧ valid then
      { t with chans := autostart t.ts t.chans, mu := { t.mu with stream := .run } }
    else { t with mu := { t.mu with stream := .standby } })

/-- The straps have the flash read (R176). -/
def readsFlash (m : StartMode) : Bool := decide (m = .flash ∨ m = .flashRun)

/-- The settle timer expires: the flash read begins, or start-up ends (R176). -/
def settleEnds (s : State) : State :=
  if readsFlash s.su.mode then { s with su := { s.su with phase := .flashLoad, settleTimer := none } }
  else endStartUp false s

/-- SETTLE_TIMER_EXPIRY (R176). -/
def execSettleTimerExpiry (s : State) : Answer :=
  released s (onlyWhen (decide (s.su.phase = .settle) && s.su.settleTimer.isSome) settleEnds)

/-! ## The flash image (R177, R178, R185) -/

/-- An entry of the image: table code, entry number and payload. -/
structure FlashEntry where
  table : Nat
  number : Byte
  payload : List Byte
  deriving DecidableEq, Repr

/-- `n` entries, and the bytes behind them; `none` for a table code that names nothing or an image that ends early. -/
def flashEntries : Nat → List Byte → Option (List FlashEntry × List Byte)
  | 0, bs => some ([], bs)
  | n + 1, bs =>
    match entrySize (byteAt bs 0).toNat with
    | none => none
    | some k =>
      if bs.length < 4 + k then none
      else
        (flashEntries n (bs.drop (4 + k))).map
          (fun x => (⟨(byteAt bs 0).toNat, byteAt bs 1, (bs.take (4 + k)).drop 4⟩ :: x.1, x.2))

/-- R177: the image is judged whole; `none` is a failed image. -/
def judgeImage (bs : List Byte) : Option (List FlashEntry) :=
  let n := leAt bs 0 4
  if bs.length < 4 ∨ Config.flashEntriesMax < n then none
  else
    match flashEntries n (bs.drop 4) with
    | none => none
    | some (es, rest) =>
      let covered := bs.take (bs.length - rest.length)
      if 4 ≤ rest.length ∧ leAt rest 0 4 = (crc32 covered).toNat then some es else none

/-- An entry that is refused is skipped and sets CONFIG_FAULT (R178). -/
def applyEntry (s : State) (e : FlashEntry) : State :=
  let x := writeTable e.table e.number e.payload s
  if x.2 = .ok then x.1 else { x.1 with su := { x.1.su with configFault := true } }

/-- A failed image is not applied at all: CONFIG_FAULT is set (R177). -/
def imageFails (s : State) : State := endStartUp false { s with su := { s.su with configFault := true } }

/-- R177, R178: the image is judged, then applied entry by entry.
DESIGN CHOICE (log entry 37): the entries and the end of start-up are one step, so no acquisition frame falls between them. -/
def loadImage (image : Option (List Byte)) (s : State) : State :=
  match image.bind judgeImage with
  | some es => endStartUp true (es.foldl applyEntry s)
  | none => imageFails s

/-- FLASH_READ_COMPLETE (R177, R178, R179). -/
def execFlashReadComplete (image : Option (List Byte)) (s : State) : Answer :=
  released s (onlyWhen (decide (s.su.phase = .flashLoad)) (loadImage image))

/-! ## Device reset (R175, R176) -/

/-- DEVICE_RESET (R176): the release of power-on or of the RESET pin. -/
def execDeviceReset (straps : BitVec 2) (s : State) : Answer := .next (deviceReset straps s)

/-- RESET_PIN_LOW (R107, R137, R152, R175): accesses are cut short, a partial acquisition frame is discarded, frames of the link end
at once, all unreported, and the part is held until the release (log entry 16). -/
def resetPinLow (s : State) : State :=
  { s with ap := { s.ap with openFrame := none }
           planes := mapV (fun p => { p with port := none, drain := [], review := none }) s.planes
           sl := { s.sl with state := .down, tx := none, late := false }
           su := { s.su with resetLow := true } }

/-- RESET_PIN_LOW. -/
def execResetPinLow (s : State) : Answer := .next (resetPinLow s)

end Sys2Proof.Machine
end

