-- ==== Sys2Proof/Machine/Dispatch.lean ====
section
/-! DEFINITION. The meaning of every command: one direct call for each constructor of Instr. -/

namespace Sys2Proof.Machine

def exec (i : Instr) (s : State) : Host.Outcome State Fault Refusal :=
  match i with
  | .acquisitionFrame words => Sys2Proof.Machine.execAcquisitionFrame words s
  | .sealAgeTimerExpiry c => Sys2Proof.Machine.execSealAgeTimerExpiry c s
  | .headerWriteComplete p => Sys2Proof.Machine.execHeaderWriteComplete p s
  | .payloadWriteComplete p => Sys2Proof.Machine.execPayloadWriteComplete p s
  | .halfLoadComplete p => Sys2Proof.Machine.execHalfLoadComplete p s
  | .reviewReadComplete p => Sys2Proof.Machine.execReviewReadComplete p s
  | .refreshComplete p => Sys2Proof.Machine.execRefreshComplete p s
  | .refreshTick p => Sys2Proof.Machine.execRefreshTick p s
  | .planeInitEnd p ready => Sys2Proof.Machine.execPlaneInitEnd p ready s
  | .planeInitTimeout p => Sys2Proof.Machine.execPlaneInitTimeout p s
  | .settleTimerExpiry => Sys2Proof.Machine.execSettleTimerExpiry s
  | .flashReadComplete image => Sys2Proof.Machine.execFlashReadComplete image s
  | .deviceReset straps => Sys2Proof.Machine.execDeviceReset straps s
  | .laneAlignmentLoss lane => Sys2Proof.Machine.execLaneAlignmentLoss lane s
  | .receiveSilenceTimeout => Sys2Proof.Machine.execReceiveSilenceTimeout s
  | .trainingAttemptComplete aligned => Sys2Proof.Machine.execTrainingAttemptComplete aligned s
  | .trainingAttemptFailed => Sys2Proof.Machine.execTrainingAttemptFailed s
  | .trainingAttemptTimeout => Sys2Proof.Machine.execTrainingAttemptTimeout s
  | .helloTimerExpiry => Sys2Proof.Machine.execHelloTimerExpiry s
  | .forwardFrameStart => Sys2Proof.Machine.execForwardFrameStart s
  | .helloFrameEnd => Sys2Proof.Machine.execHelloFrameEnd s
  | .replyFrameEnd => Sys2Proof.Machine.execReplyFrameEnd s
  | .markFrameEnd => Sys2Proof.Machine.execMarkFrameEnd s
  | .dataFrameEnd => Sys2Proof.Machine.execDataFrameEnd s
  | .fillFrameEnd => Sys2Proof.Machine.execFillFrameEnd s
  | .flowFrame granted committed => Sys2Proof.Machine.execFlowFrame granted committed s
  | .requestFrame tag kind contents => Sys2Proof.Machine.execRequestFrame tag kind contents s
  | .returnFillFrame => Sys2Proof.Machine.execReturnFillFrame s
  | .returnFrameRejected bytes => Sys2Proof.Machine.execReturnFrameRejected bytes s
  | .tableWriteSlotMap => Sys2Proof.Machine.execTableWriteSlotMap s
  | .tableWriteProfile => Sys2Proof.Machine.execTableWriteProfile s
  | .tableWriteChannel => Sys2Proof.Machine.execTableWriteChannel s
  | .tableWriteSettings => Sys2Proof.Machine.execTableWriteSettings s
  | .tableRead => Sys2Proof.Machine.execTableRead s
  | .streamRun => Sys2Proof.Machine.execStreamRun s
  | .streamPause => Sys2Proof.Machine.execStreamPause s
  | .streamHalt => Sys2Proof.Machine.execStreamHalt s
  | .streamResume => Sys2Proof.Machine.execStreamResume s
  | .streamStandby => Sys2Proof.Machine.execStreamStandby s
  | .channelStart => Sys2Proof.Machine.execChannelStart s
  | .channelStop => Sys2Proof.Machine.execChannelStop s
  | .channelFlush => Sys2Proof.Machine.execChannelFlush s
  | .blockQuery => Sys2Proof.Machine.execBlockQuery s
  | .statusQuery => Sys2Proof.Machine.execStatusQuery s
  | .forceBoundary => Sys2Proof.Machine.execForceBoundary s
  | .resetStream => Sys2Proof.Machine.execResetStream s
  | .resetDevice straps => Sys2Proof.Machine.execResetDevice straps s
  | .unknownRequestKind => Sys2Proof.Machine.execUnknownRequestKind s
  | .locate channel run index => Sys2Proof.Machine.execLocate channel run index s
  | .locateScanStep => Sys2Proof.Machine.execLocateScanStep s
  | .pin block => Sys2Proof.Machine.execPin block s
  | .unpin block => Sys2Proof.Machine.execUnpin block s
  | .read block offset length => Sys2Proof.Machine.execRead block offset length s
  | .describe block => Sys2Proof.Machine.execDescribe block s
  | .unknownReviewKind kind => Sys2Proof.Machine.execUnknownReviewKind kind s
  | .resetPinLow => Sys2Proof.Machine.execResetPinLow s

end Sys2Proof.Machine
end

