-- ==== Sys2Proof/Safety.lean ====
section
/-! DEFINITION. The terms statements use: what counts as a safe run, what a command leaves alone, how a request is served, and the
properties of states that every step keeps. -/

namespace Sys2Proof.Safety

open Sys2Proof.Machine

/-! ## Going on -/

/-- A meaning or a step went on. -/
def GoesOn (o : Host.Outcome State Fault Refusal) : Prop := ∃ t, o = .next t

/-- The next `n` steps from `s` all go on. -/
def SafeFor (n : Nat) (s : State) : Prop := GoesOn (Sys2Proof.core.run n s)

/-- The bytes an access reaches: its first address and their number; a refresh reaches none. -/
def accessRange : Access → Nat × Nat
  | .refresh => (0, 0)
  | .headerWrite _ b off bs _ | .payloadWrite _ b off bs _ => (blockAddress b off, bs.length)
  | .halfLoad _ b off len | .reviewRead b off len _ => (blockAddress b off, len)

/-- Every access in progress lies inside capture memory. -/
def PortsInMemory (s : State) : Prop :=
  ∀ (p : PlaneId) (a : Access), (s.planes[p]).port = some a → (accessRange a).1 + (accessRange a).2 ≤ Config.memorySize

/-! ## Frames -/

/-- The parts of the state. -/
inductive Part where
  | ap | ts | chans | rm | planes | ds | marks | mu | sl | rp | su | mem | pending | orders | fresh
  | resetArrivals
  deriving DecidableEq, Repr

/-- A part is the same in two states. -/
def SamePart (s t : State) : Part → Prop
  | .ap => t.ap = s.ap
  | .ts => t.ts = s.ts
  | .chans => t.chans = s.chans
  | .rm => t.rm = s.rm
  | .planes => t.planes = s.planes
  | .ds => t.ds = s.ds
  | .marks => t.marks = s.marks
  | .mu => t.mu = s.mu
  | .sl => t.sl = s.sl
  | .rp => t.rp = s.rp
  | .su => t.su = s.su
  | .mem => t.mem = s.mem
  | .pending => t.pending = s.pending
  | .orders => t.orders = s.orders
  | .fresh => t.fresh = s.fresh
  | .resetArrivals => t.resetArrivals = s.resetArrivals

/-- Every part not named is unchanged. -/
def ChangesOnly (ps : List Part) (s t : State) : Prop := ∀ p, p ∉ ps → SamePart s t p

/-- Every channel but `c` is unchanged. -/
def OtherChannelsKept (c : ChannelId) (s t : State) : Prop := ∀ d : ChannelId, d ≠ c → t.chans[d] = s.chans[d]

/-- A descriptor that is unchanged, or whose block DS has just selected (R83). -/
def KeptOrSelected (d d' : Descriptor) : Prop := d' = d ∨ d' = { d with state := .sending, seq := d'.seq }

/-- Every block but `b` is unchanged, or just selected. -/
def OtherBlocksKept (b : BlockId) (s t : State) : Prop :=
  ∀ b', b' ≠ b → KeptOrSelected (s.rm.block b') (t.rm.block b')

/-! ## Ports -/

/-- A header write of the channel is in progress at some port (R97). -/
def HeaderGoing (s : State) (c : ChannelId) : Prop :=
  ∃ (p : PlaneId) (b : BlockId) (off : Nat) (bs : List Byte) (live : Bool), (s.planes[p]).port = some (.headerWrite c b off bs live)

/-- A payload write of the channel is in progress at some port (R97). -/
def PayloadGoing (s : State) (c : ChannelId) : Prop :=
  ∃ (p : PlaneId) (b : BlockId) (off : Nat) (bs : List Byte) (live : Bool), (s.planes[p]).port = some (.payloadWrite c b off bs live)

/-- DS has done its selections and load claims, with the port of plane `p` free. -/
def freed (p : PlaneId) (s : State) : State := drainWork { s with planes := put s.planes p { s.planes[p] with port := none } }

/-! ## Requests -/

/-- MU is executing this request, the stream is not INIT and the RESET pin is released. -/
def Serving (r : Request) (s : State) : Prop :=
  s.su.resetLow = false ∧ s.mu.stream ≠ .init ∧ s.mu.inProgress = some r

/-- The request's reply stands in the reply queue behind those placed before, with REQUEST_OVERFLOW, which is cleared (R156). -/
def Answered (r : Request) (st : ReplyStatus) (bs : List Byte) (s t : State) : Prop :=
  (∃ more, t.mu.replies = s.mu.replies ++ ⟨r.tag, r.kind, st, bs, s.mu.overflow⟩ :: more) ∧
  t.mu.overflow = false ∧ t.mu.replyInTx = s.mu.replyInTx

/-- The words of an acquisition frame with the marks of its first and its last word (R182). -/
def frameBurst (tag flags : Word16) (samples : List Word16) (check : Word16) : List PortWord :=
  ⟨tag, true, false⟩ :: ⟨flags, false, false⟩ :: (samples.map (fun w => ⟨w, false, false⟩) ++ [⟨check, false, true⟩])

/-- The frame check (R2). -/
def frameCheck (tag flags : Word16) (samples : List Word16) : Word16 := samples.foldl (fun a w => a + w) (tag + flags)

/-- A burst of words that AP takes as one bad frame, and what is open after it (R1, R2): with no frame open, a whole frame whose check
fails or whose sample count is neither slot_count nor, in a boundary candidate, the pending one; a frame of one or two words; a frame
of 36 words or more; or, with a frame open, the start of the next one, which cuts it. -/
def BadBurst (s : State) (words : List PortWord) (left : Option OpenFrame) : Prop :=
  (s.ap.openFrame = none ∧ left = none ∧
    ((∃ (tag flags check : Word16) (xs : List Word16), xs.length ≤ 32 ∧ words = frameBurst tag flags xs check ∧
        (check ≠ frameCheck tag flags xs ∨ (xs.length ≠ s.ts.settings.slotCount ∧
          ¬ (s.ts.pendingSlotCount = some xs.length ∧ (flags.getLsbD 0 || s.ap.forcedBoundary) = true)))) ∨
      (∃ w : Word16, words = [⟨w, true, true⟩]) ∨
      (∃ v w : Word16, words = [⟨v, true, false⟩, ⟨w, false, true⟩]) ∨
      ∃ (v : Word16) (vs : List Word16) (w : Word16), 34 ≤ vs.length ∧
        words = ⟨v, true, false⟩ :: (vs.map (fun x => ⟨x, false, false⟩) ++ [⟨w, false, true⟩]))) ∨
  (s.ap.openFrame ≠ none ∧ ∃ w : Word16, words = [⟨w, true, false⟩] ∧ left = some ⟨[w], false⟩)

/-- What a record that closes brings: its WAITING header and its block's counts (R61, R65, R76, R77, R78); without an open record nothing
closes (R62, R63). `b` is the channel's filling block. -/
def RecordClosed (kind : EndKind) (c : ChannelId) (b : BlockId) (s t : State) : Prop :=
  let ch := s.chans[c]
  let d := s.rm.block b
  let d' := t.rm.block b
  (ch.record = none → (t.chans[c]).waiting = ch.waiting ∧ d'.bytesUsed = d.bytesUsed ∧ d'.records = d.records ∧
    d'.lastIndex = d.lastIndex ∧ d'.unwritten = d.unwritten) ∧
  ∀ (r : OpenRecord) (cp : CurrentProfile), ch.record = some r → ch.current = some cp →
    (t.chans[c]).waiting = ch.waiting ++ [⟨r.block, r.offset,
      { firstIndex := r.firstIndex, span := (r.lastIndex - r.firstIndex).toNat + 1, firstFrame := r.firstFrame, sweep := r.sweep
        factor := cp.content.factor, offset := cp.content.offset, valueCount := r.valueCount, clipCount := r.clipCount
        mode := cp.content.mode, width := cp.content.width, endKind := kind
        short := decide (r.valueCount < cp.content.recordLen) }⟩] ∧
    (r.block = b →
      d'.bytesUsed = r.offset + recordSize cp.content.width r.valueCount ∧ d'.records = d.records + 1 ∧
      d'.lastIndex = some r.lastIndex ∧
      d'.unwritten = d.unwritten + (if ch.pack.isSome then 2 else 0)
        + (pad4 (payloadBytes cp.content.width r.valueCount) - payloadBytes cp.content.width r.valueCount) + 32 ∧
      (d.records = 0 → d'.firstIndex = some r.firstIndex ∧ d'.firstFrame = some r.firstFrame ∧ d'.sweep = some r.sweep) ∧
      (d.records ≠ 0 → d'.firstIndex = d.firstIndex ∧ d'.firstFrame = d.firstFrame ∧ d'.sweep = d.sweep))

/-- The group of a list of samples, the first of them `x` (R46). -/
def groupOf (x : Int) (xs : List Int) (index frame : Word64) : Group := xs.foldl Group.join (Group.start x index frame)

/-- A sample's range (01). -/
def SampleRange (x : Int) : Prop := -32768 ≤ x ∧ x ≤ 32767

/-- The bytes of memory outside a range are unchanged. -/
def BytesKeptOutside (a len : Nat) (s t : State) : Prop := ∀ x, (x < a ∨ a + len ≤ x) → readByte t.mem x = readByte s.mem x

/-- The review responses given, one more than before (R169). -/
def Responded (r : ReviewResponse) (s t : State) : Prop := t.rp.responses = s.rp.responses ++ [r]

/-- The BUSY answer to a review request: its kind and the block it names; the two bytes at offset 4 are stated for LOCATE and DESCRIBE
alone (R169, R187, log entry 8). -/
def BusyFor : ReviewCall → ReviewResponse → Prop
  | .locate _ _ _, x => x = ⟨1#8, .busy, 0xFFFF#16, 0#16, []⟩
  | .pin b, x => ∃ v, x = ⟨2#8, .busy, b, v, []⟩
  | .unpin b, x => ∃ v, x = ⟨3#8, .busy, b, v, []⟩
  | .read b _ _, x => ∃ v, x = ⟨4#8, .busy, b, v, []⟩
  | .describe b, x => x = ⟨5#8, .busy, b, 0#16, []⟩
  | .unknown kind, x => x = ⟨kind, .busy, 0xFFFF#16, 0#16, []⟩

/-- RP is IDLE, its reset hold is clear and the RESET pin is released (R169). -/
def ReviewIdle (s : State) : Prop := s.su.resetLow = false ∧ s.rp.slot = none ∧ s.rp.hold = false

/-- A profile TS can hold (R43). -/
def ProfileInRange (p : Profile) : Prop :=
  1 ≤ p.factor ∧ p.factor ≤ 65536 ∧ (p.mode = .pass → p.factor = 1) ∧ SampleRange p.offset ∧ 16 ≤ p.recordLen ∧
  p.recordLen ≤ 65536 ∧ (p.mode = .peak → p.recordLen % 2 = 0)

/-- Settings TS can hold (R159). -/
def SettingsInRange (x : Settings) : Prop :=
  2 ≤ x.slotCount ∧ x.slotCount ≤ 32 ∧ x.criticalMark + x.hysteresis < x.tightMark ∧ x.tightMark ≤ 8192 ∧
  ∀ k : ClassId, x.weights[k] ≤ 15

/-! ## What every step keeps -/

/-- Capture memory is in canonical form. -/
def MemoryCanonical (s : State) : Prop := Memory.wf s.mem = true

/-- The queues and counts stay within the ranges the spec gives them (R87, R103, R128, R131, R146, R154, R155). -/
def WithinBounds (s : State) : Prop :=
  s.mu.queue.length ≤ 4 ∧ s.mu.replies.length ≤ 4 ∧ (s.mu.inProgress.isSome → s.mu.replies.length ≤ 3) ∧
  s.marks.queue.length ≤ 64 ∧ s.marks.skip ≤ 65535 ∧ s.sl.rejected ≤ 65535 ∧
  (∀ p : PlaneId, (s.planes[p]).owed ≤ 8) ∧
  (∀ e ∈ s.rm.blocks, e.2.pins ≤ 3)

/-- The staging buffer holds at most 4096 bytes, 3 of them kept for the padding of an open record, and the two header slots hold
at most two headers (R55, R56, R57). -/
def StagingFits (ch : Channel) : Prop :=
  ch.occupancy ≤ 4096 ∧ (ch.record.isSome → ch.occupancy ≤ 4093) ∧
  ch.waiting.length + (if ch.record.isSome then 1 else 0) ≤ 2

/-- How far a sequence lies after committed_through (R108). -/
def Ahead (d : Drain) (x : Word32) : Nat := (x - d.committed).toNat

/-- The counters are in serial order and at most 256 apart; the blocks sent and not committed, or to be sent again, lie between
committed_through and highest_sent; a covered block of the SENDING slot does not (R108, R110, R111). -/
def DrainOrdered (d : Drain) : Prop :=
  d.nextSeq = d.highest + 1#32 ∧
  Ahead d d.transmitted ≤ Ahead d d.highest ∧ Ahead d d.highest ≤ 256 ∧ Ahead d d.highest ≤ Ahead d d.granted ∧
  Ahead d d.granted < 2 ^ 31 ∧
  (∀ m ∈ d.sent ++ d.redrain, 1 ≤ Ahead d m.seq ∧ Ahead d m.seq ≤ Ahead d d.highest) ∧
  d.slot.length ≤ 2 ∧
  (∀ e ∈ d.slot, e.covered = false → 1 ≤ Ahead d e.seq ∧ Ahead d e.seq ≤ Ahead d d.highest) ∧
  (∀ e ∈ d.slot, e.covered = true → (d.committed - e.seq).toNat ≤ (d.highest - e.seq).toNat ∧ (d.highest - e.seq).toNat ≤ 256) ∧
  (∀ e, d.slot.getLast? = some e → (d.highest - e.seq).toNat ≤ 255)

/-- The SENT and REDRAIN lists are kept in strictly increasing sequence, in serial order from committed_through, and no two blocks of
the lists and of the uncovered part of the slot have one sequence (R111). -/
def DrainSequenced (d : Drain) : Prop :=
  (d.sent.map (fun m => Ahead d m.seq)).Pairwise (fun a b => a < b) ∧
  (d.redrain.map (fun m => Ahead d m.seq)).Pairwise (fun a b => a < b) ∧
  (d.sent.map (fun m => m.seq) ++ d.redrain.map (fun m => m.seq)
    ++ (d.slot.filter (fun e => !e.covered)).map (fun e => e.seq)).Nodup

/-- A channel's parts agree with its state, and its indices are accounted for: the group in progress and the gap of a loss episode
each end at next index − 1 (R19, R25, R28, R46). -/
def ChannelSound (ch : Channel) : Prop :=
  (ch.record.isSome → ch.current.isSome) ∧ (ch.group.isSome → ch.current.isSome) ∧
  (ch.pack.isSome → ∃ r, ch.record = some r ∧ 0 < r.valueCount) ∧
  (∀ g, ch.group = some g → g.firstIndex + BitVec.ofNat 64 g.n = ch.nextIndex) ∧
  match ch.state with
  | .idle | .armed => ch.current = none ∧ ch.filling = none ∧ ch.gap = none ∧ ch.runs = [] ∧ ch.waiting = []
  | .active => ch.gap = none
  | .loss => ch.current = none ∧ ∃ g, ch.gap = some g ∧ g.firstIndex + g.count = ch.nextIndex
  | .closing => ch.current = none ∧ ch.filling = none

/-- Every channel is sound; start-up is over exactly when the stream has left INIT, and until then every channel is IDLE
(R17, R161, R179). -/
def ChannelsSound (s : State) : Prop :=
  (∀ c : ChannelId, ChannelSound s.chans[c]) ∧ (s.su.phase = .done ↔ s.mu.stream ≠ .init) ∧
  (s.mu.stream = .init → ∀ c : ChannelId, (s.chans[c]).state = .idle)

/-- A member of a block collection, with the state that names the collection (R68). -/
def Collected (s : State) (st : BlockState) (b : BlockId) : Prop :=
  match st with
  | .filling => ∃ c : ChannelId, (s.chans[c]).filling = some b
  | .queued => ∃ k : ClassId, b ∈ s.rm.queues[k]
  | .sending => b ∈ s.ds.slot.map (fun e => e.block)
  | .sent => b ∈ s.ds.sent.map (fun m => m.block)
  | .redrain => b ∈ s.ds.redrain.map (fun m => m.block)
  | .free => ∃ l, s.rm.free[planeOf b] = some l ∧ b ∈ l
  | .offline | .sealing | .retired => False

/-- The block states that name a collection (R68). -/
def collecting : List BlockState := [.free, .filling, .queued, .sending, .sent, .redrain]

/-- Every block is a member of exactly the collection its state names (R68, R71): the Block Table's keys rise and lie below 8192; a
block is in a collection exactly when its state names it; no collection holds a block twice; a plane has a free list exactly when
it is READY and in plane_mask, and no block of a plane without one is in any other state than OFFLINE. -/
def BlocksCollected (s : State) : Prop :=
  tableRising s.rm.blocks = true ∧
  (∀ e ∈ s.rm.blocks, e.1 < 8192 ∧ e.2.state ≠ .free ∧ e.2.state ≠ .offline ∧ (s.rm.free[planeOf e.1]).isSome) ∧
  (∀ p : PlaneId, (s.rm.free[p]).isSome ↔ (s.planes[p]).state = .ready ∧ inPlaneSet s.ts.settings.planeMask p) ∧
  (∀ (p : PlaneId) (l : List BlockId), s.rm.free[p] = some l → l.Nodup ∧ ∀ b ∈ l, b < 8192 ∧ planeOf b = p) ∧
  (∀ b, b < 8192 → ∀ st ∈ collecting, Collected s st b ↔ (s.rm.block b).state = st) ∧
  (∀ b, 8192 ≤ b → ∀ st ∈ collecting, ¬ Collected s st b) ∧
  (∀ (c d : ChannelId) (b : BlockId), (s.chans[c]).filling = some b → (s.chans[d]).filling = some b → c = d) ∧
  (∀ k : ClassId, (s.rm.queues[k]).Nodup ∧ ∀ b ∈ s.rm.queues[k], (s.rm.block b).cls = some k) ∧
  (s.ds.slot.map (fun e => e.block)).Nodup ∧ (s.ds.sent.map (fun m => m.block)).Nodup ∧
  (s.ds.redrain.map (fun m => m.block)).Nodup

end Sys2Proof.Safety
end

