-- ==== Sys2Proof/Certificates/Slice0/Obligations.lean ====
section
/-! DEFINITION. What the model claims of the part, one statement a definition: the machine's step, what every step keeps, whole-part
rules, layouts, the arithmetic, then the commands, family by family in the opcode table's order. -/

open Sys2Proof Sys2Proof.Machine Sys2Proof.Safety

/-! ## The step -/

/-- A step runs the command at the front of the queue on the part with the queue's rest, and idles on an empty queue
(the model's choice: log entry 1). -/
def Obligations.StepRunsTheFrontCommand : Prop :=
  (∀ (c : Instr) (rest : List Instr) (s : State), step { s with pending := c :: rest } = exec c { s with pending := rest }) ∧
  ∀ s : State, s.pending = [] → step s = .next s

/-- No command's meaning changes the waiting commands, and none makes the part stop but an access in progress that reaches a byte
capture memory does not have (R67; log entries 1 and 19). -/
def Obligations.CommandsGoOnAndLeaveTheQueue : Prop :=
  ∀ (c : Instr) (s : State),
    (∀ t, exec c s = .next t → t.pending = s.pending) ∧ (PortsInMemory s → ∃ t, exec c s = .next t) ∧
    ∀ r, exec c s ≠ .refused r

/-! ## What every step keeps -/

/-- The properties below hold right after a device reset, with nothing placed. -/
def Obligations.KeptPropertiesHoldAtReset : Prop :=
  MemoryCanonical State.reset ∧ WithinBounds State.reset ∧ DrainOrdered State.reset.ds ∧ DrainSequenced State.reset.ds ∧
  ChannelsSound State.reset ∧ (∀ c : ChannelId, StagingFits State.reset.chans[c]) ∧ BlocksCollected State.reset ∧
  PortsInMemory State.reset

/-- Capture memory keeps its canonical form. -/
def Obligations.CaptureMemoryStaysCanonical : Prop :=
  ∀ s t : State, MemoryCanonical s → step s = .next t → MemoryCanonical t

/-- The queues, the refresh counts, the pin counts and the counts that stay at their top keep their ranges
(R87, R103, R128, R131, R146, R154, R155). -/
def Obligations.QueuesAndCountsStayInRange : Prop :=
  ∀ s t : State, WithinBounds s → step s = .next t → WithinBounds t

/-- The drain counters keep their serial order and the distance of at most 256, and the SENT and REDRAIN lists stay in strictly
increasing sequence between committed_through and highest_sent (R108, R110, R111, R114). -/
def Obligations.DrainStaysInOrder : Prop :=
  ∀ s t : State, DrainOrdered s.ds → step s = .next t →
    DrainOrdered t.ds ∧ (DrainSequenced s.ds → DrainSequenced t.ds)

/-- Every channel's parts keep agreeing with its state, and the group in progress or the gap of a loss episode always ends at next
index − 1 (R17, R19, R25, R28, R46). -/
def Obligations.ChannelsStaySound : Prop :=
  ∀ s t : State, ChannelsSound s → step s = .next t → ChannelsSound t

/-- No staging buffer passes 4096 bytes, 3 of them kept for the padding of an open record, and no channel needs a third header slot
(R55, R56, R57). -/
def Obligations.StagingStaysWithinItsBuffer : Prop :=
  ∀ s t : State, ChannelsSound s → (∀ c : ChannelId, StagingFits s.chans[c]) → step s = .next t →
    ∀ c : ChannelId, StagingFits t.chans[c]

/-- Every block stays a member of exactly the collection its state names (R68, R71). -/
def Obligations.BlocksStayCollected : Prop :=
  ∀ s t : State, BlocksCollected s → step s = .next t → BlocksCollected t

/-! ## Whole-part rules -/

/-- Capture memory changes only by a completed intake write and by a plane's initialisation; a run number only by a START, by the end of
a FLASH_RUN start-up and by a device reset (R23, R42, R94, R99, R105, R179). That a device reset, and a plane whose initialisation times
out, leave the bytes of memory as they were is the model's choice (log entry 11: R105 writes patterns over the plane). -/
def Obligations.MemoryAndRunNumbersChangeOnlyByTheirCommands : Prop :=
  ∀ (c : Instr) (s t : State), exec c s = .next t →
    ((∀ p, c ≠ .headerWriteComplete p ∧ c ≠ .payloadWriteComplete p ∧ ∀ ready, c ≠ .planeInitEnd p ready) → t.mem = s.mem) ∧
    (c ≠ .channelStart → (∀ image, c ≠ .flashReadComplete image) → (∀ straps, c ≠ .deviceReset straps ∧ c ≠ .resetDevice straps) →
      ∀ k : ChannelId, (t.chans[k]).run = (s.chans[k]).run)

/-- R6. TAG_RESYNC, once set, is cleared by a STATUS_QUERY or a device reset alone; a query's record reports it as it stood and the
query clears it; a resynchronising frame sets it, whichever of the two comes first; a stream reset leaves it. -/
def Obligations.TagResyncStaysUntilRead : Prop :=
  (∀ (c : Instr) (s t : State), exec c s = .next t → s.ap.tagResync = true → t.ap.tagResync = false →
    c = .statusQuery ∨ ∃ straps, c = .deviceReset straps ∨ c = .resetDevice straps) ∧
  (∀ (c : Instr) (s t : State), exec c s = .next t → s.ap.tagResync = false → t.ap.tagResync = true →
    ∃ words, c = .acquisitionFrame words) ∧
  (∀ (s : State) (tag : Byte), Serving ⟨tag, 6#8, []⟩ s →
    ∃ t bs, exec .statusQuery s = .next t ∧ Answered ⟨tag, 6#8, []⟩ .ok bs s t ∧ (byteAt bs 60).getLsbD 0 = s.ap.tagResync ∧
      t.ap.tagResync = false) ∧
  (∀ (s : State) (tag flags e : Word16) (xs : List Word16), s.su.resetLow = false → s.ap.openFrame = none →
    s.ap.expected = some e → xs.length = s.ts.settings.slotCount → xs.length ≤ 32 → 4096 ≤ (tag - e).toNat →
    ∃ t, exec (.acquisitionFrame (frameBurst tag flags xs (frameCheck tag flags xs))) s = .next t ∧ t.ap.tagResync = true) ∧
  (∀ (s : State) (straps : BitVec 2), ∃ t, exec (.deviceReset straps) s = .next t ∧ t.ap.tagResync = false) ∧
  ∀ s t : State, exec .resetStream s = .next t → t.ap.tagResync = s.ap.tagResync

/-- R180. CONFIG_FAULT and the start-up logic's values: set by a failed image and by a skipped entry alone, reported and not cleared by STATUS_QUERY, kept by
a stream reset with the mode, the phase and the timer, and at their reset values after every device reset; in LINK and HOLD the
flash read does not begin. -/
def Obligations.ConfigFaultStaysUntilDeviceReset : Prop :=
  (∀ (c : Instr) (s t : State), exec c s = .next t → s.su.configFault = true → t.su.configFault = false →
    ∃ straps, c = .deviceReset straps ∨ c = .resetDevice straps) ∧
  (∀ (c : Instr) (s t : State), exec c s = .next t → s.su.configFault = false → t.su.configFault = true →
    s.su.phase = .flashLoad ∧ ∃ image, c = .flashReadComplete image) ∧
  (∀ s : State, s.su.resetLow = false → s.su.phase = .flashLoad →
    (∀ image : Option (List Byte), image.bind judgeImage = none →
      ∃ t, exec (.flashReadComplete image) s = .next t ∧ t.su.configFault = true) ∧
    ∀ (image : List Byte) (done rest : List FlashEntry) (e : FlashEntry), judgeImage image = some (done ++ e :: rest) →
      (writeTable e.table e.number e.payload (done.foldl applyEntry s)).2 ≠ .ok →
      ∃ t, exec (.flashReadComplete (some image)) s = .next t ∧ t.su.configFault = true) ∧
  (∀ (s : State) (tag : Byte), Serving ⟨tag, 6#8, []⟩ s →
    ∃ t bs, exec .statusQuery s = .next t ∧ Answered ⟨tag, 6#8, []⟩ .ok bs s t ∧
      (byteAt bs 60).getLsbD 1 = s.su.configFault ∧ t.su = s.su) ∧
  (∀ s t : State, exec .resetStream s = .next t → t.su = s.su) ∧
  (∀ (s : State) (straps : BitVec 2), ∃ t, exec (.deviceReset straps) s = .next t ∧ t.su.configFault = false ∧
    t.su.phase = .planeWait ∧ t.su.settleTimer = none ∧
    t.su.mode = (if straps = 0#2 then .link else if straps = 1#2 then .flash else if straps = 2#2 then .flashRun else .hold)) ∧
  (∀ (c : Instr) (s t : State), exec c s = .next t → s.su.settleTimer = none → t.su.settleTimer ≠ none →
    t.su.settleTimer = some 1 ∧ t.su.phase = .settle ∧ ∀ p : PlaneId, (t.planes[p]).state ≠ .initialising) ∧
  (∀ (c : Instr) (s t : State), exec c s = .next t → (s.su.mode = .link ∨ s.su.mode = .hold) → s.su.phase ≠ .flashLoad →
    t.su.phase ≠ .flashLoad)

/-- PLANE_FAULT stays set until a device reset, and REFRESH_LAPSE until a STATUS_QUERY or a device reset (R104, R106). -/
def Obligations.PlaneFlagsStayUntilTheirClearing : Prop :=
  ∀ (c : Instr) (s t : State) (p : PlaneId), exec c s = .next t → (∀ straps, c ≠ .deviceReset straps ∧ c ≠ .resetDevice straps) →
    ((s.planes[p]).fault = true → (t.planes[p]).fault = true ∧ ((s.planes[p]).state = .faulty → (t.planes[p]).state = .faulty)) ∧
    ((s.planes[p]).lapse = true → (t.planes[p]).lapse = false → c = .statusQuery)

/-- The link becomes READY only by a valid FLOW in SYNC_WAIT with HELLO sent yes, and comes out of TRAINING only into SYNC_WAIT
(R138, R140). -/
def Obligations.OnlyAFlowMakesTheLinkReady : Prop :=
  ∀ (c : Instr) (s t : State), exec c s = .next t →
    (s.sl.state ≠ .ready → t.sl.state = .ready → s.sl.state = .syncWait ∧ s.sl.helloSent = true ∧ ∃ g m, c = .flowFrame g m) ∧
    (s.sl.state = .training → c ≠ .resetPinLow → t.sl.state = .training ∨ t.sl.state = .syncWait ∧ 1 ≤ t.sl.lanes)

/-- While the RESET pin is low no command but its release changes the part (11, "RESET pin"; log entry 16). -/
def Obligations.NothingActsWhileTheResetPinIsLow : Prop :=
  ∀ (c : Instr) (s : State), s.su.resetLow = true → c ≠ .resetPinLow → (∀ straps, c ≠ .deviceReset straps) →
    exec c s = .next s

/-! ## Layouts and arithmetic -/

/-- Every valid return frame decodes from its bytes: no bit of a FLOW's counters or of a REQUEST's tag, kind and contents is dropped
(R146, R184). -/
def Obligations.ReturnFramesDecodeToThemselves : Prop :=
  ∀ f : ReturnFrame, (∀ tag kind contents, f = .request tag kind contents → contents.length ≤ 65535) →
    decodeReturnFrame (encodeReturnFrame f) = some f

/-- Every table entry decodes from the payload a TABLE_READ gives of it (R160, R185). -/
def Obligations.TableEntriesDecodeToThemselves : Prop :=
  (∀ e : Option ChannelId, decodeSlotMap (slotMapBytes e) = some e) ∧
  (∀ p : Profile, ProfileInRange p → decodeProfile p.bytes = some p) ∧
  (∀ c : ChannelConfig, c.sealAgeMs ≤ 65535 → decodeChannel c.bytes = some c) ∧
  ∀ x : Settings, SettingsInRange x → decodeSettings x.bytes = some x

/-- The layouts have the sizes the tables of 12 give them, and the three bytes of a pair at W 12 hold its two values as R183 says. -/
def Obligations.LayoutsHaveTheirSizes : Prop :=
  (∀ h : RecordHeader, h.bytes.length = 32) ∧ (∀ (b : BlockId) (d : Descriptor), (d.bytes b).length = 64) ∧
  (∀ s : State, (statusRecord s).length = 64) ∧ (∀ h : Hello, h.body.length = 32) ∧ (∀ m : Mark, m.body.length = 48) ∧
  (∀ f : HalfFrame, f.body.length = 64 + f.payload.length) ∧ (∀ ch : Channel, ch.runtimeBytes.length = 12) ∧
  ∀ a b : BitVec 12, ∃ x y z, pairBytes a b = [x, y, z] ∧ x = a.extractLsb' 0 8 ∧ y.extractLsb' 0 4 = a.extractLsb' 8 4 ∧
    y.extractLsb' 4 4 = b.extractLsb' 0 4 ∧ z = b.extractLsb' 4 8

/-- R50. Stage 2 and stage 3: the value less the offset, in its range, divided by 2^(16 − W) at W 12 and 8 with an exact half rounded
toward plus infinity; `floor x/n` is the q with n·q ≤ x < n·(q + 1). -/
def Obligations.RequantizeRoundsHalfUp : Prop :=
  (∀ v offset : Int, SampleRange v → SampleRange offset →
    -65535 ≤ v - offset ∧ v - offset ≤ 65535 ∧
    requantize .w16 (v - offset) = v - offset ∧
    (16 * requantize .w12 (v - offset) ≤ v - offset + 8 ∧ v - offset + 8 < 16 * (requantize .w12 (v - offset) + 1)) ∧
    (-4096 ≤ requantize .w12 (v - offset) ∧ requantize .w12 (v - offset) ≤ 4096) ∧
    (256 * requantize .w8 (v - offset) ≤ v - offset + 128 ∧ v - offset + 128 < 256 * (requantize .w8 (v - offset) + 1)) ∧
    (-256 ≤ requantize .w8 (v - offset) ∧ requantize .w8 (v - offset) ≤ 256)) ∧
  (∀ q : Int, requantize .w12 (16 * q + 8) = q + 1 ∧ requantize .w8 (256 * q + 128) = q + 1) ∧
  requantize .w12 (-8) = 0 ∧ requantize .w12 (-9) = -1 ∧
  (∀ w : Width, w ≠ .w16 → ∀ d : Int,
    requantize w d = (d + 2 ^ (16 - w.bits - 1)) / 2 ^ (16 - w.bits)) ∧
  ∀ (p : Profile) (g : Group), (groupValues p g).map (fun x => x.value) =
    (stage1 p.mode g).map (fun v => (clampTo p.width (requantize p.width (v - p.offset))).value)

/-- A group's values over its own samples: the first of them under PASS and PICK, their mean with a half rounded up under MEAN, their
least and greatest under PEAK; and every stored value lies in its width's range, clamped exactly when it had to be (R46 to R51). -/
def Obligations.GroupValuesOfTheirSamples : Prop :=
  (∀ (x : Int) (xs : List Int) (index frame : Word64), SampleRange x → (∀ y ∈ xs, SampleRange y) →
    let g := groupOf x xs index frame
    let n : Int := xs.length + 1
    g.firstIndex = index ∧ g.firstFrame = frame ∧ g.lastIndex = index + BitVec.ofNat 64 xs.length ∧
    stage1 .pass g = [x] ∧ stage1 .pick g = [x] ∧
    (∃ v, stage1 .mean g = [v] ∧ 2 * n * v ≤ 2 * (x + xs.sum) + n ∧ 2 * (x + xs.sum) + n < 2 * n * (v + 1) ∧ SampleRange v) ∧
    (∃ lo hi, stage1 .peak g = [lo, hi] ∧ lo ∈ x :: xs ∧ hi ∈ x :: xs ∧ ∀ y ∈ x :: xs, lo ≤ y ∧ y ≤ hi)) ∧
  ∀ (w : Width) (q : Int), w.least ≤ (clampTo w q).value ∧ (clampTo w q).value ≤ w.greatest ∧
    ((clampTo w q).clamped = false → (clampTo w q).value = q) ∧
    ((clampTo w q).clamped = true ↔ q < w.least ∨ w.greatest < q)

/-- After an evaluation no move of R74 applies: the level is settled for the free count (R74). -/
def Obligations.PressureSettles : Prop :=
  ∀ (x : Settings) (free : Nat) (l : PressureLevel), x.criticalMark + x.hysteresis < x.tightMark →
    pressureMove x free (pressureLevel x free l) = pressureLevel x free l ∧
    (free ≤ x.criticalMark → pressureLevel x free l = .critical) ∧
    (x.tightMark + x.hysteresis < free → pressureLevel x free l = .open_) ∧
    (x.criticalMark + x.hysteresis < free → free ≤ x.tightMark → pressureLevel x free l = .tight) ∧
    (x.tightMark < free → free ≤ x.tightMark + x.hysteresis → l ≠ .critical → pressureLevel x free l = l) ∧
    (x.criticalMark < free → free ≤ x.criticalMark + x.hysteresis → l ≠ .open_ → pressureLevel x free l = l)

/-- An allocation fails exactly when the free count is 0; otherwise it takes the head of the first non-empty list after the rotation
pointer's plane, which becomes the pointer, and changes no other block (R72). -/
def Obligations.AllocationTakesTheNextPlanesHead : Prop :=
  ∀ (x : Settings) (rm : Ring) (c : ChannelId) (run : Byte),
    (rm.allocate x c run = none ↔ rm.freeCount = 0) ∧
    ∀ b rm', rm.allocate x c run = some (b, rm') →
      (∃ p rest, rm.free[p] = some (b :: rest) ∧ rm'.free[p] = some rest ∧ rm'.rotation = p ∧
        (∀ q : PlaneId, q ≠ p → rm'.free[q] = rm.free[q]) ∧
        (∀ q : PlaneId, (q - rm.rotation - 1 < p - rm.rotation - 1) → rm.free[q] = none ∨ rm.free[q] = some [])) ∧
      rm'.freeCount + 1 = rm.freeCount ∧ rm'.level = pressureLevel x rm'.freeCount rm.level ∧
      rm'.block b = .allocated c run ∧ (∀ b', b' ≠ b → rm'.block b' = rm.block b') ∧ rm'.queues = rm.queues

/-- R88. An UNPIN at the Ring Manager: NOT_PINNED with no pin, whatever the state; otherwise one pin less, and a RETIRED block whose
last pin it was becomes FREE, its descriptor cleared, at the tail of its plane's list, the free count one up and pressure evaluated;
a block in any other state stays in it, and a later release of it, its pins gone, makes it FREE. -/
def Obligations.UnpinFreesARetiredBlock : Prop :=
  ∀ (x : Settings) (rm : Ring) (b : BlockId), tableRising rm.blocks = true →
    (∀ e ∈ rm.blocks, e.1 < 8192 ∧ (rm.free[planeOf e.1]).isSome) →
    ((rm.block b).pins = 0 → rm.unpin x b = (.notPinned, rm)) ∧
    ((rm.block b).pins ≠ 0 → ∃ rm', rm.unpin x b = (.ok, rm') ∧ (∀ b', b' ≠ b → rm'.block b' = rm.block b') ∧
      (((rm.block b).state = .retired ∧ (rm.block b).pins = 1) →
        rm'.block b = .cleared .free ∧ (∃ l, rm.free[planeOf b] = some l ∧ rm'.free[planeOf b] = some (l ++ [b])) ∧
        rm'.freeCount = rm.freeCount + 1 ∧ rm'.level = pressureLevel x rm'.freeCount rm.level) ∧
      (¬ ((rm.block b).state = .retired ∧ (rm.block b).pins = 1) →
        rm'.block b = { rm.block b with pins := (rm.block b).pins - 1 } ∧ rm'.free = rm.free ∧ rm'.level = rm.level ∧
        ((rm.block b).pins = 1 → (rm'.release b).block b = .cleared .free)) ∧
      rm'.queues = rm.queues)

/-- The grant order of a free port: refresh at owed 8, urgent intake, drain loads, the review read, other intake, refresh (R95). An intake
choice is the first channel after the pointer that offers a piece on the plane, at the urgent step the first that is urgent: 3072 bytes
staged, or two WAITING headers (R96, R98). A channel's piece is its oldest WAITING header, else at most 512 bytes of its oldest run, each
on the plane of its block and with no such write of the channel in progress (R97, R99). -/
def Obligations.GrantsFollowTheOrder : Prop :=
  ∀ (s : State) (p : PlaneId),
    (8 ≤ (s.planes[p]).owed → (grantOrder s p).port = some .refresh ∧ (grantOrder s p).owed + 1 = (s.planes[p]).owed) ∧
    ((s.planes[p]).owed < 8 → ∀ x, intakeChoice s p true = some x → (grantOrder s p).port = some x.2 ∧ (grantOrder s p).pointer = x.1) ∧
    ((s.planes[p]).owed < 8 → intakeChoice s p true = none →
      (∀ k rest, (s.planes[p]).drain = k :: rest →
        (grantOrder s p).port = some (.halfLoad k.half k.block k.offset k.length) ∧ (grantOrder s p).drain = rest) ∧
      ((s.planes[p]).drain = [] →
        (∀ r, (s.planes[p]).review = some r →
          (grantOrder s p).port = some (.reviewRead r.block r.offset r.length true) ∧ (grantOrder s p).review = none) ∧
        ((s.planes[p]).review = none →
          (∀ x, intakeChoice s p false = some x → (grantOrder s p).port = some x.2 ∧ (grantOrder s p).pointer = x.1) ∧
          (intakeChoice s p false = none →
            (0 < (s.planes[p]).owed → (grantOrder s p).port = some .refresh) ∧
            ((s.planes[p]).owed = 0 → grantOrder s p = s.planes[p]))))) ∧
    (∀ (u : Bool) (c : ChannelId) (a : Access), intakeChoice s p u = some (c, a) →
      intakeAccess s p c = some a ∧ (u = true → (s.chans[c]).urgent = true) ∧
      ∀ d : ChannelId, d - (s.planes[p]).pointer - 1 < c - (s.planes[p]).pointer - 1 →
        intakeAccess s p d = none ∨ (u = true ∧ (s.chans[d]).urgent = false)) ∧
    (∀ u : Bool, intakeChoice s p u = none ↔
      ∀ c : ChannelId, intakeAccess s p c = none ∨ (u = true ∧ (s.chans[c]).urgent = false)) ∧
    (∀ c : ChannelId, (s.chans[c]).urgent = true ↔ 3072 ≤ (s.chans[c]).occupancy ∨ (s.chans[c]).waiting.length = 2) ∧
    ∀ c : ChannelId,
      (∀ w rest, (s.chans[c]).waiting = w :: rest → planeOf w.block = p → ¬ HeaderGoing s c →
        intakeAccess s p c = some (.headerWrite c w.block w.offset w.header.bytes true)) ∧
      ((HeaderGoing s c ∨ ∀ w rest, (s.chans[c]).waiting = w :: rest → planeOf w.block ≠ p) →
        (∀ r rest, (s.chans[c]).runs = r :: rest → planeOf r.block = p → r.pending ≠ [] → ¬ PayloadGoing s c →
          intakeAccess s p c =
            some (.payloadWrite c r.block (r.recordOffset + 32 + r.written) (r.pending.take 512) true)) ∧
        ((PayloadGoing s c ∨ ∀ r rest, (s.chans[c]).runs = r :: rest → planeOf r.block ≠ p ∨ r.pending = []) →
          intakeAccess s p c = none))

/-! ## The Acquisition Port (01) -/

/-- ACQUISITION_FRAME, a good frame, of the current width or, in a boundary candidate, of the pending one: in sequence, ahead of the
sequence by 1..4095 frames, or resynchronising (R2, R4, R5, R7, R8, R10, R12, R25, R131). The counters advance, a forced boundary is used
up, a boundary commits the tables and begins a sweep, and in RUN, PAUSE and HALT brings a SWEEP mark with the skipped count or, at a full
Mark Queue, counts one more skipped; each ACTIVE or LOSS channel's next index advances by the samples missed and delivered, and an IDLE
or CLOSING channel is unchanged. That a boundary frame of the current width which commits another slot_count is distributed over the
slots both widths have is the model's reading (log entry 22). -/
def Obligations.GoodFramesAdvanceTheCounters : Prop :=
  ∀ (s : State) (tag flags : Word16) (xs : List Word16), s.su.resetLow = false → s.ap.openFrame = none →
    (xs.length = s.ts.settings.slotCount ∨
      (s.ts.pendingSlotCount = some xs.length ∧ (flags.getLsbD 0 || s.ap.forcedBoundary) = true)) → xs.length ≤ 32 →
    let ahead := match s.ap.expected with | none => 0 | some e => (tag - e).toNat
    let missed := if ahead < 4096 then ahead else 0
    let boundary := flags.getLsbD 0 || s.ap.forcedBoundary
    let ts' := if boundary then s.ts.commit else s.ts
    ∃ t, exec (.acquisitionFrame (frameBurst tag flags xs (frameCheck tag flags xs))) s = .next t ∧
      t.ap.frameCounter = s.ap.frameCounter + BitVec.ofNat 64 missed + 1#64 ∧ t.ap.expected = some (tag + 1#16) ∧
      t.ap.tagResync = (s.ap.tagResync || decide (4096 ≤ ahead)) ∧ t.ap.forcedBoundary = false ∧ t.ap.openFrame = none ∧
      t.ap.sweepCounter = (if boundary then s.ap.sweepCounter + 1#32 else s.ap.sweepCounter) ∧ t.ts = ts' ∧
      (∀ c : ChannelId, (s.chans[c]).state = .idle ∨ (s.chans[c]).state = .closing → t.chans[c] = s.chans[c]) ∧
      (∀ c : ChannelId, (s.chans[c]).state = .active ∨ (s.chans[c]).state = .loss →
        ((t.chans[c]).state = .active ∨ (t.chans[c]).state = .loss) ∧
        (t.chans[c]).nextIndex = (s.chans[c]).nextIndex + BitVec.ofNat 64 (slotsOf s.ts c * missed)
          + BitVec.ofNat 64 (samplesFor ts' xs c).length) ∧
      (∀ c : ChannelId, (s.chans[c]).state = .armed →
        if s.mu.stream = .run ∧ samplesFor ts' xs c ≠ [] ∧ (boundary ∨ ((ts'.channels[c]).current).startAtSweep = false)
        then (t.chans[c]).nextIndex = BitVec.ofNat 64 (samplesFor ts' xs c).length ∧ (t.chans[c]).run = (s.chans[c]).run ∧
          (t.chans[c]).lastSweep = t.ap.sweepCounter ∧ ((t.chans[c]).state = .active ∨ (t.chans[c]).state = .loss)
        else t.chans[c] = s.chans[c]) ∧
      t.marks.headInTx = s.marks.headInTx ∧
      (if boundary = true ∧ (s.mu.stream = .run ∨ s.mu.stream = .pause ∨ s.mu.stream = .halt)
        then (if s.marks.queue.length < 64
          then t.marks.skip = 0 ∧ ∃ gaps : List Gap, t.marks.queue = s.marks.queue ++
            .sweep (s.ap.sweepCounter + 1#32) (s.ap.frameCounter + BitVec.ofNat 64 missed) s.marks.skip :: gaps.map Mark.gap
          else t.marks.queue = s.marks.queue ∧
            t.marks.skip = (if s.marks.skip < 65535 then s.marks.skip + 1 else s.marks.skip))
        else t.marks.skip = s.marks.skip ∧ ∃ gaps : List Gap, t.marks.queue = s.marks.queue ++ gaps.map Mark.gap) ∧
      ChangesOnly [.ap, .ts, .chans, .rm, .planes, .ds, .marks, .orders] s t

/-- ACQUISITION_FRAME, a frame whose check fails, whose width is neither the current one nor in force at its boundary, a frame too short,
too long or cut by the next frame's start: counted as one missed frame and reported to the ACTIVE and LOSS channels with slots; no
boundary, no delivery, the forced-boundary flag and the tables as they were (R1, R2, R3, R8, R29). -/
def Obligations.BadFramesCountAsOneMissed : Prop :=
  ∀ (s : State) (words : List PortWord) (left : Option OpenFrame), s.su.resetLow = false → BadBurst s words left →
    ∃ t, exec (.acquisitionFrame words) s = .next t ∧
      t.ap = { s.ap with
        frameCounter := s.ap.frameCounter + 1#64, expected := s.ap.expected.map (fun e => e + 1#16), openFrame := left } ∧
      (∀ c : ChannelId,
        if s.ap.expected ≠ none ∧ slotsOf s.ts c ≠ 0 ∧ ((s.chans[c]).state = .active ∨ (s.chans[c]).state = .loss)
        then (t.chans[c]).state = .loss ∧
          (t.chans[c]).nextIndex = (s.chans[c]).nextIndex + BitVec.ofNat 64 (slotsOf s.ts c) ∧
          ((s.chans[c]).state = .loss → ∀ g, (s.chans[c]).gap = some g →
            (t.chans[c]).gap = some { g with
              count := g.count + BitVec.ofNat 64 (slotsOf s.ts c), causes := g.causes ||| 1#5
              firstFrame := if g.firstFrame = none ∧ BitVec.ofNat 64 (slotsOf s.ts c) ≠ 0#64 then some s.ap.frameCounter
                else g.firstFrame })
        else t.chans[c] = s.chans[c]) ∧
      ChangesOnly [.ap, .chans, .rm, .planes, .ds, .orders] s t

/-! ## Channels and the memory controller (02, 05) -/

/-- SEAL_AGE_TIMER_EXPIRY: a block with bytes is sealed with cause AGE and the channel's class, the record closing with a SPLIT end,
its header WAITING and its size and count in the block's descriptor, and the group going on; a block without bytes stays FILLING, the timer stopped (R36, R37, R61, R65, R76, R77, R79). -/
def Obligations.SealAgeTimerExpirySealsTheBlock : Prop :=
  ∀ (s : State) (c : ChannelId) (b : BlockId), s.su.resetLow = false → (s.chans[c]).sealTimer ≠ none →
    (s.chans[c]).filling = some b → (s.rm.block b).state = .filling → ChannelSound s.chans[c] →
    ∃ t, exec (.sealAgeTimerExpiry c) s = .next t ∧ OtherChannelsKept c s t ∧
      (0 < (s.rm.block b).bytesUsed →
        (t.chans[c]).filling = none ∧ (t.chans[c]).sealTimer = none ∧ (t.chans[c]).record = none ∧
        (t.chans[c]).state = (s.chans[c]).state ∧ (t.chans[c]).group = (s.chans[c]).group ∧
        (t.chans[c]).current = (s.chans[c]).current ∧ (t.chans[c]).nextIndex = (s.chans[c]).nextIndex ∧
        RecordClosed .split c b s t ∧ (t.rm.block b).cause = some .age ∧ (t.rm.block b).cls = some ((s.ts.channels[c]).current).cls ∧
        ((t.rm.block b).state = .sealing ∨ (t.rm.block b).state = .queued ∨ (t.rm.block b).state = .sending)) ∧
      ((s.rm.block b).bytesUsed = 0 → t.chans = put s.chans c { s.chans[c] with sealTimer := none } ∧ KeptOrSelected (s.rm.block b) (t.rm.block b)) ∧
      t.rm.free = s.rm.free ∧ ChangesOnly [.chans, .rm, .planes, .ds] s t

/-- HEADER_WRITE_COMPLETE: the 32 bytes stand at their place and nowhere else, the oldest WAITING slot is EMPTY, the block's unwritten
bytes fall by 32, and a SEALING block they were the last of is QUEUED or already selected; a write that outlived a stream reset changes
memory alone (R57, R80, R99, R100, R107). -/
def Obligations.HeaderWriteStoresTheHeader : Prop :=
  ∀ (s : State) (p : PlaneId) (c : ChannelId) (b : BlockId) (off : Nat) (bs : List Byte) (live : Bool),
    s.su.resetLow = false → MemoryCanonical s → (s.planes[p]).port = some (.headerWrite c b off bs live) →
    b * 1048576 + off + bs.length ≤ 8589934592 →
    ∃ t, exec (.headerWriteComplete p) s = .next t ∧ readBytes t.mem (b * 1048576 + off) bs.length = bs ∧
      BytesKeptOutside (b * 1048576 + off) bs.length s t ∧ OtherChannelsKept c s t ∧ OtherBlocksKept b s t ∧
      (live = true →
        (t.chans[c]).waiting = (s.chans[c]).waiting.tail ∧ (t.chans[c]).runs = (s.chans[c]).runs ∧
        (t.chans[c]).record = (s.chans[c]).record ∧ (t.chans[c]).nextIndex = (s.chans[c]).nextIndex ∧
        (t.rm.block b).unwritten = (s.rm.block b).unwritten - 32 ∧ (t.rm.block b).bytesUsed = (s.rm.block b).bytesUsed ∧
        ((s.rm.block b).state = .sealing → (s.rm.block b).unwritten ≤ 32 → (s.rm.block b).cls ≠ none →
          (t.rm.block b).state = .queued ∨ (t.rm.block b).state = .sending)) ∧
      (live = false → t.chans = s.chans ∧ KeptOrSelected (s.rm.block b) (t.rm.block b)) ∧
      t.rm.free = s.rm.free ∧ ChangesOnly [.mem, .chans, .rm, .planes, .ds] s t

/-- PAYLOAD_WRITE_COMPLETE: the piece stands at its place and nowhere else, its bytes leave the staging buffer, the block's unwritten
bytes fall by its length, and a SEALING block it was the last of is QUEUED or already selected; a write that outlived a stream reset, the
staging buffer empty, changes memory alone (R55, R80, R99, R100, R107). -/
def Obligations.PayloadWriteStoresThePiece : Prop :=
  ∀ (s : State) (p : PlaneId) (c : ChannelId) (b : BlockId) (off : Nat) (bs : List Byte) (live : Bool),
    s.su.resetLow = false → MemoryCanonical s → (s.planes[p]).port = some (.payloadWrite c b off bs live) →
    b * 1048576 + off + bs.length ≤ 8589934592 →
    ∃ t, exec (.payloadWriteComplete p) s = .next t ∧ readBytes t.mem (b * 1048576 + off) bs.length = bs ∧
      BytesKeptOutside (b * 1048576 + off) bs.length s t ∧ OtherChannelsKept c s t ∧ OtherBlocksKept b s t ∧
      (live = true →
        (∀ r rest, (s.chans[c]).runs = r :: rest → bs.length ≤ r.pending.length →
          (t.chans[c]).occupancy + bs.length = (s.chans[c]).occupancy) ∧ (t.chans[c]).waiting = (s.chans[c]).waiting ∧
        (t.chans[c]).record = (s.chans[c]).record ∧ (t.chans[c]).nextIndex = (s.chans[c]).nextIndex ∧
        (t.rm.block b).unwritten = (s.rm.block b).unwritten - bs.length ∧
        (t.rm.block b).bytesUsed = (s.rm.block b).bytesUsed ∧
        ((s.rm.block b).state = .sealing → (s.rm.block b).unwritten ≤ bs.length → (s.rm.block b).cls ≠ none →
          (t.rm.block b).state = .queued ∨ (t.rm.block b).state = .sending)) ∧
      (live = false → t.chans = s.chans ∧ KeptOrSelected (s.rm.block b) (t.rm.block b)) ∧
      t.rm.free = s.rm.free ∧ ChangesOnly [.mem, .chans, .rm, .planes, .ds] s t

/-- HALF_LOAD_COMPLETE: a LOADING half is LOADED with the bytes memory holds; an ABANDONED half is EMPTY again and may claim its next
load; memory is unchanged (R101, R117). -/
def Obligations.HalfLoadFillsItsHalf : Prop :=
  ∀ (s : State) (p : PlaneId) (h : Fin 2) (b : BlockId) (off len : Nat) (f : HalfFrame),
    s.su.resetLow = false → (s.planes[p]).port = some (.halfLoad h b off len) → b * 1048576 + off + len ≤ 8589934592 →
    ∃ t, exec (.halfLoadComplete p) s = .next t ∧
      (s.ds.halves[h] = ⟨.loading, some f⟩ →
        t.ds.halves[h] = ⟨.loaded, some { f with payload := readBytes s.mem (b * 1048576 + off) len }⟩) ∧
      ((s.ds.halves[h]).state = .abandoned → (t.ds.halves[h]).state = .empty ∨ (t.ds.halves[h]).state = .loading) ∧
      t.ds.granted = s.ds.granted ∧ t.ds.committed = s.ds.committed ∧ t.ds.sent = s.ds.sent ∧
      (∀ b', KeptOrSelected (s.rm.block b') (t.rm.block b')) ∧ t.rm.free = s.rm.free ∧ ChangesOnly [.planes, .ds, .rm] s t

/-- REVIEW_READ_COMPLETE: the READ in the slot is answered OK with the bytes memory holds and the slot is emptied; after a stream reset
the bytes are discarded (R102, R169, R173, R187). -/
def Obligations.ReviewReadAnswersTheRead : Prop :=
  ∀ (s : State) (p : PlaneId) (b : BlockId) (off len : Nat) (live : Bool),
    s.su.resetLow = false → (s.planes[p]).port = some (.reviewRead b off len live) → b * 1048576 + off + len ≤ 8589934592 →
    ∃ t, exec (.reviewReadComplete p) s = .next t ∧
      (live = true → s.rp.slot = some (.read b off len) →
        t.rp.slot = none ∧ t.rp.hold = s.rp.hold ∧
        Responded ⟨4#8, .ok, BitVec.ofNat 16 b, BitVec.ofNat 16 len, readBytes s.mem (b * 1048576 + off) len⟩ s t) ∧
      (live = false → t.rp = s.rp) ∧
      (∀ b', KeptOrSelected (s.rm.block b') (t.rm.block b')) ∧ t.rm.free = s.rm.free ∧ ChangesOnly [.planes, .ds, .rm, .rp] s t

/-- REFRESH_TICK counts for a READY plane up to 8 and then sets REFRESH_LAPSE, changing nothing else at a busy port, and counts for no
other plane; REFRESH_COMPLETE frees the port: with nothing owed and no claim it stays free, and otherwise the next access is the one the
grant order gives on the freed plane (R94, R95, R103, R104). -/
def Obligations.RefreshIsCountedAndGranted : Prop :=
  (∀ (s : State) (p : PlaneId), s.su.resetLow = false →
    ∃ t, exec (.refreshTick p) s = .next t ∧ ChangesOnly [.planes] s t ∧
      ((s.planes[p]).state ≠ .ready → t = s) ∧
      ((s.planes[p]).state = .ready → (s.planes[p]).port ≠ none → (s.planes[p]).owed < 8 →
        t.planes[p] = { s.planes[p] with owed := (s.planes[p]).owed + 1 }) ∧
      ((s.planes[p]).state = .ready → (s.planes[p]).port ≠ none → 8 ≤ (s.planes[p]).owed →
        t.planes[p] = { s.planes[p] with lapse := true }) ∧
      ((s.planes[p]).state = .ready → (s.planes[p]).port = none → (t.planes[p]).port ≠ none ∧
        t.planes[p] = grantOrder { s with planes := put s.planes p (if (s.planes[p]).owed < 8
          then { s.planes[p] with owed := (s.planes[p]).owed + 1 } else { s.planes[p] with lapse := true }) } p) ∧
      ∀ q : PlaneId, q ≠ p → (s.planes[q]).port ≠ none → t.planes[q] = s.planes[q]) ∧
  ∀ (s : State) (p : PlaneId), s.su.resetLow = false → (s.planes[p]).port = some .refresh →
    ∃ t, exec (.refreshComplete p) s = .next t ∧ ChangesOnly [.planes, .ds, .rm] s t ∧
      ((s.planes[p]).state ≠ .ready → (t.planes[p]).port = none) ∧
      ((s.planes[p]).state = .ready → t.planes[p] = grantOrder (freed p s) p) ∧
      ((s.planes[p]).state = .ready → (s.planes[p]).owed = 0 → ((freed p s).planes[p]).drain = [] → (s.planes[p]).review = none →
        (∀ c : ChannelId, intakeAccess (freed p s) p c = none) → (t.planes[p]).port = none) ∧
      ((s.planes[p]).state = .ready → 8 ≤ (s.planes[p]).owed →
        (t.planes[p]).port = some .refresh ∧ (t.planes[p]).owed + 1 = (s.planes[p]).owed) ∧
      ((s.planes[p]).state = .ready → 0 < (s.planes[p]).owed ∨ (s.planes[p]).review ≠ none ∨ (s.planes[p]).drain ≠ [] →
        (t.planes[p]).port ≠ none) ∧
      (∀ q : PlaneId, q ≠ p → (s.planes[q]).port ≠ none → (t.planes[q]).port = (s.planes[q]).port) ∧
      (t.planes[p]).lapse = (s.planes[p]).lapse ∧ t.rm.free = s.rm.free

/-- PLANE_INIT_END and PLANE_INIT_TIMEOUT: a plane that ends READY is cleared and, when plane_mask names it, its blocks become FREE in
increasing order and pressure is evaluated; one that ends FAULTY sets PLANE_FAULT and leaves plane_mask; the fourth report starts the
settle interval of 1 ms (R91, R105, R106, R176). That a plane that ends FAULTY, also by timeout, leaves the bytes of memory as they were
is the model's choice (log entry 11: R105 writes patterns over the plane). -/
def Obligations.PlaneInitialisationEnds : Prop :=
  ∀ (s : State) (p : PlaneId), s.su.resetLow = false → (s.planes[p]).state = .initialising →
    (∃ t, exec (.planeInitEnd p true) s = .next t ∧
      t.planes = put s.planes p { s.planes[p] with state := .ready, owed := 0, initTimer := none } ∧
      (∀ a, readByte t.mem a = if planeOfAddress a = p then 0#8 else readByte s.mem a) ∧ t.ts = s.ts ∧
      (inPlaneSet s.ts.settings.planeMask p = true →
        t.rm.free = put s.rm.free p (some (planeBlocks p)) ∧ t.rm.level = pressureLevel s.ts.settings t.rm.freeCount s.rm.level) ∧
      (inPlaneSet s.ts.settings.planeMask p = false → t.rm = s.rm) ∧
      (s.su.phase = .planeWait → (∀ q : PlaneId, q ≠ p → (s.planes[q]).state ≠ .initialising) →
        t.su.phase = .settle ∧ t.su.settleTimer = some 1) ∧
      (∀ q : PlaneId, q ≠ p → (s.planes[q]).state = .initialising → t.su = s.su) ∧
      ChangesOnly [.planes, .mem, .rm, .su] s t) ∧
    ∀ c, (c = .planeInitEnd p false ∨ c = .planeInitTimeout p) → ∃ t, exec c s = .next t ∧
      t.planes = put s.planes p { s.planes[p] with state := .faulty, fault := true, owed := 0, initTimer := none } ∧
      (∀ q : PlaneId, inPlaneSet t.ts.settings.planeMask q = (inPlaneSet s.ts.settings.planeMask q && q != p)) ∧
      t.ts = { s.ts with settings := { s.ts.settings with planeMask := t.ts.settings.planeMask } } ∧
      (s.su.phase = .planeWait → (∀ q : PlaneId, q ≠ p → (s.planes[q]).state ≠ .initialising) →
        t.su.phase = .settle ∧ t.su.settleTimer = some 1) ∧
      (∀ q : PlaneId, q ≠ p → (s.planes[q]).state = .initialising → t.su = s.su) ∧
      ChangesOnly [.planes, .ts, .su] s t

/-! ## Start-up and resets (11) -/

/-- SETTLE_TIMER_EXPIRY and FLASH_READ_COMPLETE: LINK and HOLD end in STANDBY, FLASH and FLASH_RUN read the flash; a failed image
writes nothing and ends in STANDBY; a valid image is applied entry by entry, an entry that is refused being skipped with CONFIG_FAULT set,
and ends in STANDBY under FLASH and in RUN under FLASH_RUN, where every channel whose entry then says autostart is ARMED with run 1; so an
image of one Slot Map entry writes that entry (R14, R176 to R179). -/
def Obligations.StartUpEndsInItsMode : Prop :=
  (∀ s : State, s.su.resetLow = false → s.su.phase = .settle → s.su.settleTimer ≠ none →
    ∃ t, exec .settleTimerExpiry s = .next t ∧ t.su.settleTimer = none ∧ ChangesOnly [.su, .mu] s t ∧
      ((s.su.mode = .link ∨ s.su.mode = .hold) → t.mu.stream = .standby ∧ t.su.phase = .done) ∧
      ((s.su.mode = .flash ∨ s.su.mode = .flashRun) → t.mu = s.mu ∧ t.su.phase = .flashLoad)) ∧
  (∀ (s : State) (image : Option (List Byte)), s.su.resetLow = false → s.su.phase = .flashLoad → image.bind judgeImage = none →
    ∃ t, exec (.flashReadComplete image) s = .next t ∧ t.mu.stream = .standby ∧ t.su.phase = .done ∧ t.su.configFault = true ∧
      ChangesOnly [.su, .mu] s t) ∧
  (∀ (s : State) (image : List Byte) (es : List FlashEntry), s.su.resetLow = false → s.su.phase = .flashLoad →
    s.mu.stream = .init → judgeImage image = some es →
    let u := es.foldl applyEntry s
    ∃ t, exec (.flashReadComplete (some image)) s = .next t ∧ t.su.phase = .done ∧ t.su.settleTimer = none ∧
      t.su.mode = s.su.mode ∧ t.su.configFault = u.su.configFault ∧ t.ts = u.ts ∧ t.rm = u.rm ∧
      (s.su.mode = .flashRun → t.mu.stream = .run ∧ ∀ c : ChannelId, t.chans[c] =
        if ((u.ts.channels[c]).current).autostart then { s.chans[c] with state := .armed, run := 1#8 } else s.chans[c]) ∧
      (s.su.mode ≠ .flashRun → t.mu.stream = .standby ∧ t.chans = s.chans) ∧ ChangesOnly [.su, .mu, .ts, .rm, .chans] s t) ∧
  (∀ (u : State) (e : FlashEntry),
    let x := writeTable e.table e.number e.payload u
    (x.2 = .ok → applyEntry u e = x.1) ∧
    (x.2 ≠ .ok → applyEntry u e = { u with su := { u.su with configFault := true } })) ∧
  ∀ (s : State) (i : Fin 32) (x : Option ChannelId), s.su.resetLow = false → s.su.phase = .flashLoad → s.mu.stream = .init →
    ∃ t, exec (.flashReadComplete (some (withCheck (leBytes 4 1 ++ [1#8, byteOf i.val, 0#8, 0#8] ++ slotMapBytes x)))) s = .next t ∧
      t.su.phase = .done ∧ t.su.configFault = s.su.configFault ∧ t.ts = { s.ts with slotMap := put s.ts.slotMap i ⟨x, none⟩ } ∧
      (s.su.mode = .flashRun → t.mu.stream = .run ∧ ∀ c : ChannelId, t.chans[c] =
        if ((s.ts.channels[c]).current).autostart then { s.chans[c] with state := .armed, run := 1#8 } else s.chans[c]) ∧
      (s.su.mode ≠ .flashRun → t.mu.stream = .standby ∧ t.chans = s.chans) ∧ ChangesOnly [.su, .mu, .ts, .chans] s t

/-- DEVICE_RESET: every block at its reset values, the start mode from the straps, a review request in the slot answered ABORTED
(R18, R42, R45, R92, R107, R127, R136, R152, R168, R175, R176, R180); RESET with scope DEVICE does the same, without a reply (R167); RESET_PIN_LOW: accesses, a partial frame and frames of the link end at
once and the part is held, DOWN (R107, R137, R152). That the bytes of memory and the commands that wait are kept is the model's choice
(log entries 1, 5, 11 and 16). -/
def Obligations.DeviceResetGivesTheResetValues : Prop :=
  (∀ (s : State) (straps : BitVec 2), ∃ t, exec (.deviceReset straps) s = .next t ∧
    t.ap = AcquisitionPort.reset ∧ t.ts = TableStore.reset ∧ (∀ c : ChannelId, t.chans[c] = Channel.reset) ∧ t.rm = Ring.reset ∧
    (∀ p : PlaneId, t.planes[p] = Plane.reset) ∧ t.ds = Drain.reset ∧ t.marks = MarkUnit.reset ∧ t.mu = Management.reset ∧
    t.sl = Link.reset ∧ t.su = StartUp.reset (modeOf straps) ∧ t.rp.slot = none ∧ t.rp.hold = false ∧
    (s.rp.slot = none → t.rp.responses = s.rp.responses ∧ t.fresh = s.fresh) ∧
    (∀ c run index n, s.rp.slot = some (.locate c run index n) → Responded ⟨1#8, .aborted, 0xFFFF#16, 0#16, []⟩ s t) ∧
    (∀ b off len, s.rp.slot = some (.read b off len) → ∃ v, Responded ⟨4#8, .aborted, BitVec.ofNat 16 b, v, []⟩ s t) ∧
    t.mem = s.mem ∧ t.pending = s.pending ∧ t.resetArrivals = s.resetArrivals ∧ t.orders = s.orders) ∧
  (∀ (s : State) (straps : BitVec 2) (tag z1 z2 z3 : Byte), Serving ⟨tag, 8#8, [2#8, z1, z2, z3]⟩ s →
    ∃ t, exec (.resetDevice straps) s = .next t ∧ exec (.deviceReset straps) s = .next t) ∧
  ∀ s : State, ∃ t, exec .resetPinLow s = .next t ∧ t.su = { s.su with resetLow := true } ∧ t.ap = { s.ap with openFrame := none } ∧
    (∀ p : PlaneId, (t.planes[p]).port = none ∧ (t.planes[p]).drain = [] ∧ (t.planes[p]).review = none ∧
      (t.planes[p]).state = (s.planes[p]).state) ∧
    t.sl.state = .down ∧ t.sl.tx = none ∧ ChangesOnly [.su, .ap, .planes, .sl] s t

/-! ## The Spool Link (08), the drain (06), marks (07) -/

/-- R141. The loss of any one used lane takes an up link down, into TRAINING; a lane not in use is not watched; in TRAINING a lane that
loses alignment leaves the attempt in progress, whose outcome alone counts lanes. -/
def Obligations.OneUsedLaneTakesTheLinkDown : Prop :=
  ∀ (s : State) (lane : Fin 4), s.su.resetLow = false →
    ((s.sl.state = .syncWait ∨ s.sl.state = .ready) → lane.val < s.sl.lanes →
      ∃ t, exec (.laneAlignmentLoss lane) s = .next t ∧ t.sl.state = .training ∧ t.sl.lanes = 0) ∧
    (s.sl.lanes ≤ lane.val → exec (.laneAlignmentLoss lane) s = .next s) ∧
    (s.sl.state = .training → exec (.laneAlignmentLoss lane) s = .next s)

/-- LANE_ALIGNMENT_LOSS and RECEIVE_SILENCE_TIMEOUT on an up link, as one event: the frame in transmission is abandoned, a reply or mark
in transmission stays whole at its queue's head, every block SENT or SENDING and not covered is in REDRAIN, covered ones are released,
FREE or RETIRED while pinned, with pressure evaluated when any became FREE; claims are withdrawn, no half holds a frame; the drain's counters, turn and class queues, the marks, the replies and memory are kept
(R86, R101, R117, R123, R133, R137, R142). -/
def Obligations.LinkDownKeepsWhatWasNotCommitted : Prop :=
  ∀ (s : State) (c : Instr), s.su.resetLow = false → (s.sl.state = .syncWait ∨ s.sl.state = .ready) →
    ((∃ lane : Fin 4, lane.val < s.sl.lanes ∧ c = .laneAlignmentLoss lane) ∨ (s.sl.silenceTimer ≠ none ∧ c = .receiveSilenceTimeout)) →
    ∃ t, exec c s = .next t ∧
      t.sl.state = .training ∧ t.sl.lanes = 0 ∧ t.sl.tx = none ∧ t.sl.helloDue = false ∧ t.sl.helloSent = false ∧
      t.sl.helloTimer = none ∧ t.sl.silenceTimer = none ∧ t.sl.reason = s.sl.reason ∧ t.sl.rejected = s.sl.rejected ∧
      t.marks = { s.marks with headInTx := false } ∧ t.mu = { s.mu with replyInTx := false } ∧
      t.ds.slot = [] ∧ t.ds.sent = [] ∧
      (∀ m : Sequenced, m ∈ t.ds.redrain ↔ m ∈ s.ds.redrain ∨ m ∈ s.ds.sent ∨
        ∃ e ∈ s.ds.slot, e.covered = false ∧ m = ⟨e.block, e.seq⟩) ∧
      (BlocksCollected s →
        (∀ m ∈ s.ds.sent, t.rm.block m.block = { s.rm.block m.block with state := .redrain }) ∧
        (∀ e ∈ s.ds.slot, e.covered = false → t.rm.block e.block = { s.rm.block e.block with state := .redrain }) ∧
        (∀ e ∈ s.ds.slot, e.covered = true →
          ((s.rm.block e.block).pins = 0 → t.rm.block e.block = .cleared .free ∧
            ∃ l, t.rm.free[planeOf e.block] = some l ∧ e.block ∈ l) ∧
          ((s.rm.block e.block).pins ≠ 0 → t.rm.block e.block = { s.rm.block e.block with state := .retired })) ∧
        (∀ b, b ∉ s.ds.slot.map (fun e => e.block) → b ∉ s.ds.sent.map (fun m => m.block) → t.rm.block b = s.rm.block b) ∧
        t.rm.freeCount = s.rm.freeCount +
          (s.ds.slot.filter (fun e => e.covered && decide ((s.rm.block e.block).pins = 0))).length) ∧
      t.rm.level = (if t.rm.freeCount = s.rm.freeCount then s.rm.level
        else pressureLevel s.ts.settings t.rm.freeCount s.rm.level) ∧
      (∀ h : Fin 2, (t.ds.halves[h]).frame = none ∧ ((t.ds.halves[h]).state = .empty ∨ (t.ds.halves[h]).state = .abandoned)) ∧
      t.ds.currentClass = s.ds.currentClass ∧ t.ds.turn = s.ds.turn ∧ t.ds.granted = s.ds.granted ∧
      t.ds.committed = s.ds.committed ∧ t.ds.transmitted = s.ds.transmitted ∧ t.ds.highest = s.ds.highest ∧
      t.ds.nextSeq = s.ds.nextSeq ∧ t.rm.queues = s.rm.queues ∧
      (∀ p : PlaneId, t.planes[p] = { s.planes[p] with drain := [] }) ∧
      ChangesOnly [.sl, .ds, .rm, .planes, .marks, .mu] s t

/-- The training attempts and the HELLO timer: the lanes that aligned give the lane count, and the link enters SYNC_WAIT with HELLO due
and the timers started; an attempt that fails or takes 4 ms is followed by the next; each expiry in SYNC_WAIT makes a HELLO due
(R138, R139). -/
def Obligations.TrainingSettlesTheLaneCount : Prop :=
  (∀ (s : State) (aligned : BitVec 4), s.su.resetLow = false → s.sl.state = .training → aligned.getLsbD 0 = true →
    ∃ t, exec (.trainingAttemptComplete aligned) s = .next t ∧ ChangesOnly [.sl] s t ∧ t.sl.state = .syncWait ∧
      t.sl.lanes = (if aligned = 15#4 then 4 else if aligned.getLsbD 1 then 2 else 1) ∧ t.sl.helloDue = true ∧
      t.sl.helloSent = false ∧ t.sl.helloTimer = some 10 ∧ t.sl.silenceTimer = some 1 ∧ t.sl.reason = s.sl.reason ∧
      t.sl.tx = s.sl.tx ∧ t.sl.rejected = s.sl.rejected) ∧
  (∀ s : State, s.su.resetLow = false → s.sl.state = .training →
    ∃ t, exec .trainingAttemptFailed s = .next t ∧ t = { s with sl := { s.sl with attemptTimer := some 4 } }) ∧
  (∀ s : State, s.su.resetLow = false → s.sl.state = .training → s.sl.attemptTimer ≠ none →
    ∃ t, exec .trainingAttemptTimeout s = .next t ∧ t = { s with sl := { s.sl with attemptTimer := some 4 } }) ∧
  ∀ s : State, s.su.resetLow = false → s.sl.state = .syncWait → s.sl.helloTimer ≠ none →
    ∃ t, exec .helloTimerExpiry s = .next t ∧ t = { s with sl := { s.sl with helloDue := true, helloTimer := some 10 } }

/-- FORWARD_FRAME_START: HELLO, then REPLY, then MARK, then DATA, then FILL, each with what its source is told; a DATA frame is ready
exactly when the link is READY, the stream not HALT and a LOADED half holds the earliest frame of the slot that has not begun (R118,
R144, R147, R148). -/
def Obligations.FrameStartsFollowTheOrder : Prop :=
  ∀ s : State, s.su.resetLow = false → (s.sl.state = .syncWait ∨ s.sl.state = .ready) → s.sl.tx = none →
    ∃ t, exec .forwardFrameStart s = .next t ∧ t.sl.tx ≠ none ∧
      (s.sl.helloDue = true →
        (∃ h : Hello, t.sl.tx = some (.hello h true) ∧ h.reason = s.sl.reason ∧ h.stream = s.mu.stream ∧
          h.granted = s.ds.granted ∧ h.committed = s.ds.committed ∧ h.transmitted = s.ds.transmitted ∧ h.highest = s.ds.highest ∧
          h.nextSeq = s.ds.nextSeq ∧ h.redrain = s.ds.redrain.length) ∧ t.sl.helloDue = false ∧ ChangesOnly [.sl] s t) ∧
      (s.sl.helloDue = false → t.sl.helloDue = false ∧
        (∀ r rest, s.mu.replies = r :: rest → s.mu.replyInTx = false →
          t.sl.tx = some (.reply r) ∧ t.mu = { s.mu with replyInTx := true } ∧ ChangesOnly [.sl, .mu] s t) ∧
        ((s.mu.replies = [] ∨ s.mu.replyInTx = true) →
          (∀ m rest, s.sl.state = .ready → s.marks.queue = m :: rest → s.marks.headInTx = false →
            t.sl.tx = some (.mark m true) ∧ t.marks = { s.marks with headInTx := true } ∧ ChangesOnly [.sl, .marks] s t) ∧
          ((s.sl.state = .syncWait ∨ s.marks.queue = [] ∨ s.marks.headInTx = true) →
            (∀ h, dataReady s = some h →
              t.sl.tx = some (.data h) ∧ (t.ds.halves[h]).state = .transmitting ∧
              (t.ds.halves[h]).frame = (s.ds.halves[h]).frame ∧ ChangesOnly [.sl, .ds] s t) ∧
            (dataReady s = none → t.sl.tx = some .fill ∧ ChangesOnly [.sl] s t)))) ∧
      ((s.sl.state ≠ .ready ∨ s.mu.stream = .halt) → dataReady s = none) ∧
      (∀ h, dataReady s = some h → ∃ f b i, (s.ds.halves[h]).state = .loaded ∧ (s.ds.halves[h]).frame = some f ∧
        nextFrame s.rm s.ds.slot = some (b, i) ∧ f.block = b ∧ f.frame = i) ∧
      ∀ (before rest : List SlotEntry) (e : SlotEntry) (h : Fin 2) (f : HalfFrame), s.sl.state = .ready → s.mu.stream ≠ .halt →
        s.ds.slot = before ++ e :: rest → (∀ x ∈ before, ((s.rm.block x.block).bytesUsed + 4095) / 4096 ≤ x.begun) →
        e.begun < ((s.rm.block e.block).bytesUsed + 4095) / 4096 →
        s.ds.halves[h] = ⟨.loaded, some f⟩ → f.block = e.block → f.frame = e.begun →
        (∀ (h' : Fin 2) (f' : HalfFrame), h' ≠ h → s.ds.halves[h'] = ⟨.loaded, some f'⟩ → f'.block = e.block → f'.frame ≠ e.begun) →
        dataReady s = some h

/-- The ends of HELLO, REPLY, MARK and FILL frames: HELLO sent becomes yes but for a HELLO begun before a stream reset; the reply leaves
its queue; the mark leaves its queue and every CLOSING channel with a gap offers it again: with room left in the Mark Queue none of them
keeps its gap, and one that gives up its gap is IDLE when its staging is written; but for a MARK begun before a stream reset (R39, R132,
R136, R148, R151, R155). -/
def Obligations.FrameEndsReachTheirSource : Prop :=
  (∀ (s : State) (h : Hello) (counts : Bool), s.su.resetLow = false → s.sl.tx = some (.hello h counts) →
    ∃ t, exec .helloFrameEnd s = .next t ∧
      t = { s with sl := { s.sl with tx := none, helloSent := s.sl.helloSent || counts } }) ∧
  (∀ (s : State) (r : Reply), s.su.resetLow = false → s.sl.tx = some (.reply r) →
    ∃ t, exec .replyFrameEnd s = .next t ∧ t.sl = { s.sl with tx := none } ∧ t.mu.replyInTx = false ∧
      (∃ more, t.mu.replies = s.mu.replies.tail ++ more) ∧ t.mu.stream = s.mu.stream ∧
      (s.mu.queue = [] → t.mu = { s.mu with replies := s.mu.replies.tail, replyInTx := false }) ∧ ChangesOnly [.sl, .mu] s t) ∧
  (∀ (s : State) (m : Mark) (live : Bool), s.su.resetLow = false → s.sl.tx = some (.mark m live) →
    ∃ t, exec .markFrameEnd s = .next t ∧ t.sl = { s.sl with tx := none } ∧
      (live = false → t = { s with sl := { s.sl with tx := none } }) ∧
      (live = true →
        t.marks.headInTx = false ∧ t.marks.skip = s.marks.skip ∧
        (∃ offered, t.marks.queue = s.marks.queue.tail ++ offered ∧
          ∀ x ∈ offered, ∃ (c : ChannelId) (g : Gap), x = .gap g ∧ (s.chans[c]).state = .closing ∧ (s.chans[c]).gap = some g ∧
            (t.chans[c]).gap = none) ∧
        (∀ c : ChannelId, (s.chans[c]).state ≠ .closing ∨ (s.chans[c]).gap = none → t.chans[c] = s.chans[c]) ∧
        (∀ c : ChannelId, (s.chans[c]).state = .closing → (s.chans[c]).gap ≠ none → (t.chans[c]).gap = none →
          t.chans[c] = { s.chans[c] with
            gap := none
            state := if (s.chans[c]).runs = [] ∧ (s.chans[c]).waiting = [] then .idle else .closing } ∧
          ∀ g, (s.chans[c]).gap = some g → g.count ≠ 0#64 → Mark.gap g ∈ t.marks.queue) ∧
        (∀ c : ChannelId, (t.chans[c]).gap ≠ none → t.chans[c] = s.chans[c]) ∧
        (t.marks.queue.length < 64 → ∀ c : ChannelId, (s.chans[c]).state = .closing → (t.chans[c]).gap = none)) ∧
      ChangesOnly [.sl, .marks, .chans, .orders] s t) ∧
  ∀ s : State, s.su.resetLow = false → s.sl.tx = some .fill →
    ∃ t, exec .fillFrameEnd s = .next t ∧ t = { s with sl := { s.sl with tx := none } }

/-- DATA_FRAME_END: the half is EMPTY and may claim its next load; before its last frame's end the block stays at the head of the slot,
its descriptor as it was; at the end of its block's last frame the block leaves the slot,
SENT in the SENT list, or released when covered, and transmitted_through takes its sequence when that lies after it (R82, R84, R117,
R119). -/
def Obligations.DataFrameEndFinishesTheBlock : Prop :=
  ∀ (s : State) (h : Fin 2) (f : HalfFrame) (e : SlotEntry) (rest : List SlotEntry), s.su.resetLow = false → BlocksCollected s →
    s.sl.tx = some (.data h) → (s.ds.halves[h]).frame = some f → s.ds.slot = e :: rest →
    ∃ t, exec .dataFrameEnd s = .next t ∧ t.sl = { s.sl with tx := none } ∧
      ((t.ds.halves[h]).state = .empty ∨ (t.ds.halves[h]).state = .loading) ∧ t.ds.granted = s.ds.granted ∧
      t.ds.committed = s.ds.committed ∧
      (f.frame + 1 ≠ f.frameCount → t.ds.sent = s.ds.sent ∧ t.ds.transmitted = s.ds.transmitted ∧ t.rm.free = s.rm.free ∧
        t.rm.block e.block = s.rm.block e.block ∧
        ∃ e' later, t.ds.slot = e' :: later ∧ e'.block = e.block ∧ e'.seq = e.seq ∧ e'.covered = e.covered ∧ e'.resend = e.resend ∧
          e'.begun = e.begun) ∧
      (f.frame + 1 = f.frameCount →
        t.ds.transmitted = (if 1 ≤ (e.seq - s.ds.transmitted).toNat ∧ (e.seq - s.ds.transmitted).toNat < 2147483648
          then e.seq else s.ds.transmitted) ∧
        (∀ x ∈ t.ds.slot, x.block ≠ e.block) ∧
        (e.covered = false → ⟨e.block, e.seq⟩ ∈ t.ds.sent ∧ (∀ m ∈ s.ds.sent, m ∈ t.ds.sent) ∧
          t.ds.sent.length = s.ds.sent.length + 1 ∧ t.rm.block e.block = { s.rm.block e.block with state := .sent }) ∧
        (e.covered = true → t.ds.sent = s.ds.sent ∧
          ((s.rm.block e.block).pins = 0 → t.rm.block e.block = .cleared .free ∧
            t.rm.freeCount = s.rm.freeCount + 1 ∧ t.rm.level = pressureLevel s.ts.settings t.rm.freeCount s.rm.level) ∧
          ((s.rm.block e.block).pins ≠ 0 → t.rm.block e.block = { s.rm.block e.block with state := .retired } ∧
            t.rm.freeCount = s.rm.freeCount ∧ t.rm.level = s.rm.level))) ∧
      ChangesOnly [.sl, .ds, .rm, .planes] s t

/-- FLOW_FRAME: granted_through rises when the value lies after it and within serial order of committed_through; committed_through
rises to the value, clamped to transmitted_through; every SENT or REDRAIN block it then covers is FREE, or RETIRED while pinned, and the
others keep their place and their descriptor, but for a REDRAIN block that is selected into the SENDING slot at once; the slot's blocks
stay in it, those the commit reaches marked covered; a FLOW in SYNC_WAIT with HELLO sent yes makes the link READY; the receive-silence
timer starts again (R82, R84, R85, R113, R120, R121, R140, R142, R149). -/
def Obligations.FlowGrantsCommitsAndMakesReady : Prop :=
  ∀ (s : State) (g m : Word32), s.su.resetLow = false → (s.sl.state = .syncWait ∨ s.sl.state = .ready) → DrainOrdered s.ds →
    BlocksCollected s →
    ∃ t, exec (.flowFrame g m) s = .next t ∧
      t.ds.granted = (if 1 ≤ (g - s.ds.granted).toNat ∧ (g - s.ds.granted).toNat < 2147483648 ∧
        (g - s.ds.committed).toNat < 2147483648 then g else s.ds.granted) ∧
      t.ds.committed = (if 1 ≤ (m - s.ds.committed).toNat ∧ (m - s.ds.committed).toNat < 2147483648
        then (if (m - s.ds.committed).toNat ≤ (s.ds.transmitted - s.ds.committed).toNat then m else s.ds.transmitted)
        else s.ds.committed) ∧
      t.ds.transmitted = s.ds.transmitted ∧
      (∀ x, x ∈ t.ds.sent ↔ x ∈ s.ds.sent ∧ 1 ≤ (x.seq - t.ds.committed).toNat ∧ (x.seq - t.ds.committed).toNat < 2147483648) ∧
      (∀ x, x ∈ t.ds.redrain → x ∈ s.ds.redrain ∧ 1 ≤ (x.seq - t.ds.committed).toNat ∧ (x.seq - t.ds.committed).toNat < 2147483648) ∧
      (∀ x ∈ s.ds.redrain, 1 ≤ (x.seq - t.ds.committed).toNat → (x.seq - t.ds.committed).toNat < 2147483648 →
        (x ∈ t.ds.redrain ∧ t.rm.block x.block = s.rm.block x.block) ∨
        (∃ e ∈ t.ds.slot, e.block = x.block ∧ e.seq = x.seq ∧ e.covered = false ∧ e.resend = true) ∧
          t.rm.block x.block = { s.rm.block x.block with state := .sending }) ∧
      (∀ x ∈ t.ds.sent, t.rm.block x.block = s.rm.block x.block) ∧
      (∀ e ∈ s.ds.slot, t.rm.block e.block = s.rm.block e.block ∧
        ∃ e' ∈ t.ds.slot, e'.block = e.block ∧ e'.seq = e.seq ∧ e'.resend = e.resend ∧ e'.begun = e.begun ∧
          (e'.covered = true ↔ e.covered = true ∨
            ¬ (1 ≤ (e.seq - t.ds.committed).toNat ∧ (e.seq - t.ds.committed).toNat < 2147483648))) ∧
      t.rm.level = (if t.rm.freeCount = s.rm.freeCount then s.rm.level
        else pressureLevel s.ts.settings t.rm.freeCount s.rm.level) ∧
      (∀ x, x ∈ s.ds.sent ∨ x ∈ s.ds.redrain → ¬ (1 ≤ (x.seq - t.ds.committed).toNat ∧ (x.seq - t.ds.committed).toNat < 2147483648) →
        t.rm.block x.block = if (s.rm.block x.block).pins = 0 then .cleared .free else { s.rm.block x.block with state := .retired }) ∧
      (s.rm.freeCount ≤ t.rm.freeCount) ∧
      (s.sl.state = .syncWait → s.sl.helloSent = true →
        t.sl.state = .ready ∧ t.sl.helloDue = false ∧ t.sl.helloTimer = none ∧ t.sl.reason = .linkUp) ∧
      ((s.sl.state = .ready ∨ s.sl.helloSent = false) → t.sl.state = s.sl.state ∧ t.sl.reason = s.sl.reason) ∧
      t.sl.silenceTimer = some 1 ∧ t.sl.tx = s.sl.tx ∧ t.sl.rejected = s.sl.rejected ∧ ChangesOnly [.sl, .ds, .rm, .planes] s t

/-- REQUEST_FRAME, RETURN_FILL_FRAME and RETURN_FRAME_REJECTED on an up link: a request joins the tail of a queue of fewer than 4 and
is otherwise discarded with REQUEST_OVERFLOW set; it starts at once when MU is free and a reply has room, or is answered BUSY in INIT;
valid frames start the receive-silence timer again; a rejected frame is counted up to 65535 and does not (R142, R146, R150, R154,
R155, R157). -/
def Obligations.ReturnFramesReachTheirOwner : Prop :=
  (∀ (s : State) (r : Request), s.su.resetLow = false → (s.sl.state = .syncWait ∨ s.sl.state = .ready) →
    ∃ t, exec (.requestFrame r.tag r.kind r.contents) s = .next t ∧ t.sl = { s.sl with silenceTimer := some 1 } ∧
      ChangesOnly [.sl, .mu] s t ∧
      (4 ≤ s.mu.queue.length → t.mu = { s.mu with overflow := true }) ∧
      (s.mu.queue.length < 4 → (s.mu.inProgress ≠ none ∨ 4 ≤ s.mu.replies.length) →
        t.mu = { s.mu with queue := s.mu.queue ++ [r] }) ∧
      (s.mu.queue = [] → s.mu.inProgress = none → s.mu.replies.length < 4 →
        (s.mu.stream = .init →
          t.mu = { s.mu with replies := s.mu.replies ++ [⟨r.tag, r.kind, .busy, [], s.mu.overflow⟩], overflow := false }) ∧
        (s.mu.stream ≠ .init → r.row ≠ none → t.mu = { s.mu with inProgress := some r }) ∧
        (s.mu.stream ≠ .init → r.row = none →
          t.mu = { s.mu with replies := s.mu.replies ++ [⟨r.tag, r.kind, .badArg, [], s.mu.overflow⟩], overflow := false }))) ∧
  (∀ s : State, s.su.resetLow = false → (s.sl.state = .syncWait ∨ s.sl.state = .ready) →
    ∃ t, exec .returnFillFrame s = .next t ∧ t = { s with sl := { s.sl with silenceTimer := some 1 } }) ∧
  ∀ (s : State) (bytes : List Byte), s.su.resetLow = false → (s.sl.state = .syncWait ∨ s.sl.state = .ready) →
    decodeReturnFrame bytes = none →
    ∃ t, exec (.returnFrameRejected bytes) s = .next t ∧
      t = { s with sl := { s.sl with rejected := (if s.sl.rejected < 65535 then s.sl.rejected + 1 else s.sl.rejected) } }

/-! ## Table requests (01, 02, 03, 09) -/

/-- R43. A TABLE_WRITE to a Profile Table entry: BAD_ARG for a profile number above 7, for a mode or width code that names nothing and
for PASS with a factor other than 1, the table as it was; otherwise OK with the entry whole, every encoding of factor, record_len and
offset accepted, and record_len clamped to 16 and under PEAK to an even number; immediate when no channel that is not IDLE names the
profile, else staged (R44). -/
def Obligations.ProfileWritesAreCheckedAndClamped : Prop :=
  (∀ (s : State) (tag k z1 z2 f0 f1 r0 r1 o0 o1 m w : Byte),
    let r : Request := ⟨tag, 1#8, [2#8, k, z1, z2, f0, f1, r0, r1, o0, o1, m, w]⟩
    let factor := f0.toNat + 256 * f1.toNat + 1
    let asked := r0.toNat + 256 * r1.toNat + 1
    let raised := if asked < 16 then 16 else asked
    let kept := if m = 3#8 ∧ raised % 2 = 1 then raised + 1 else raised
    Serving r s → ∃ t, exec .tableWriteProfile s = .next t ∧ t.mu.stream = s.mu.stream ∧ ChangesOnly [.ts, .mu] s t ∧
      ((8 ≤ k.toNat ∨ 4 ≤ m.toNat ∨ (w ≠ 8#8 ∧ w ≠ 12#8 ∧ w ≠ 16#8) ∨ (m = 0#8 ∧ factor ≠ 1)) →
        Answered r .badArg [] s t ∧ t.ts = s.ts) ∧
      (∀ hk : k.toNat < 8, m.toNat < 4 → (w = 8#8 ∨ w = 12#8 ∨ w = 16#8) → (m = 0#8 → factor = 1) →
        Answered r .ok [] s t ∧
        (∀ j : Fin 8, j ≠ ⟨k.toNat, hk⟩ → t.ts.profiles[j] = s.ts.profiles[j]) ∧
        t.ts = { s.ts with profiles := t.ts.profiles } ∧
        ∃ p : Profile, p.factor = factor ∧ p.recordLen = kept ∧ p.offset = (BitVec.ofNat 16 (o0.toNat + 256 * o1.toNat)).toInt ∧
          BitVec.ofNat 8 p.mode.code = m ∧ p.width.bits = w.toNat ∧
          t.ts.profiles[(⟨k.toNat, hk⟩ : Fin 8)] =
            if profileReferenced s ⟨k.toNat, hk⟩ then { s.ts.profiles[(⟨k.toNat, hk⟩ : Fin 8)] with pending := some p }
            else ⟨p, none⟩)) ∧
  (∀ (x : Int) (index frame : Word64), stage1 .pick (groupOf x [] index frame) = [x] ∧ stage1 .mean (groupOf x [] index frame) = [x] ∧
    stage1 .peak (groupOf x [] index frame) = [x, x]) ∧
  clampRecordLen .peak 17 = 18 ∧ clampRecordLen .peak 15 = 16 ∧ clampRecordLen .peak 65535 = 65536 ∧
  ∀ mode : Mode, clampRecordLen mode 1 = 16

/-- TABLE_WRITE to the Slot Map and to the Channel Table: BAD_ARG for a number beyond the table or a field code that names nothing, with the
tables as they were; else OK, immediate in INIT and STANDBY and for an IDLE channel, staged otherwise (R14, R20, R158). -/
def Obligations.SlotMapAndChannelWritesApplyOrWait : Prop :=
  (∀ (s : State) (tag k z1 z2 v y1 y2 y3 : Byte),
    let r : Request := ⟨tag, 1#8, [1#8, k, z1, z2, v, y1, y2, y3]⟩
    Serving r s → ∃ t, exec .tableWriteSlotMap s = .next t ∧ t.mu.stream = s.mu.stream ∧ ChangesOnly [.ts, .mu] s t ∧
      ((32 ≤ k.toNat ∨ (16 ≤ v.toNat ∧ v ≠ 31#8)) → Answered r .badArg [] s t ∧ t.ts = s.ts) ∧
      ∀ hk : k.toNat < 32, (v.toNat < 16 ∨ v = 31#8) →
        Answered r .ok [] s t ∧ ∃ x : Option ChannelId, slotMapBytes x = [v, 0#8, 0#8, 0#8] ∧
          t.ts = { s.ts with slotMap := t.ts.slotMap } ∧ t.ts.slotMap = put s.ts.slotMap ⟨k.toNat, hk⟩
            (if s.mu.stream = .standby then ⟨x, none⟩ else ⟨(s.ts.slotMap[(⟨k.toNat, hk⟩ : Fin 32)]).current, some x⟩)) ∧
  (∀ (s : State) (tag k z1 z2 pa pb pf zone cls policy age0 age1 atSweep startAt auto z3 : Byte),
    let r : Request :=
      ⟨tag, 1#8, [3#8, k, z1, z2, pa, pb, pf, zone, cls, policy, age0, age1, atSweep, startAt, auto, z3]⟩
    Serving r s →
    (16 ≤ k.toNat ∨ 8 ≤ pa.toNat ∨ 8 ≤ pb.toNat ∨ 8 ≤ pf.toNat ∨ 5 ≤ zone.toNat ∨ 4 ≤ cls.toNat ∨ 3 ≤ policy.toNat ∨
      2 ≤ atSweep.toNat ∨ 2 ≤ startAt.toNat ∨ 2 ≤ auto.toNat) →
    ∃ t, exec .tableWriteChannel s = .next t ∧ t.mu.stream = s.mu.stream ∧ ChangesOnly [.mu] s t ∧ Answered r .badArg [] s t) ∧
  ∀ (s : State) (tag k z1 z2 : Byte) (x : ChannelConfig), x.sealAgeMs ≤ 65535 →
    let r : Request := ⟨tag, 1#8, [3#8, k, z1, z2] ++ x.bytes⟩
    Serving r s → ∃ t, exec .tableWriteChannel s = .next t ∧ t.mu.stream = s.mu.stream ∧ ChangesOnly [.ts, .mu] s t ∧
      (16 ≤ k.toNat → Answered r .badArg [] s t ∧ t.ts = s.ts) ∧
      ∀ hk : k.toNat < 16,
        Answered r .ok [] s t ∧
        t.ts = { s.ts with channels := t.ts.channels } ∧ t.ts.channels = put s.ts.channels ⟨k.toNat, hk⟩
          (if (s.chans[(⟨k.toNat, hk⟩ : ChannelId)]).state = .idle then ⟨x, none⟩
            else ⟨(s.ts.channels[(⟨k.toNat, hk⟩ : ChannelId)]).current, some x⟩)

/-- TABLE_WRITE to Settings: BAD_ARG outside the ranges, REFUSED for another plane_mask outside STANDBY, both with nothing changed;
otherwise the weights and marks take effect at once, and slot_count at once in STANDBY and as the pending copy in RUN, PAUSE and HALT;
with the marks and plane_mask as they were the pressure level is kept. In STANDBY another plane_mask is REFUSED when it names no plane,
drops a plane with a block that is not FREE or adds a FAULTY one; otherwise a plane dropped is OFFLINE without a free list, a READY one
added has every block FREE in increasing order, and pressure is evaluated (R15, R75, R90, R125, R159). -/
def Obligations.SettingsTakeEffectByField : Prop :=
  ∀ (s : State) (tag z1 z2 : Byte) (x : Settings),
    let r : Request := ⟨tag, 1#8, [4#8, 0#8, z1, z2] ++ x.bytes⟩
    Serving r s → ∃ t, exec .tableWriteSettings s = .next t ∧ t.mu.stream = s.mu.stream ∧
      ChangesOnly [.ts, .mu, .rm, .ds, .planes] s t ∧
      (SettingsInRange x → x.planeMask ≠ s.ts.settings.planeMask → s.mu.stream ≠ .standby →
        Answered r .refused [] s t ∧ t.ts = s.ts) ∧
      (SettingsInRange x → x.planeMask = s.ts.settings.planeMask →
        Answered r .ok [] s t ∧
        t.ts = { s.ts with
          settings := { x with slotCount := if s.mu.stream = .standby then x.slotCount else s.ts.settings.slotCount }
          pendingSlotCount := if s.mu.stream = .standby then none else some x.slotCount } ∧
        t.rm.free = s.rm.free ∧
        t.rm.level = (if x.tightMark = s.ts.settings.tightMark ∧ x.criticalMark = s.ts.settings.criticalMark ∧
          x.hysteresis = s.ts.settings.hysteresis then s.rm.level else pressureLevel x s.rm.freeCount s.rm.level)) ∧
      (SettingsInRange x → x.planeMask ≠ s.ts.settings.planeMask → s.mu.stream = .standby → BlocksCollected s →
        let was := fun p : PlaneId => inPlaneSet s.ts.settings.planeMask p
        let asked := fun p : PlaneId => inPlaneSet x.planeMask p
        let allowed := x.planeMask ≠ 0#4 ∧ ∀ p : PlaneId,
          (was p = true → asked p = false → ∀ b, b < 8192 → planeOf b = p → (s.rm.block b).state = .free) ∧
          (was p = false → asked p = true → (s.planes[p]).state ≠ .faulty)
        (¬ allowed → Answered r .refused [] s t ∧ t.ts = s.ts ∧ t.rm.free = s.rm.free ∧ t.rm.level = s.rm.level) ∧
        (allowed → Answered r .ok [] s t ∧ t.ts = { s.ts with settings := x, pendingSlotCount := none } ∧
          (∀ p : PlaneId, t.rm.free[p] = if asked p = true then
            (if was p = true then s.rm.free[p] else if (s.planes[p]).state = .ready then some (planeBlocks p) else none) else none) ∧
          (∀ b, b < 8192 →
            (asked (planeOf b) = true → was (planeOf b) = true → KeptOrSelected (s.rm.block b) (t.rm.block b)) ∧
            (asked (planeOf b) = true → was (planeOf b) = false → (s.planes[planeOf b]).state = .ready →
              t.rm.block b = .cleared .free) ∧
            (asked (planeOf b) = false → t.rm.block b = .cleared .offline)) ∧
          (x.tightMark = s.ts.settings.tightMark → x.criticalMark = s.ts.settings.criticalMark →
            x.hysteresis = s.ts.settings.hysteresis → t.rm.level = pressureLevel x t.rm.freeCount s.rm.level))) ∧
      (x.slotCount < 256 → x.tightMark < 65536 → x.criticalMark < 65536 → x.hysteresis < 65536 →
        (∀ k : ClassId, x.weights[k] < 256) → ¬ SettingsInRange x → Answered r .badArg [] s t ∧ t.ts = s.ts)

/-- R45. A TABLE_READ of a Profile Table entry gives the current entry and, when present, the pending copy, as TS holds them, clamped,
and changes nothing; a device reset sets the eight defaults with no pending copy; a stream reset applies the pending copies with every
channel IDLE. -/
def Obligations.ProfileReadsAndResets : Prop :=
  (∀ (s : State) (tag z1 z2 : Byte) (k : Fin 8),
    let r : Request := ⟨tag, 2#8, [2#8, byteOf k.val, z1, z2]⟩
    Serving r s → ∃ t, exec .tableRead s = .next t ∧ t.mu.stream = s.mu.stream ∧ ChangesOnly [.mu] s t ∧
      (∀ p, s.ts.profiles[k] = ⟨p, none⟩ → Answered r .ok ([2#8, byteOf k.val, 0#8, 0#8] ++ p.bytes) s t) ∧
      ∀ p q, s.ts.profiles[k] = ⟨p, some q⟩ → Answered r .ok ([2#8, byteOf k.val, 1#8, 0#8] ++ p.bytes ++ q.bytes) s t) ∧
  (∀ (s : State) (straps : BitVec 2), ∃ t, exec (.deviceReset straps) s = .next t ∧
    ∀ k : Fin 8, t.ts.profiles[k] = ⟨⟨1, .pass, .w16, 0, 1024⟩, none⟩) ∧
  ∀ (s : State) (tag z1 z2 z3 : Byte), Serving ⟨tag, 8#8, [1#8, z1, z2, z3]⟩ s →
    ∃ t, exec .resetStream s = .next t ∧ (∀ c : ChannelId, (t.chans[c]).state = .idle) ∧
      ∀ k : Fin 8, (t.ts.profiles[k]).pending = none ∧
        (t.ts.profiles[k]).current = ((s.ts.profiles[k]).pending).getD (s.ts.profiles[k]).current

/-- TABLE_READ of a Channel Table entry gives the configuration, the pending copy when there is one, and the runtime part: state, run,
cause set, next index; of a Slot Map entry and of Settings the current content and the pending copy when there is one; a table code or a
number that names nothing is BAD_ARG; the read changes nothing (R22, R160, R184). -/
def Obligations.ChannelReadsShowTheRuntimePart : Prop :=
  (∀ (s : State) (tag k z1 z2 : Byte),
    let r : Request := ⟨tag, 2#8, [3#8, k, z1, z2]⟩
    Serving r s → ∃ t, exec .tableRead s = .next t ∧ t.mu.stream = s.mu.stream ∧ ChangesOnly [.mu] s t ∧
      (16 ≤ k.toNat → Answered r .badArg [] s t) ∧
      ∀ hk : k.toNat < 16, ∀ x pending, s.ts.channels[(⟨k.toNat, hk⟩ : ChannelId)] = ⟨x, pending⟩ →
        let ch := s.chans[(⟨k.toNat, hk⟩ : ChannelId)]
        Answered r .ok ([3#8, k, (match pending with | some _ => 1#8 | none => 0#8), 0#8] ++ x.bytes ++
          (match pending with | some y => y.bytes | none => []) ++
          [ch.state.code, ch.run, (match ch.gap with | some g => g.causes.setWidth 8 | none => 0#8), 0#8]
          ++ leBytes 8 ch.nextIndex.toNat) s t) ∧
  (∀ (s : State) (tag k z1 z2 : Byte),
    let r : Request := ⟨tag, 2#8, [1#8, k, z1, z2]⟩
    Serving r s → ∃ t, exec .tableRead s = .next t ∧ t.mu.stream = s.mu.stream ∧ ChangesOnly [.mu] s t ∧
      (32 ≤ k.toNat → Answered r .badArg [] s t) ∧
      ∀ hk : k.toNat < 32, ∀ x, (s.ts.slotMap[(⟨k.toNat, hk⟩ : Fin 32)]).current = x →
        ((s.ts.slotMap[(⟨k.toNat, hk⟩ : Fin 32)]).pending = none → Answered r .ok ([1#8, k, 0#8, 0#8] ++ slotMapBytes x) s t) ∧
        ∀ y, (s.ts.slotMap[(⟨k.toNat, hk⟩ : Fin 32)]).pending = some y →
          Answered r .ok ([1#8, k, 1#8, 0#8] ++ slotMapBytes x ++ slotMapBytes y) s t) ∧
  (∀ (s : State) (tag k z1 z2 : Byte),
    let r : Request := ⟨tag, 2#8, [4#8, k, z1, z2]⟩
    Serving r s → ∃ t, exec .tableRead s = .next t ∧ t.mu.stream = s.mu.stream ∧ ChangesOnly [.mu] s t ∧
      (1 ≤ k.toNat → Answered r .badArg [] s t) ∧
      (k = 0#8 → s.ts.pendingSlotCount = none → Answered r .ok ([4#8, 0#8, 0#8, 0#8] ++ s.ts.settings.bytes) s t) ∧
      ∀ n, k = 0#8 → s.ts.pendingSlotCount = some n →
        Answered r .ok ([4#8, 0#8, 1#8, 0#8] ++ s.ts.settings.bytes ++ ({ s.ts.settings with slotCount := n }).bytes) s t) ∧
  ∀ (s : State) (tag table k z1 z2 : Byte),
    let r : Request := ⟨tag, 2#8, [table, k, z1, z2]⟩
    Serving r s → (table.toNat = 0 ∨ 4 < table.toNat ∨ (table = 2#8 ∧ 8 ≤ k.toNat)) →
    ∃ t, exec .tableRead s = .next t ∧ t.mu.stream = s.mu.stream ∧ ChangesOnly [.mu] s t ∧ Answered r .badArg [] s t

/-! ## Stream and channel commands (02, 09) -/

/-- R161. The five stream commands: taken from their states with OK and the new state, REFUSED from any other with nothing changed but
the reply; a code that names none is BAD_ARG; INIT is reached by a device reset alone and left at the end of start-up for STANDBY or RUN;
a stream reset puts the stream in STANDBY. -/
def Obligations.StreamCommandsFollowTheirTable : Prop :=
  (∀ (cmd : Instr) (code : Byte) (sources : List StreamState) (target : StreamState),
    (cmd, code, sources, target) ∈
      [((.streamRun : Instr), 1#8, [.standby], StreamState.run), (.streamPause, 2#8, [.run], .pause),
       (.streamHalt, 3#8, [.run, .pause], .halt), (.streamResume, 4#8, [.pause, .halt], .run),
       (.streamStandby, 5#8, [.run, .pause, .halt], .standby)] →
    ∀ (s : State) (tag z1 z2 z3 : Byte), Serving ⟨tag, 3#8, [code, z1, z2, z3]⟩ s →
      ∃ t, exec cmd s = .next t ∧
        (s.mu.stream ∈ sources → t.mu.stream = target ∧ Answered ⟨tag, 3#8, [code, z1, z2, z3]⟩ .ok [] s t) ∧
        (s.mu.stream ∉ sources → t.mu.stream = s.mu.stream ∧ Answered ⟨tag, 3#8, [code, z1, z2, z3]⟩ .refused [] s t ∧
          ChangesOnly [.mu, .rm, .ds, .planes] s t ∧ t.rm.free = s.rm.free ∧
          ∀ b, KeptOrSelected (s.rm.block b) (t.rm.block b))) ∧
  (∀ (s : State) (tag code : Byte) (rest : List Byte), s.su.resetLow = false → (s.sl.state = .syncWait ∨ s.sl.state = .ready) →
    s.mu.queue = [] → s.mu.inProgress = none → s.mu.replies.length < 4 → s.mu.stream ≠ .init →
    (code.toNat = 0 ∨ 5 < code.toNat) →
    ∃ t, exec (.requestFrame tag 3#8 (code :: rest)) s = .next t ∧ t.mu.stream = s.mu.stream ∧
      t.mu.replies = s.mu.replies ++ [⟨tag, 3#8, .badArg, [], s.mu.overflow⟩] ∧ t.mu.inProgress = none) ∧
  (∀ (c : Instr) (s t : State), exec c s = .next t → s.mu.stream ≠ .init → t.mu.stream = .init →
    ∃ straps, c = .deviceReset straps ∨ c = .resetDevice straps) ∧
  (∀ (c : Instr) (s t : State), exec c s = .next t → s.mu.stream = .init → t.mu.stream ≠ .init →
    t.su.phase = .done ∧ (t.mu.stream = .standby ∨ t.mu.stream = .run) ∧
      (c = .settleTimerExpiry ∨ ∃ image, c = .flashReadComplete image)) ∧
  ∀ (s : State) (tag z1 z2 z3 : Byte), Serving ⟨tag, 8#8, [1#8, z1, z2, z3]⟩ s →
    ∃ t, exec .resetStream s = .next t ∧ t.mu.stream = .standby

/-- What a stream command does to the channels: RUN and RESUME nothing; PAUSE, and HALT from RUN, take every ACTIVE channel into LOSS and
add HELD to every gap; HALT from PAUSE nothing; STANDBY makes ARMED channels IDLE and stops the ACTIVE and LOSS ones; marks, tables and
memory keep as the rules say (R32, R38, R41, R162). -/
def Obligations.StreamChangesReachTheChannels : Prop :=
  (∀ (s : State) (tag z1 z2 z3 : Byte), Serving ⟨tag, 3#8, [1#8, z1, z2, z3]⟩ s → s.mu.stream = .standby →
    ∃ t, exec .streamRun s = .next t ∧ ChangesOnly [.mu] s t) ∧
  (∀ (s : State) (tag z1 z2 z3 : Byte), Serving ⟨tag, 3#8, [4#8, z1, z2, z3]⟩ s → (s.mu.stream = .pause ∨ s.mu.stream = .halt) →
    ∃ t, exec .streamResume s = .next t ∧ ChangesOnly [.mu, .rm, .ds, .planes] s t ∧
      (∀ b, KeptOrSelected (s.rm.block b) (t.rm.block b)) ∧ t.rm.free = s.rm.free) ∧
  (∀ (s : State) (tag z1 z2 z3 : Byte), Serving ⟨tag, 3#8, [3#8, z1, z2, z3]⟩ s → s.mu.stream = .pause →
    ∃ t, exec .streamHalt s = .next t ∧ ChangesOnly [.mu, .planes] s t) ∧
  (∀ (s : State) (tag z1 z2 z3 : Byte) (cmd : Instr) (code : Byte),
    (cmd = .streamPause ∧ code = 2#8) ∨ (cmd = .streamHalt ∧ code = 3#8) →
    Serving ⟨tag, 3#8, [code, z1, z2, z3]⟩ s → s.mu.stream = .run → ChannelsSound s →
    ∃ t, exec cmd s = .next t ∧ ChangesOnly [.mu, .chans, .rm, .ds, .planes, .orders] s t ∧
      ∀ c : ChannelId,
        (((s.chans[c]).state = .idle ∨ (s.chans[c]).state = .armed ∨ (s.chans[c]).state = .closing) → t.chans[c] = s.chans[c]) ∧
        (((s.chans[c]).state = .active ∨ (s.chans[c]).state = .loss) → (t.chans[c]).state = .loss ∧
          (t.chans[c]).nextIndex = (s.chans[c]).nextIndex ∧ (t.chans[c]).record = none ∧ (t.chans[c]).group = none ∧
          ∃ g, (t.chans[c]).gap = some g ∧ g.causes.getLsbD 4 = true ∧
            ((s.chans[c]).state = .loss → ∃ g', (s.chans[c]).gap = some g' ∧ g = { g' with causes := g'.causes ||| 16#5 }) ∧
            ((s.chans[c]).state = .active → (s.chans[c]).group = none →
              g = ⟨c, (s.chans[c]).run, (s.chans[c]).nextIndex, 0#64, none, .held, 16#5⟩))) ∧
  ∀ (s : State) (tag z1 z2 z3 : Byte), Serving ⟨tag, 3#8, [5#8, z1, z2, z3]⟩ s →
    (s.mu.stream = .run ∨ s.mu.stream = .pause ∨ s.mu.stream = .halt) → ChannelsSound s →
    ∃ t, exec .streamStandby s = .next t ∧ ChangesOnly [.mu, .chans, .rm, .ds, .planes, .marks, .orders] s t ∧
      ∀ c : ChannelId, (t.chans[c]).run = (s.chans[c]).run ∧ (t.chans[c]).filling = none ∧ (t.chans[c]).record = none ∧
        ((s.chans[c]).state = .armed → (t.chans[c]).state = .idle) ∧
        (((s.chans[c]).state = .idle ∨ (s.chans[c]).state = .closing) → t.chans[c] = s.chans[c]) ∧
        (((s.chans[c]).state = .active ∨ (s.chans[c]).state = .loss) →
          (t.chans[c]).state = if (t.chans[c]).gap = none ∧ (t.chans[c]).runs = [] ∧ (t.chans[c]).waiting = [] then .idle else .closing)

/-- CHANNEL_START: an IDLE channel is ARMED with the next run number, a CLOSING one answers BUSY, any other REFUSED, a channel above 15 is
BAD_ARG; nothing else changes (R23, R164). -/
def Obligations.StartArmsAnIdleChannel : Prop :=
  (∀ (s : State) (tag z1 z2 : Byte) (c : ChannelId),
    let r : Request := ⟨tag, 4#8, [byteOf c.val, 1#8, z1, z2]⟩
    Serving r s → ∃ t, exec .channelStart s = .next t ∧ t.mu.stream = s.mu.stream ∧ ChangesOnly [.chans, .mu] s t ∧
      ((s.chans[c]).state = .idle → Answered r .ok [] s t ∧
        t.chans = put s.chans c { s.chans[c] with state := .armed, run := (s.chans[c]).run + 1#8 }) ∧
      ((s.chans[c]).state = .closing → Answered r .busy [] s t ∧ t.chans = s.chans) ∧
      ((s.chans[c]).state ≠ .idle → (s.chans[c]).state ≠ .closing → Answered r .refused [] s t ∧ t.chans = s.chans)) ∧
  ∀ (s : State) (tag k code z1 z2 : Byte) (cmd : Instr), 16 ≤ k.toNat →
    ((cmd = .channelStart ∧ code = 1#8) ∨ (cmd = .channelStop ∧ code = 2#8) ∨ (cmd = .channelFlush ∧ code = 3#8)) →
    Serving ⟨tag, 4#8, [k, code, z1, z2]⟩ s →
    ∃ t, exec cmd s = .next t ∧ Answered ⟨tag, 4#8, [k, code, z1, z2]⟩ .badArg [] s t ∧ t.chans = s.chans ∧ t.marks = s.marks

/-- CHANNEL_STOP: an ARMED channel becomes IDLE; an ACTIVE or LOSS one gives up its record, its group and its block, which is sealed with
cause STOP when it holds bytes (FULL where the last group's record found no room in it) and freed when it holds none, offers its gap, and is
IDLE exactly when its gap is queued and its staging written, else CLOSING; an IDLE or CLOSING one answers REFUSED (R37, R38, R59, R63, R79,
R81). -/
def Obligations.StopClosesTheRun : Prop :=
  ∀ (s : State) (tag z1 z2 : Byte) (c : ChannelId),
    let r : Request := ⟨tag, 4#8, [byteOf c.val, 2#8, z1, z2]⟩
    Serving r s → ChannelSound s.chans[c] →
    ∃ t, exec .channelStop s = .next t ∧ t.mu.stream = s.mu.stream ∧ OtherChannelsKept c s t ∧
      ChangesOnly [.chans, .mu, .rm, .ds, .planes, .marks] s t ∧ (t.chans[c]).run = (s.chans[c]).run ∧
      ((s.chans[c]).state = .armed → Answered r .ok [] s t ∧ t.chans[c] = { s.chans[c] with state := .idle } ∧ t.marks = s.marks) ∧
      (((s.chans[c]).state = .idle ∨ (s.chans[c]).state = .closing) →
        Answered r .refused [] s t ∧ t.chans[c] = s.chans[c] ∧ t.marks = s.marks) ∧
      (((s.chans[c]).state = .active ∨ (s.chans[c]).state = .loss) →
        Answered r .ok [] s t ∧ (t.chans[c]).filling = none ∧ (t.chans[c]).record = none ∧ (t.chans[c]).group = none ∧
        (t.chans[c]).current = none ∧ (t.chans[c]).nextIndex = (s.chans[c]).nextIndex ∧
        (t.chans[c]).state = (if (t.chans[c]).gap = none ∧ (t.chans[c]).runs = [] ∧ (t.chans[c]).waiting = [] then .idle else .closing) ∧
        ((t.chans[c]).gap ≠ none → 64 ≤ s.marks.queue.length ∧ t.marks = s.marks)) ∧
      ((s.chans[c]).state = .active → BlocksCollected s →
        ((s.chans[c]).group = none → (t.chans[c]).gap = none ∧ t.marks = s.marks) ∧
        ∀ b, (s.chans[c]).filling = some b →
          (0 < (s.rm.block b).bytesUsed → (∀ x, (s.chans[c]).record = some x → 0 < x.valueCount) →
            ((t.rm.block b).state = .sealing ∨ (t.rm.block b).state = .queued ∨ (t.rm.block b).state = .sending) ∧
            (t.rm.block b).cls = some ((s.ts.channels[c]).current).cls ∧
            (∀ cp, (s.chans[c]).current = some cp →
              (t.rm.block b).cause = if (s.chans[c]).record = none ∧ (s.chans[c]).group ≠ none ∧
                  1048576 < (s.rm.block b).bytesUsed + recordSize cp.content.width cp.content.recordLen
                then some .full else some .stop) ∧
            ((s.chans[c]).current = none → (t.rm.block b).cause = some .stop) ∧
            ((s.chans[c]).group = none → RecordClosed .break_ c b s t)) ∧
          ((s.rm.block b).bytesUsed = 0 → (s.chans[c]).group = none → (s.chans[c]).record = none →
            t.rm.block b = .cleared .free ∧ t.rm.freeCount = s.rm.freeCount + 1 ∧
            t.rm.level = pressureLevel s.ts.settings t.rm.freeCount s.rm.level)) ∧
      ((s.chans[c]).state = .loss →
        (∀ g, (s.chans[c]).gap = some g → g.count ≠ 0#64 → s.marks.queue.length < 64 →
          (t.chans[c]).gap = none ∧ t.marks = { s.marks with queue := s.marks.queue ++ [.gap g] }) ∧
        (∀ g, (s.chans[c]).gap = some g → g.count = 0#64 → (t.chans[c]).gap = none ∧ t.marks = s.marks) ∧
        ∀ b, (s.chans[c]).filling = some b → (s.rm.block b).state = .filling →
          (0 < (s.rm.block b).bytesUsed → (t.rm.block b).cause = some .stop ∧
            (t.rm.block b).cls = some ((s.ts.channels[c]).current).cls ∧ (t.rm.block b).bytesUsed = (s.rm.block b).bytesUsed ∧
            ((t.rm.block b).state = .sealing ∨ (t.rm.block b).state = .queued ∨ (t.rm.block b).state = .sending)) ∧
          (BlocksCollected s → (s.rm.block b).bytesUsed = 0 → t.rm.block b = .cleared .free ∧
            t.rm.freeCount = s.rm.freeCount + 1 ∧ t.rm.level = pressureLevel s.ts.settings t.rm.freeCount s.rm.level))

/-- CHANNEL_FLUSH: an ACTIVE or LOSS channel whose block holds bytes closes its record with a SPLIT end, its header WAITING and its size and
count in the block's descriptor, and seals the block with cause FLUSH, going on in its state with its group and profile; any other
channel is unchanged; always OK (R37, R40, R61, R62, R65, R76, R77, R79). -/
def Obligations.FlushSealsTheBlock : Prop :=
  ∀ (s : State) (tag z1 z2 : Byte) (c : ChannelId),
    let r : Request := ⟨tag, 4#8, [byteOf c.val, 3#8, z1, z2]⟩
    Serving r s → ChannelSound s.chans[c] →
    ∃ t, exec .channelFlush s = .next t ∧ t.mu.stream = s.mu.stream ∧ Answered r .ok [] s t ∧ OtherChannelsKept c s t ∧
      ChangesOnly [.chans, .mu, .rm, .ds, .planes] s t ∧ t.rm.free = s.rm.free ∧
      (∀ b, (s.chans[c]).filling = some b → (s.rm.block b).state = .filling → 0 < (s.rm.block b).bytesUsed →
        ((s.chans[c]).state = .active ∨ (s.chans[c]).state = .loss) →
        (t.chans[c]).filling = none ∧ (t.chans[c]).sealTimer = none ∧ (t.chans[c]).record = none ∧
        (t.chans[c]).state = (s.chans[c]).state ∧ (t.chans[c]).group = (s.chans[c]).group ∧
        (t.chans[c]).current = (s.chans[c]).current ∧ (t.chans[c]).gap = (s.chans[c]).gap ∧
        (t.chans[c]).nextIndex = (s.chans[c]).nextIndex ∧
        RecordClosed .split c b s t ∧ (t.rm.block b).cause = some .flush ∧ (t.rm.block b).cls = some ((s.ts.channels[c]).current).cls ∧
        ((t.rm.block b).state = .sealing ∨ (t.rm.block b).state = .queued ∨ (t.rm.block b).state = .sending)) ∧
      ((((s.chans[c]).state ≠ .active ∧ (s.chans[c]).state ≠ .loss) ∨ (s.chans[c]).filling = none ∨
        (∀ b, (s.chans[c]).filling = some b → (s.rm.block b).bytesUsed = 0)) → t.chans = s.chans)

/-! ## Queries and the stream reset (04, 09) -/

/-- BLOCK_QUERY gives the descriptor as RM holds it, BAD_ARG above 8191; STATUS_QUERY gives the 64-byte record and clears TAG_RESYNC and the
four REFRESH_LAPSE flags; FORCE_BOUNDARY sets the forced-boundary flag; an unknown kind is UNKNOWN_KIND whatever its length; nothing
else changes (R6, R11, R70, R104, R157, R163). -/
def Obligations.QueriesReadAndChangeOnlyTheirFlags : Prop :=
  (∀ (s : State) (tag b0 b1 z1 z2 : Byte),
    let r : Request := ⟨tag, 5#8, [b0, b1, z1, z2]⟩
    let b := b0.toNat + 256 * b1.toNat
    Serving r s → ∃ t, exec .blockQuery s = .next t ∧ t.mu.stream = s.mu.stream ∧ ChangesOnly [.mu] s t ∧
      (b < 8192 → Answered r .ok ((s.rm.block b).bytes b) s t) ∧ (8192 ≤ b → Answered r .badArg [] s t)) ∧
  (∀ (s : State) (tag : Byte), Serving ⟨tag, 6#8, []⟩ s →
    ∃ t, exec .statusQuery s = .next t ∧ t.mu.stream = s.mu.stream ∧ ChangesOnly [.mu, .ap, .planes] s t ∧
      Answered ⟨tag, 6#8, []⟩ .ok (statusRecord s) s t ∧ t.ap = { s.ap with tagResync := false } ∧
      ∀ p : PlaneId, t.planes[p] = { s.planes[p] with lapse := false }) ∧
  (∀ (s : State) (tag : Byte), Serving ⟨tag, 7#8, []⟩ s →
    ∃ t, exec .forceBoundary s = .next t ∧ t.mu.stream = s.mu.stream ∧ ChangesOnly [.mu, .ap] s t ∧
      Answered ⟨tag, 7#8, []⟩ .ok [] s t ∧ t.ap = { s.ap with forcedBoundary := true }) ∧
  ∀ (s : State) (r : Request), (r.kind.toNat = 0 ∨ 8 < r.kind.toNat) → Serving r s →
    ∃ t, exec .unknownRequestKind s = .next t ∧ t.mu.stream = s.mu.stream ∧ ChangesOnly [.mu] s t ∧ Answered r .unknownKind [] s t

/-- A request of a known kind whose contents are of another length is BAD_ARG, and one executed in INIT is BUSY, with nothing else
changed (R157, R184). -/
def Obligations.FormIsJudgedBeforeMeaning : Prop :=
  ∀ (s : State) (cmd : Instr) (row : RequestRow) (length : Nat) (r : Request),
    (cmd, row, length) ∈
      [((.tableWriteSlotMap : Instr), RequestRow.tableWriteSlotMap, 8), (.tableWriteProfile, .tableWriteProfile, 12),
       (.tableWriteChannel, .tableWriteChannel, 16), (.tableWriteSettings, .tableWriteSettings, 16), (.tableRead, .tableRead, 4),
       (.streamRun, .streamRun, 4), (.streamPause, .streamPause, 4), (.streamHalt, .streamHalt, 4), (.streamResume, .streamResume, 4),
       (.streamStandby, .streamStandby, 4), (.channelStart, .channelStart, 4), (.channelStop, .channelStop, 4),
       (.channelFlush, .channelFlush, 4), (.blockQuery, .blockQuery, 4), (.statusQuery, .statusQuery, 0),
       (.forceBoundary, .forceBoundary, 0), (.resetStream, .resetStream, 4), (.resetDevice 0#2, .resetDevice, 4)] →
    r.row = some row → s.su.resetLow = false → s.mu.inProgress = some r →
    (s.mu.stream = .init ∨ r.contents.length ≠ length) →
    ∃ t, exec cmd s = .next t ∧ Answered r (if s.mu.stream = .init then .busy else .badArg) [] s t ∧ t.mu.stream = s.mu.stream ∧
      ChangesOnly [.mu, .rm, .ds, .planes] s t ∧ t.rm.free = s.rm.free ∧ ∀ b, KeptOrSelected (s.rm.block b) (t.rm.block b)

/-- RESET_STREAM: every channel IDLE and empty, its run number, next index and last sweep kept; every block of a plane with a free list FREE
in increasing order; the drain's lists empty with committed_through and transmitted_through at highest_sent; marks empty; pending copies
applied; STANDBY; a link in SYNC_WAIT or READY in SYNC_WAIT with HELLO due; a review request in progress ABORTED and every one that
arrives while the reset goes on BUSY (that those requests stand in State is the model's, log entry 5); the acquisition counters, refresh
counts and flags, the other counters and memory kept; the reply OK last (R42, R93, R107, R127, R136, R151, R152, R165, R168, R174). -/
def Obligations.StreamResetEmptiesTheCapturePath : Prop :=
  ∀ (s : State) (tag z1 z2 z3 : Byte),
    let r : Request := ⟨tag, 8#8, [1#8, z1, z2, z3]⟩
    Serving r s → ∃ t, exec .resetStream s = .next t ∧ Answered r .ok [] s t ∧ t.mu.stream = .standby ∧
      (∀ c : ChannelId, t.chans[c] = { Channel.reset with
        run := (s.chans[c]).run, nextIndex := (s.chans[c]).nextIndex, lastSweep := (s.chans[c]).lastSweep }) ∧
      (∀ p : PlaneId, t.rm.free[p] = (s.rm.free[p]).map (fun _ => planeBlocks p)) ∧ t.rm.blocks = [] ∧
      (∀ k : ClassId, t.rm.queues[k] = []) ∧ t.rm.rotation = s.rm.rotation ∧
      t.rm.level = pressureLevel s.ts.settings t.rm.freeCount s.rm.level ∧
      t.ds.redrain = [] ∧ t.ds.sent = [] ∧ t.ds.slot = [] ∧ t.ds.committed = s.ds.highest ∧ t.ds.transmitted = s.ds.highest ∧
      t.ds.highest = s.ds.highest ∧ t.ds.nextSeq = s.ds.nextSeq ∧ t.ds.granted = s.ds.granted ∧ t.ds.turn = s.ds.turn ∧
      t.ds.currentClass = s.ds.currentClass ∧ (∀ h : Fin 2, (t.ds.halves[h]).frame = none) ∧
      t.marks = MarkUnit.reset ∧ t.ts = s.ts.commit ∧
      (∀ p : PlaneId, (t.planes[p]).state = (s.planes[p]).state ∧ (t.planes[p]).owed = (s.planes[p]).owed ∧
        (t.planes[p]).lapse = (s.planes[p]).lapse ∧ (t.planes[p]).fault = (s.planes[p]).fault ∧
        (t.planes[p]).pointer = (s.planes[p]).pointer ∧ (t.planes[p]).drain = [] ∧ (t.planes[p]).review = none ∧
        (t.planes[p]).port = ((s.planes[p]).port).map Access.unreported) ∧
      ((s.sl.state = .syncWait ∨ s.sl.state = .ready) →
        t.sl.state = .syncWait ∧ t.sl.helloDue = true ∧ t.sl.helloSent = false ∧ t.sl.helloTimer = some 10) ∧
      ((s.sl.state = .down ∨ s.sl.state = .training) → t.sl.state = s.sl.state ∧ t.sl.helloDue = s.sl.helloDue) ∧
      t.sl.lanes = s.sl.lanes ∧ t.sl.rejected = s.sl.rejected ∧ t.sl.silenceTimer = s.sl.silenceTimer ∧
      t.sl.reason = (if s.sl.reason = .linkUp then .streamReset else s.sl.reason) ∧
      t.rp.slot = none ∧ t.rp.hold = false ∧
      (∃ busy, List.Forall₂ BusyFor s.resetArrivals busy ∧ t.resetArrivals = [] ∧
        (s.rp.slot = none → t.rp.responses = s.rp.responses ++ busy) ∧
        (∀ b off len, s.rp.slot = some (.read b off len) →
          ∃ v, t.rp.responses = s.rp.responses ++ ⟨4#8, .aborted, BitVec.ofNat 16 b, v, []⟩ :: busy) ∧
        (∀ c run index n, s.rp.slot = some (.locate c run index n) →
          t.rp.responses = s.rp.responses ++ ⟨1#8, .aborted, 0xFFFF#16, 0#16, []⟩ :: busy)) ∧
      ChangesOnly [.resetArrivals, .mu, .chans, .rm, .ds, .marks, .ts, .planes, .sl, .rp, .fresh] s t

/-! ## The Review Port (10) -/

/-- PIN and UNPIN at an IDLE port: the outcome and the pin count of R87 and R88, BAD_ARG above 8191; BUSY while a request is in progress or
the reset hold is set (R87, R88, R169, R172, R187). The two bytes a BUSY or BAD_ARG response does not state are free, and that PIN_LIMIT,
BAD_STATE and NOT_PINNED responses carry the pin count as OK does is deduced (both log entry 8). -/
def Obligations.PinsAreCountedAndAnswered : Prop :=
  (∀ (s : State) (b : Word16), ReviewIdle s → b.toNat < 8192 →
    ∃ t, exec (.pin b) s = .next t ∧ ChangesOnly [.rm, .rp] s t ∧ t.rp.slot = none ∧ t.rp.hold = false ∧
      t.rm.free = s.rm.free ∧ t.rm.level = s.rm.level ∧ t.rm.queues = s.rm.queues ∧
      (∀ b', b' ≠ b.toNat → t.rm.block b' = s.rm.block b') ∧
      (let d := s.rm.block b.toNat
       let sealed := d.state = .queued ∨ d.state = .sending ∨ d.state = .sent ∨ d.state = .redrain ∨ d.state = .retired
       (sealed → d.pins < 3 → t.rm.block b.toNat = { d with pins := d.pins + 1 } ∧
          Responded ⟨2#8, .ok, b, BitVec.ofNat 16 (d.pins + 1), []⟩ s t) ∧
       (sealed → 3 ≤ d.pins → t.rm = s.rm ∧ Responded ⟨2#8, .pinLimit, b, BitVec.ofNat 16 d.pins, []⟩ s t) ∧
       (¬ sealed → t.rm = s.rm ∧ Responded ⟨2#8, .badState, b, BitVec.ofNat 16 d.pins, []⟩ s t))) ∧
  (∀ (s : State) (b : Word16), ReviewIdle s → b.toNat < 8192 → BlocksCollected s →
    ∃ t, exec (.unpin b) s = .next t ∧ ChangesOnly [.rm, .rp] s t ∧ t.rp.slot = none ∧ t.rp.hold = false ∧
      (∀ b', b' ≠ b.toNat → t.rm.block b' = s.rm.block b') ∧ t.rm.queues = s.rm.queues ∧
      (let d := s.rm.block b.toNat
       (d.pins = 0 → t.rm = s.rm ∧ Responded ⟨3#8, .notPinned, b, 0#16, []⟩ s t) ∧
       (d.pins ≠ 0 → Responded ⟨3#8, .ok, b, BitVec.ofNat 16 (d.pins - 1), []⟩ s t ∧
         (d.state = .retired → d.pins = 1 → t.rm.block b.toNat = .cleared .free ∧ t.rm.freeCount = s.rm.freeCount + 1 ∧
           t.rm.level = pressureLevel s.ts.settings t.rm.freeCount s.rm.level) ∧
         (¬ (d.state = .retired ∧ d.pins = 1) → t.rm.block b.toNat = { d with pins := d.pins - 1 } ∧
           t.rm.free = s.rm.free ∧ t.rm.level = s.rm.level)))) ∧
  ∀ (s : State) (b : Word16) (c : Instr) (kind : Byte), s.su.resetLow = false →
    ((c = .pin b ∧ kind = 2#8) ∨ (c = .unpin b ∧ kind = 3#8)) → (8192 ≤ b.toNat ∨ s.rp.slot ≠ none ∨ s.rp.hold = true) →
    ∃ t, exec c s = .next t ∧ ChangesOnly [.rp, .fresh] s t ∧ t.rp.slot = s.rp.slot ∧ t.rp.hold = s.rp.hold ∧
      ∃ v, Responded ⟨kind, if s.rp.slot ≠ none ∨ s.rp.hold = true then .busy else .badArg, b, v, []⟩ s t

/-- READ at an IDLE port: BAD_ARG for a bad form or an offset past bytes_used, NOT_PINNED without a pin, and otherwise a REVIEW claim with the
clipped length on the block's plane, which its arbiter grants by R95; BUSY while a request is in progress (R102, R169, R173). -/
def Obligations.ReadsAreCheckedAndClaimed : Prop :=
  (∀ (s : State) (b : Word16) (off : Word32) (len : Word16), ReviewIdle s →
    let d := s.rm.block b.toNat
    let good := b.toNat < 8192 ∧ 4 ≤ len.toNat ∧ len.toNat ≤ 4096 ∧ len.toNat % 4 = 0 ∧ off.toNat % 4 = 0
    let clipped := min len.toNat (d.bytesUsed - off.toNat)
    ∃ t, exec (.read b off len) s = .next t ∧ ChangesOnly [.planes, .rp, .fresh] s t ∧
      (good → d.pins ≠ 0 → off.toNat < d.bytesUsed →
        t.rp = { s.rp with slot := some (.read b.toNat off.toNat clipped) } ∧
        ((t.planes[planeOf b.toNat]).review = some ⟨b.toNat, off.toNat, clipped⟩ ∨
          (t.planes[planeOf b.toNat]).port = some (.reviewRead b.toNat off.toNat clipped true)) ∧
        ((s.planes[planeOf b.toNat]).state = .ready → (s.planes[planeOf b.toNat]).port = none →
          (s.planes[planeOf b.toNat]).owed < 8 → (s.planes[planeOf b.toNat]).drain = [] →
          intakeChoice s (planeOf b.toNat) true = none →
          (t.planes[planeOf b.toNat]).port = some (.reviewRead b.toNat off.toNat clipped true))) ∧
      (¬ good → t.planes = s.planes ∧ t.rp.slot = none ∧ ∃ v, Responded ⟨4#8, .badArg, b, v, []⟩ s t) ∧
      (good → d.pins = 0 → t.planes = s.planes ∧ t.rp.slot = none ∧ ∃ v, Responded ⟨4#8, .notPinned, b, v, []⟩ s t) ∧
      (good → d.pins ≠ 0 → d.bytesUsed ≤ off.toNat →
        t.planes = s.planes ∧ t.rp.slot = none ∧ ∃ v, Responded ⟨4#8, .badArg, b, v, []⟩ s t)) ∧
  ∀ (s : State) (b : Word16) (off : Word32) (len : Word16), s.su.resetLow = false → (s.rp.slot ≠ none ∨ s.rp.hold = true) →
    ∃ t, exec (.read b off len) s = .next t ∧ ChangesOnly [.rp, .fresh] s t ∧ t.rp.slot = s.rp.slot ∧ t.rp.hold = s.rp.hold ∧
      ∃ v, Responded ⟨4#8, .busy, b, v, []⟩ s t

/-- LOCATE starts its scan at entry 0; a scan step matches a sealed block of the channel and run whose index range holds the index, pins it
and answers, passes any other entry, and answers NOT_FOUND past entry 8191; DESCRIBE gives the descriptor in any state; an unknown kind is
BAD_ARG; a busy port answers BUSY; the 12 bytes of a request are the command of their kind code with the fields in their places, and no
other number of bytes is a request (R87, R169, R170, R172, R187). -/
def Obligations.LocateDescribeAndUnknownKinds : Prop :=
  (∀ (s : State) (channel run : Byte) (index : Word64), s.su.resetLow = false →
    ∃ t, exec (.locate channel run index) s = .next t ∧ ChangesOnly [.rp] s t ∧
      (s.rp.slot = none → s.rp.hold = false → ∀ hc : channel.toNat < 16,
        t.rp = { s.rp with slot := some (.locate ⟨channel.toNat, hc⟩ run index 0) }) ∧
      (s.rp.slot = none → s.rp.hold = false → 16 ≤ channel.toNat →
        t.rp.slot = none ∧ Responded ⟨1#8, .badArg, 0xFFFF#16, 0#16, []⟩ s t) ∧
      ((s.rp.slot ≠ none ∨ s.rp.hold = true) → t.rp.slot = s.rp.slot ∧ Responded ⟨1#8, .busy, 0xFFFF#16, 0#16, []⟩ s t)) ∧
  (∀ (s : State) (c : ChannelId) (run : Byte) (index : Word64) (b : BlockId), s.su.resetLow = false → b < 8192 →
    s.rp.slot = some (.locate c run index b) →
    let d := s.rm.block b
    ∃ t, exec .locateScanStep s = .next t ∧ ChangesOnly [.rp, .rm] s t ∧
      (if (d.state = .queued ∨ d.state = .sending ∨ d.state = .sent ∨ d.state = .redrain ∨ d.state = .retired) ∧ d.owner = some c ∧
          d.run = some run ∧ ∃ lo hi, d.firstIndex = some lo ∧ d.lastIndex = some hi ∧ (index - lo).toNat ≤ (hi - lo).toNat
       then t.rp.slot = none ∧
         (d.pins < 3 → t.rm.block b = { d with pins := d.pins + 1 } ∧ (∀ b', b' ≠ b → t.rm.block b' = s.rm.block b') ∧
           Responded ⟨1#8, .ok, BitVec.ofNat 16 b, 0#16, ({ d with pins := d.pins + 1 } : Descriptor).bytes b⟩ s t) ∧
         (3 ≤ d.pins → t.rm = s.rm ∧ Responded ⟨1#8, .pinLimit, BitVec.ofNat 16 b, 0#16, d.bytes b⟩ s t)
       else t.rm = s.rm ∧
         (b < 8191 → t.rp = { s.rp with slot := some (.locate c run index (b + 1)) }) ∧
         (b = 8191 → t.rp.slot = none ∧ Responded ⟨1#8, .notFound, 0xFFFF#16, 0#16, []⟩ s t))) ∧
  (∀ (s : State) (b : Word16), s.su.resetLow = false →
    ∃ t, exec (.describe b) s = .next t ∧ ChangesOnly [.rp] s t ∧ t.rp.slot = s.rp.slot ∧
      (s.rp.slot = none → s.rp.hold = false → b.toNat < 8192 →
        Responded ⟨5#8, .ok, b, 0#16, (s.rm.block b.toNat).bytes b.toNat⟩ s t) ∧
      (s.rp.slot = none → s.rp.hold = false → 8192 ≤ b.toNat → Responded ⟨5#8, .badArg, b, 0#16, []⟩ s t) ∧
      ((s.rp.slot ≠ none ∨ s.rp.hold = true) → Responded ⟨5#8, .busy, b, 0#16, []⟩ s t)) ∧
  (∀ b0 b1 b2 b3 b4 b5 b6 b7 b8 b9 b10 b11 : Byte,
    (decodeReviewRequest [b0, b1, b2, b3, b4, b5, b6, b7, b8, b9, b10, b11]).map ReviewCall.command = some (
      if b0 = 1#8 then .locate b2 b3 (b11 ++ b10 ++ b9 ++ b8 ++ b7 ++ b6 ++ b5 ++ b4)
      else if b0 = 2#8 then .pin (b3 ++ b2)
      else if b0 = 3#8 then .unpin (b3 ++ b2)
      else if b0 = 4#8 then .read (b3 ++ b2) (b7 ++ b6 ++ b5 ++ b4) (b9 ++ b8)
      else if b0 = 5#8 then .describe (b3 ++ b2)
      else .unknownReviewKind b0)) ∧
  (∀ bytes : List Byte, bytes.length ≠ 12 → decodeReviewRequest bytes = none) ∧
  ∀ (s : State) (kind : Byte), s.su.resetLow = false → (kind.toNat = 0 ∨ 5 < kind.toNat) →
    ∃ t, exec (.unknownReviewKind kind) s = .next t ∧ ChangesOnly [.rp] s t ∧ t.rp.slot = s.rp.slot ∧
      Responded ⟨kind, if s.rp.slot ≠ none ∨ s.rp.hold = true then .busy else .badArg, 0xFFFF#16, 0#16, []⟩ s t

/-- A LOCATE whose scan runs undisturbed ends at the lowest block that matches, pinned in the same action or, with 3 pins, answered
PIN_LIMIT and left as it is, and at NOT_FOUND when none of the 8192 matches (R87, R170). -/
def Obligations.LocateFindsTheLowestMatch : Prop :=
  ∀ (s : State) (c : ChannelId) (run : Byte) (index : Word64), ReviewIdle s →
    let scan := fun n : Nat => { s with pending := .locate (byteOf c.val) run index :: List.replicate n .locateScanStep }
    (∀ b, b < 8192 → locateMatches c run index (s.rm.block b) = true → (s.rm.block b).pins < 3 →
      (∀ b', b' < b → locateMatches c run index (s.rm.block b') = false) →
      ∃ t, Sys2Proof.core.run (b + 2) (scan (b + 1)) = .next t ∧ t.rp.slot = none ∧ t.pending = [] ∧
        t.rm.block b = { s.rm.block b with pins := (s.rm.block b).pins + 1 } ∧ (∀ b', b' ≠ b → t.rm.block b' = s.rm.block b') ∧
        Responded ⟨1#8, .ok, BitVec.ofNat 16 b, 0#16, (t.rm.block b).bytes b⟩ s t) ∧
    (∀ b, b < 8192 → locateMatches c run index (s.rm.block b) = true → 3 ≤ (s.rm.block b).pins →
      (∀ b', b' < b → locateMatches c run index (s.rm.block b') = false) →
      ∃ t, Sys2Proof.core.run (b + 2) (scan (b + 1)) = .next t ∧ t.rp.slot = none ∧ t.pending = [] ∧ t.rm = s.rm ∧
        Responded ⟨1#8, .pinLimit, BitVec.ofNat 16 b, 0#16, (s.rm.block b).bytes b⟩ s t) ∧
    ((∀ b, b < 8192 → locateMatches c run index (s.rm.block b) = false) →
      ∃ t, Sys2Proof.core.run 8193 (scan 8192) = .next t ∧ t.rm = s.rm ∧ t.pending = [] ∧ t.rp.slot = none ∧
        Responded ⟨1#8, .notFound, 0xFFFF#16, 0#16, []⟩ s t)
end

