-- ==== Sys2Proof/Laws/State.lean ====
section
/-! SUPPORT. Each named update of the state, field by field: what it writes and what it leaves. -/

namespace Sys2Proof.Machine

variable (s : State)

@[simp] theorem dropOrder_ap : (dropOrder s).ap = s.ap := rfl
@[simp] theorem dropOrder_ts : (dropOrder s).ts = s.ts := rfl
@[simp] theorem dropOrder_chans : (dropOrder s).chans = s.chans := rfl
@[simp] theorem dropOrder_rm : (dropOrder s).rm = s.rm := rfl
@[simp] theorem dropOrder_planes : (dropOrder s).planes = s.planes := rfl
@[simp] theorem dropOrder_ds : (dropOrder s).ds = s.ds := rfl
@[simp] theorem dropOrder_marks : (dropOrder s).marks = s.marks := rfl
@[simp] theorem dropOrder_mu : (dropOrder s).mu = s.mu := rfl
@[simp] theorem dropOrder_sl : (dropOrder s).sl = s.sl := rfl
@[simp] theorem dropOrder_rp : (dropOrder s).rp = s.rp := rfl
@[simp] theorem dropOrder_su : (dropOrder s).su = s.su := rfl
@[simp] theorem dropOrder_mem : (dropOrder s).mem = s.mem := rfl
@[simp] theorem dropOrder_pending : (dropOrder s).pending = s.pending := rfl
@[simp] theorem dropOrder_resetArrivals : (dropOrder s).resetArrivals = s.resetArrivals := rfl
@[simp] theorem dropOrder_orders : (dropOrder s).orders = s.orders.tail := rfl
@[simp] theorem dropOrder_fresh : (dropOrder s).fresh = s.fresh := rfl

@[simp] theorem withEngine_ap (c : ChannelId) (e : Engine) : (s.withEngine c e).ap = s.ap := rfl
@[simp] theorem withEngine_ts (c : ChannelId) (e : Engine) : (s.withEngine c e).ts = s.ts := rfl
@[simp] theorem withEngine_chans (c : ChannelId) (e : Engine) : (s.withEngine c e).chans = put s.chans c e.ch := rfl
@[simp] theorem withEngine_rm (c : ChannelId) (e : Engine) : (s.withEngine c e).rm = e.rm := rfl
@[simp] theorem withEngine_planes (c : ChannelId) (e : Engine) : (s.withEngine c e).planes = s.planes := rfl
@[simp] theorem withEngine_ds (c : ChannelId) (e : Engine) : (s.withEngine c e).ds = s.ds := rfl
@[simp] theorem withEngine_marks (c : ChannelId) (e : Engine) : (s.withEngine c e).marks = e.marks := rfl
@[simp] theorem withEngine_mu (c : ChannelId) (e : Engine) : (s.withEngine c e).mu = s.mu := rfl
@[simp] theorem withEngine_sl (c : ChannelId) (e : Engine) : (s.withEngine c e).sl = s.sl := rfl
@[simp] theorem withEngine_rp (c : ChannelId) (e : Engine) : (s.withEngine c e).rp = s.rp := rfl
@[simp] theorem withEngine_su (c : ChannelId) (e : Engine) : (s.withEngine c e).su = s.su := rfl
@[simp] theorem withEngine_mem (c : ChannelId) (e : Engine) : (s.withEngine c e).mem = s.mem := rfl
@[simp] theorem withEngine_pending (c : ChannelId) (e : Engine) : (s.withEngine c e).pending = s.pending := rfl
@[simp] theorem withEngine_resetArrivals (c : ChannelId) (e : Engine) : (s.withEngine c e).resetArrivals = s.resetArrivals := rfl
@[simp] theorem withEngine_orders (c : ChannelId) (e : Engine) : (s.withEngine c e).orders = s.orders := rfl
@[simp] theorem withEngine_fresh (c : ChannelId) (e : Engine) : (s.withEngine c e).fresh = s.fresh := rfl

@[simp] theorem setOpen_ap (o : Option OpenFrame) : (setOpen o s).ap = { s.ap with openFrame := o } := rfl
@[simp] theorem setOpen_ts (o : Option OpenFrame) : (setOpen o s).ts = s.ts := rfl
@[simp] theorem setOpen_chans (o : Option OpenFrame) : (setOpen o s).chans = s.chans := rfl
@[simp] theorem setOpen_rm (o : Option OpenFrame) : (setOpen o s).rm = s.rm := rfl
@[simp] theorem setOpen_planes (o : Option OpenFrame) : (setOpen o s).planes = s.planes := rfl
@[simp] theorem setOpen_ds (o : Option OpenFrame) : (setOpen o s).ds = s.ds := rfl
@[simp] theorem setOpen_marks (o : Option OpenFrame) : (setOpen o s).marks = s.marks := rfl
@[simp] theorem setOpen_mu (o : Option OpenFrame) : (setOpen o s).mu = s.mu := rfl
@[simp] theorem setOpen_sl (o : Option OpenFrame) : (setOpen o s).sl = s.sl := rfl
@[simp] theorem setOpen_rp (o : Option OpenFrame) : (setOpen o s).rp = s.rp := rfl
@[simp] theorem setOpen_su (o : Option OpenFrame) : (setOpen o s).su = s.su := rfl
@[simp] theorem setOpen_mem (o : Option OpenFrame) : (setOpen o s).mem = s.mem := rfl
@[simp] theorem setOpen_pending (o : Option OpenFrame) : (setOpen o s).pending = s.pending := rfl
@[simp] theorem setOpen_resetArrivals (o : Option OpenFrame) : (setOpen o s).resetArrivals = s.resetArrivals := rfl
@[simp] theorem setOpen_orders (o : Option OpenFrame) : (setOpen o s).orders = s.orders := rfl
@[simp] theorem setOpen_fresh (o : Option OpenFrame) : (setOpen o s).fresh = s.fresh := rfl

@[simp] theorem setTx_ap (f : Option TxFrame) : (setTx f s).ap = s.ap := rfl
@[simp] theorem setTx_ts (f : Option TxFrame) : (setTx f s).ts = s.ts := rfl
@[simp] theorem setTx_chans (f : Option TxFrame) : (setTx f s).chans = s.chans := rfl
@[simp] theorem setTx_rm (f : Option TxFrame) : (setTx f s).rm = s.rm := rfl
@[simp] theorem setTx_planes (f : Option TxFrame) : (setTx f s).planes = s.planes := rfl
@[simp] theorem setTx_ds (f : Option TxFrame) : (setTx f s).ds = s.ds := rfl
@[simp] theorem setTx_marks (f : Option TxFrame) : (setTx f s).marks = s.marks := rfl
@[simp] theorem setTx_mu (f : Option TxFrame) : (setTx f s).mu = s.mu := rfl
@[simp] theorem setTx_sl (f : Option TxFrame) : (setTx f s).sl = { s.sl with tx := f } := rfl
@[simp] theorem setTx_rp (f : Option TxFrame) : (setTx f s).rp = s.rp := rfl
@[simp] theorem setTx_su (f : Option TxFrame) : (setTx f s).su = s.su := rfl
@[simp] theorem setTx_mem (f : Option TxFrame) : (setTx f s).mem = s.mem := rfl
@[simp] theorem setTx_pending (f : Option TxFrame) : (setTx f s).pending = s.pending := rfl
@[simp] theorem setTx_resetArrivals (f : Option TxFrame) : (setTx f s).resetArrivals = s.resetArrivals := rfl
@[simp] theorem setTx_orders (f : Option TxFrame) : (setTx f s).orders = s.orders := rfl
@[simp] theorem setTx_fresh (f : Option TxFrame) : (setTx f s).fresh = s.fresh := rfl

@[simp] theorem setQueue_ap (q : List Request) : (setQueue q s).ap = s.ap := rfl
@[simp] theorem setQueue_ts (q : List Request) : (setQueue q s).ts = s.ts := rfl
@[simp] theorem setQueue_chans (q : List Request) : (setQueue q s).chans = s.chans := rfl
@[simp] theorem setQueue_rm (q : List Request) : (setQueue q s).rm = s.rm := rfl
@[simp] theorem setQueue_planes (q : List Request) : (setQueue q s).planes = s.planes := rfl
@[simp] theorem setQueue_ds (q : List Request) : (setQueue q s).ds = s.ds := rfl
@[simp] theorem setQueue_marks (q : List Request) : (setQueue q s).marks = s.marks := rfl
@[simp] theorem setQueue_mu (q : List Request) : (setQueue q s).mu = { s.mu with queue := q } := rfl
@[simp] theorem setQueue_sl (q : List Request) : (setQueue q s).sl = s.sl := rfl
@[simp] theorem setQueue_rp (q : List Request) : (setQueue q s).rp = s.rp := rfl
@[simp] theorem setQueue_su (q : List Request) : (setQueue q s).su = s.su := rfl
@[simp] theorem setQueue_mem (q : List Request) : (setQueue q s).mem = s.mem := rfl
@[simp] theorem setQueue_pending (q : List Request) : (setQueue q s).pending = s.pending := rfl
@[simp] theorem setQueue_resetArrivals (q : List Request) : (setQueue q s).resetArrivals = s.resetArrivals := rfl
@[simp] theorem setQueue_orders (q : List Request) : (setQueue q s).orders = s.orders := rfl
@[simp] theorem setQueue_fresh (q : List Request) : (setQueue q s).fresh = s.fresh := rfl

@[simp] theorem setStream_ap (st : StreamState) : (setStream st s).ap = s.ap := rfl
@[simp] theorem setStream_ts (st : StreamState) : (setStream st s).ts = s.ts := rfl
@[simp] theorem setStream_chans (st : StreamState) : (setStream st s).chans = s.chans := rfl
@[simp] theorem setStream_rm (st : StreamState) : (setStream st s).rm = s.rm := rfl
@[simp] theorem setStream_planes (st : StreamState) : (setStream st s).planes = s.planes := rfl
@[simp] theorem setStream_ds (st : StreamState) : (setStream st s).ds = s.ds := rfl
@[simp] theorem setStream_marks (st : StreamState) : (setStream st s).marks = s.marks := rfl
@[simp] theorem setStream_mu (st : StreamState) : (setStream st s).mu = { s.mu with stream := st } := rfl
@[simp] theorem setStream_sl (st : StreamState) : (setStream st s).sl = s.sl := rfl
@[simp] theorem setStream_rp (st : StreamState) : (setStream st s).rp = s.rp := rfl
@[simp] theorem setStream_su (st : StreamState) : (setStream st s).su = s.su := rfl
@[simp] theorem setStream_mem (st : StreamState) : (setStream st s).mem = s.mem := rfl
@[simp] theorem setStream_pending (st : StreamState) : (setStream st s).pending = s.pending := rfl
@[simp] theorem setStream_resetArrivals (st : StreamState) : (setStream st s).resetArrivals = s.resetArrivals := rfl
@[simp] theorem setStream_orders (st : StreamState) : (setStream st s).orders = s.orders := rfl
@[simp] theorem setStream_fresh (st : StreamState) : (setStream st s).fresh = s.fresh := rfl

@[simp] theorem respond_ap (r : ReviewResponse) : (respond r s).ap = s.ap := rfl
@[simp] theorem respond_ts (r : ReviewResponse) : (respond r s).ts = s.ts := rfl
@[simp] theorem respond_chans (r : ReviewResponse) : (respond r s).chans = s.chans := rfl
@[simp] theorem respond_rm (r : ReviewResponse) : (respond r s).rm = s.rm := rfl
@[simp] theorem respond_planes (r : ReviewResponse) : (respond r s).planes = s.planes := rfl
@[simp] theorem respond_ds (r : ReviewResponse) : (respond r s).ds = s.ds := rfl
@[simp] theorem respond_marks (r : ReviewResponse) : (respond r s).marks = s.marks := rfl
@[simp] theorem respond_mu (r : ReviewResponse) : (respond r s).mu = s.mu := rfl
@[simp] theorem respond_sl (r : ReviewResponse) : (respond r s).sl = s.sl := rfl
@[simp] theorem respond_rp (r : ReviewResponse) : (respond r s).rp = { s.rp with responses := s.rp.responses ++ [r] } := rfl
@[simp] theorem respond_su (r : ReviewResponse) : (respond r s).su = s.su := rfl
@[simp] theorem respond_mem (r : ReviewResponse) : (respond r s).mem = s.mem := rfl
@[simp] theorem respond_pending (r : ReviewResponse) : (respond r s).pending = s.pending := rfl
@[simp] theorem respond_resetArrivals (r : ReviewResponse) : (respond r s).resetArrivals = s.resetArrivals := rfl
@[simp] theorem respond_orders (r : ReviewResponse) : (respond r s).orders = s.orders := rfl
@[simp] theorem respond_fresh (r : ReviewResponse) : (respond r s).fresh = s.fresh := rfl

@[simp] theorem respondOpen_ap (k : Byte) (st : ReviewStatus) (b : Word16) : (respondOpen k st b s).ap = s.ap := rfl
@[simp] theorem respondOpen_ts (k : Byte) (st : ReviewStatus) (b : Word16) : (respondOpen k st b s).ts = s.ts := rfl
@[simp] theorem respondOpen_chans (k : Byte) (st : ReviewStatus) (b : Word16) : (respondOpen k st b s).chans = s.chans := rfl
@[simp] theorem respondOpen_rm (k : Byte) (st : ReviewStatus) (b : Word16) : (respondOpen k st b s).rm = s.rm := rfl
@[simp] theorem respondOpen_planes (k : Byte) (st : ReviewStatus) (b : Word16) :
    (respondOpen k st b s).planes = s.planes := rfl
@[simp] theorem respondOpen_ds (k : Byte) (st : ReviewStatus) (b : Word16) : (respondOpen k st b s).ds = s.ds := rfl
@[simp] theorem respondOpen_marks (k : Byte) (st : ReviewStatus) (b : Word16) : (respondOpen k st b s).marks = s.marks := rfl
@[simp] theorem respondOpen_mu (k : Byte) (st : ReviewStatus) (b : Word16) : (respondOpen k st b s).mu = s.mu := rfl
@[simp] theorem respondOpen_sl (k : Byte) (st : ReviewStatus) (b : Word16) : (respondOpen k st b s).sl = s.sl := rfl
@[simp] theorem respondOpen_rp (k : Byte) (st : ReviewStatus) (b : Word16) :
    (respondOpen k st b s).rp = { s.rp with responses := s.rp.responses ++ [⟨k, st, b, Config.openReviewField s.fresh, []⟩] } := rfl
@[simp] theorem respondOpen_su (k : Byte) (st : ReviewStatus) (b : Word16) : (respondOpen k st b s).su = s.su := rfl
@[simp] theorem respondOpen_mem (k : Byte) (st : ReviewStatus) (b : Word16) : (respondOpen k st b s).mem = s.mem := rfl
@[simp] theorem respondOpen_pending (k : Byte) (st : ReviewStatus) (b : Word16) :
    (respondOpen k st b s).pending = s.pending := rfl
@[simp] theorem respondOpen_resetArrivals (k : Byte) (st : ReviewStatus) (b : Word16) :
    (respondOpen k st b s).resetArrivals = s.resetArrivals := rfl
@[simp] theorem respondOpen_orders (k : Byte) (st : ReviewStatus) (b : Word16) :
    (respondOpen k st b s).orders = s.orders := rfl
@[simp] theorem respondOpen_fresh (k : Byte) (st : ReviewStatus) (b : Word16) :
    (respondOpen k st b s).fresh = s.fresh + 1 := rfl

@[simp] theorem emptySlot_ap : (emptySlot s).ap = s.ap := rfl
@[simp] theorem emptySlot_ts : (emptySlot s).ts = s.ts := rfl
@[simp] theorem emptySlot_chans : (emptySlot s).chans = s.chans := rfl
@[simp] theorem emptySlot_rm : (emptySlot s).rm = s.rm := rfl
@[simp] theorem emptySlot_planes : (emptySlot s).planes = s.planes := rfl
@[simp] theorem emptySlot_ds : (emptySlot s).ds = s.ds := rfl
@[simp] theorem emptySlot_marks : (emptySlot s).marks = s.marks := rfl
@[simp] theorem emptySlot_mu : (emptySlot s).mu = s.mu := rfl
@[simp] theorem emptySlot_sl : (emptySlot s).sl = s.sl := rfl
@[simp] theorem emptySlot_rp : (emptySlot s).rp = { s.rp with slot := none } := rfl
@[simp] theorem emptySlot_su : (emptySlot s).su = s.su := rfl
@[simp] theorem emptySlot_mem : (emptySlot s).mem = s.mem := rfl
@[simp] theorem emptySlot_pending : (emptySlot s).pending = s.pending := rfl
@[simp] theorem emptySlot_resetArrivals : (emptySlot s).resetArrivals = s.resetArrivals := rfl
@[simp] theorem emptySlot_orders : (emptySlot s).orders = s.orders := rfl
@[simp] theorem emptySlot_fresh : (emptySlot s).fresh = s.fresh := rfl

@[simp] theorem freePort_ap (p : PlaneId) : (freePort p s).ap = s.ap := rfl
@[simp] theorem freePort_ts (p : PlaneId) : (freePort p s).ts = s.ts := rfl
@[simp] theorem freePort_chans (p : PlaneId) : (freePort p s).chans = s.chans := rfl
@[simp] theorem freePort_rm (p : PlaneId) : (freePort p s).rm = s.rm := rfl
@[simp] theorem freePort_planes (p : PlaneId) :
    (freePort p s).planes = put s.planes p { s.planes[p] with port := none } := rfl
@[simp] theorem freePort_ds (p : PlaneId) : (freePort p s).ds = s.ds := rfl
@[simp] theorem freePort_marks (p : PlaneId) : (freePort p s).marks = s.marks := rfl
@[simp] theorem freePort_mu (p : PlaneId) : (freePort p s).mu = s.mu := rfl
@[simp] theorem freePort_sl (p : PlaneId) : (freePort p s).sl = s.sl := rfl
@[simp] theorem freePort_rp (p : PlaneId) : (freePort p s).rp = s.rp := rfl
@[simp] theorem freePort_su (p : PlaneId) : (freePort p s).su = s.su := rfl
@[simp] theorem freePort_mem (p : PlaneId) : (freePort p s).mem = s.mem := rfl
@[simp] theorem freePort_pending (p : PlaneId) : (freePort p s).pending = s.pending := rfl
@[simp] theorem freePort_resetArrivals (p : PlaneId) : (freePort p s).resetArrivals = s.resetArrivals := rfl
@[simp] theorem freePort_orders (p : PlaneId) : (freePort p s).orders = s.orders := rfl
@[simp] theorem freePort_fresh (p : PlaneId) : (freePort p s).fresh = s.fresh := rfl

@[simp] theorem storeBytes_ap (b : BlockId) (off : Nat) (bs : List Byte) : (storeBytes b off bs s).ap = s.ap := rfl
@[simp] theorem storeBytes_ts (b : BlockId) (off : Nat) (bs : List Byte) : (storeBytes b off bs s).ts = s.ts := rfl
@[simp] theorem storeBytes_chans (b : BlockId) (off : Nat) (bs : List Byte) : (storeBytes b off bs s).chans = s.chans := rfl
@[simp] theorem storeBytes_rm (b : BlockId) (off : Nat) (bs : List Byte) : (storeBytes b off bs s).rm = s.rm := rfl
@[simp] theorem storeBytes_planes (b : BlockId) (off : Nat) (bs : List Byte) :
    (storeBytes b off bs s).planes = s.planes := rfl
@[simp] theorem storeBytes_ds (b : BlockId) (off : Nat) (bs : List Byte) : (storeBytes b off bs s).ds = s.ds := rfl
@[simp] theorem storeBytes_marks (b : BlockId) (off : Nat) (bs : List Byte) : (storeBytes b off bs s).marks = s.marks := rfl
@[simp] theorem storeBytes_mu (b : BlockId) (off : Nat) (bs : List Byte) : (storeBytes b off bs s).mu = s.mu := rfl
@[simp] theorem storeBytes_sl (b : BlockId) (off : Nat) (bs : List Byte) : (storeBytes b off bs s).sl = s.sl := rfl
@[simp] theorem storeBytes_rp (b : BlockId) (off : Nat) (bs : List Byte) : (storeBytes b off bs s).rp = s.rp := rfl
@[simp] theorem storeBytes_su (b : BlockId) (off : Nat) (bs : List Byte) : (storeBytes b off bs s).su = s.su := rfl
@[simp] theorem storeBytes_mem (b : BlockId) (off : Nat) (bs : List Byte) :
    (storeBytes b off bs s).mem = writeBytes s.mem (blockAddress b off) bs := rfl
@[simp] theorem storeBytes_pending (b : BlockId) (off : Nat) (bs : List Byte) :
    (storeBytes b off bs s).pending = s.pending := rfl
@[simp] theorem storeBytes_resetArrivals (b : BlockId) (off : Nat) (bs : List Byte) :
    (storeBytes b off bs s).resetArrivals = s.resetArrivals := rfl
@[simp] theorem storeBytes_orders (b : BlockId) (off : Nat) (bs : List Byte) :
    (storeBytes b off bs s).orders = s.orders := rfl
@[simp] theorem storeBytes_fresh (b : BlockId) (off : Nat) (bs : List Byte) : (storeBytes b off bs s).fresh = s.fresh := rfl

@[simp] theorem headerWritten_ap (c : ChannelId) (b : BlockId) : (headerWritten c b s).ap = s.ap := rfl
@[simp] theorem headerWritten_ts (c : ChannelId) (b : BlockId) : (headerWritten c b s).ts = s.ts := rfl
@[simp] theorem headerWritten_chans (c : ChannelId) (b : BlockId) :
    (headerWritten c b s).chans = put s.chans c ({ s.chans[c] with waiting := (s.chans[c]).waiting.tail }).closeIfDone := rfl
@[simp] theorem headerWritten_rm (c : ChannelId) (b : BlockId) :
    (headerWritten c b s).rm = s.rm.written b Config.recordHeaderSize := rfl
@[simp] theorem headerWritten_planes (c : ChannelId) (b : BlockId) : (headerWritten c b s).planes = s.planes := rfl
@[simp] theorem headerWritten_ds (c : ChannelId) (b : BlockId) : (headerWritten c b s).ds = s.ds := rfl
@[simp] theorem headerWritten_marks (c : ChannelId) (b : BlockId) : (headerWritten c b s).marks = s.marks := rfl
@[simp] theorem headerWritten_mu (c : ChannelId) (b : BlockId) : (headerWritten c b s).mu = s.mu := rfl
@[simp] theorem headerWritten_sl (c : ChannelId) (b : BlockId) : (headerWritten c b s).sl = s.sl := rfl
@[simp] theorem headerWritten_rp (c : ChannelId) (b : BlockId) : (headerWritten c b s).rp = s.rp := rfl
@[simp] theorem headerWritten_su (c : ChannelId) (b : BlockId) : (headerWritten c b s).su = s.su := rfl
@[simp] theorem headerWritten_mem (c : ChannelId) (b : BlockId) : (headerWritten c b s).mem = s.mem := rfl
@[simp] theorem headerWritten_pending (c : ChannelId) (b : BlockId) : (headerWritten c b s).pending = s.pending := rfl
@[simp] theorem headerWritten_resetArrivals (c : ChannelId) (b : BlockId) : (headerWritten c b s).resetArrivals = s.resetArrivals := rfl
@[simp] theorem headerWritten_orders (c : ChannelId) (b : BlockId) : (headerWritten c b s).orders = s.orders := rfl
@[simp] theorem headerWritten_fresh (c : ChannelId) (b : BlockId) : (headerWritten c b s).fresh = s.fresh := rfl

@[simp] theorem payloadWritten_ap (c : ChannelId) (b : BlockId) (n : Nat) : (payloadWritten c b n s).ap = s.ap := rfl
@[simp] theorem payloadWritten_ts (c : ChannelId) (b : BlockId) (n : Nat) : (payloadWritten c b n s).ts = s.ts := rfl
@[simp] theorem payloadWritten_chans (c : ChannelId) (b : BlockId) (n : Nat) :
    (payloadWritten c b n s).chans = put s.chans c ({ s.chans[c] with runs := pieceWritten n (s.chans[c]).runs }).closeIfDone := rfl
@[simp] theorem payloadWritten_rm (c : ChannelId) (b : BlockId) (n : Nat) :
    (payloadWritten c b n s).rm = s.rm.written b n := rfl
@[simp] theorem payloadWritten_planes (c : ChannelId) (b : BlockId) (n : Nat) :
    (payloadWritten c b n s).planes = s.planes := rfl
@[simp] theorem payloadWritten_ds (c : ChannelId) (b : BlockId) (n : Nat) : (payloadWritten c b n s).ds = s.ds := rfl
@[simp] theorem payloadWritten_marks (c : ChannelId) (b : BlockId) (n : Nat) :
    (payloadWritten c b n s).marks = s.marks := rfl
@[simp] theorem payloadWritten_mu (c : ChannelId) (b : BlockId) (n : Nat) : (payloadWritten c b n s).mu = s.mu := rfl
@[simp] theorem payloadWritten_sl (c : ChannelId) (b : BlockId) (n : Nat) : (payloadWritten c b n s).sl = s.sl := rfl
@[simp] theorem payloadWritten_rp (c : ChannelId) (b : BlockId) (n : Nat) : (payloadWritten c b n s).rp = s.rp := rfl
@[simp] theorem payloadWritten_su (c : ChannelId) (b : BlockId) (n : Nat) : (payloadWritten c b n s).su = s.su := rfl
@[simp] theorem payloadWritten_mem (c : ChannelId) (b : BlockId) (n : Nat) : (payloadWritten c b n s).mem = s.mem := rfl
@[simp] theorem payloadWritten_pending (c : ChannelId) (b : BlockId) (n : Nat) :
    (payloadWritten c b n s).pending = s.pending := rfl
@[simp] theorem payloadWritten_resetArrivals (c : ChannelId) (b : BlockId) (n : Nat) :
    (payloadWritten c b n s).resetArrivals = s.resetArrivals := rfl
@[simp] theorem payloadWritten_orders (c : ChannelId) (b : BlockId) (n : Nat) :
    (payloadWritten c b n s).orders = s.orders := rfl
@[simp] theorem payloadWritten_fresh (c : ChannelId) (b : BlockId) (n : Nat) :
    (payloadWritten c b n s).fresh = s.fresh := rfl

@[simp] theorem flowTaken_ap (g c : Word32) : (flowTaken g c s).ap = s.ap := rfl
@[simp] theorem flowTaken_ts (g c : Word32) : (flowTaken g c s).ts = s.ts := rfl
@[simp] theorem flowTaken_chans (g c : Word32) : (flowTaken g c s).chans = s.chans := rfl
@[simp] theorem flowTaken_rm (g c : Word32) : (flowTaken g c s).rm = (takeFlow s.ts.settings g c (s.ds, s.rm)).2 := rfl
@[simp] theorem flowTaken_planes (g c : Word32) : (flowTaken g c s).planes = s.planes := rfl
@[simp] theorem flowTaken_ds (g c : Word32) : (flowTaken g c s).ds = (takeFlow s.ts.settings g c (s.ds, s.rm)).1 := rfl
@[simp] theorem flowTaken_marks (g c : Word32) : (flowTaken g c s).marks = s.marks := rfl
@[simp] theorem flowTaken_mu (g c : Word32) : (flowTaken g c s).mu = s.mu := rfl
@[simp] theorem flowTaken_sl (g c : Word32) : (flowTaken g c s).sl = s.sl := rfl
@[simp] theorem flowTaken_rp (g c : Word32) : (flowTaken g c s).rp = s.rp := rfl
@[simp] theorem flowTaken_su (g c : Word32) : (flowTaken g c s).su = s.su := rfl
@[simp] theorem flowTaken_mem (g c : Word32) : (flowTaken g c s).mem = s.mem := rfl
@[simp] theorem flowTaken_pending (g c : Word32) : (flowTaken g c s).pending = s.pending := rfl
@[simp] theorem flowTaken_resetArrivals (g c : Word32) : (flowTaken g c s).resetArrivals = s.resetArrivals := rfl
@[simp] theorem flowTaken_orders (g c : Word32) : (flowTaken g c s).orders = s.orders := rfl
@[simp] theorem flowTaken_fresh (g c : Word32) : (flowTaken g c s).fresh = s.fresh := rfl

@[simp] theorem dataSent_ap (h : Fin 2) : (dataSent h s).ap = s.ap := rfl
@[simp] theorem dataSent_ts (h : Fin 2) : (dataSent h s).ts = s.ts := rfl
@[simp] theorem dataSent_chans (h : Fin 2) : (dataSent h s).chans = s.chans := rfl
@[simp] theorem dataSent_rm (h : Fin 2) : (dataSent h s).rm = (dataEnd s.ts.settings h (s.ds, s.rm)).2 := rfl
@[simp] theorem dataSent_planes (h : Fin 2) : (dataSent h s).planes = s.planes := rfl
@[simp] theorem dataSent_ds (h : Fin 2) : (dataSent h s).ds = (dataEnd s.ts.settings h (s.ds, s.rm)).1 := rfl
@[simp] theorem dataSent_marks (h : Fin 2) : (dataSent h s).marks = s.marks := rfl
@[simp] theorem dataSent_mu (h : Fin 2) : (dataSent h s).mu = s.mu := rfl
@[simp] theorem dataSent_sl (h : Fin 2) : (dataSent h s).sl = s.sl := rfl
@[simp] theorem dataSent_rp (h : Fin 2) : (dataSent h s).rp = s.rp := rfl
@[simp] theorem dataSent_su (h : Fin 2) : (dataSent h s).su = s.su := rfl
@[simp] theorem dataSent_mem (h : Fin 2) : (dataSent h s).mem = s.mem := rfl
@[simp] theorem dataSent_pending (h : Fin 2) : (dataSent h s).pending = s.pending := rfl
@[simp] theorem dataSent_resetArrivals (h : Fin 2) : (dataSent h s).resetArrivals = s.resetArrivals := rfl
@[simp] theorem dataSent_orders (h : Fin 2) : (dataSent h s).orders = s.orders := rfl
@[simp] theorem dataSent_fresh (h : Fin 2) : (dataSent h s).fresh = s.fresh := rfl

@[simp] theorem drainDown_ap : (s.drainDown).ap = s.ap := rfl
@[simp] theorem drainDown_ts : (s.drainDown).ts = s.ts := rfl
@[simp] theorem drainDown_chans : (s.drainDown).chans = s.chans := rfl
@[simp] theorem drainDown_rm : (s.drainDown).rm = (collectionsDown s.ts.settings (s.ds, s.rm)).2 := rfl
@[simp] theorem drainDown_planes : (s.drainDown).planes = withdrawLoads s.planes := rfl
@[simp] theorem drainDown_marks : (s.drainDown).marks = s.marks := rfl
@[simp] theorem drainDown_mu : (s.drainDown).mu = s.mu := rfl
@[simp] theorem drainDown_sl : (s.drainDown).sl = s.sl := rfl
@[simp] theorem drainDown_rp : (s.drainDown).rp = s.rp := rfl
@[simp] theorem drainDown_su : (s.drainDown).su = s.su := rfl
@[simp] theorem drainDown_mem : (s.drainDown).mem = s.mem := rfl
@[simp] theorem drainDown_pending : (s.drainDown).pending = s.pending := rfl
@[simp] theorem drainDown_resetArrivals : (s.drainDown).resetArrivals = s.resetArrivals := rfl
@[simp] theorem drainDown_orders : (s.drainDown).orders = s.orders := rfl
@[simp] theorem drainDown_fresh : (s.drainDown).fresh = s.fresh := rfl

@[simp] theorem placeReply_ap (r : Request) (st : ReplyStatus) (bs : List Byte) : (placeReply r st bs s).ap = s.ap := rfl
@[simp] theorem placeReply_ts (r : Request) (st : ReplyStatus) (bs : List Byte) : (placeReply r st bs s).ts = s.ts := rfl
@[simp] theorem placeReply_chans (r : Request) (st : ReplyStatus) (bs : List Byte) :
    (placeReply r st bs s).chans = s.chans := rfl
@[simp] theorem placeReply_rm (r : Request) (st : ReplyStatus) (bs : List Byte) : (placeReply r st bs s).rm = s.rm := rfl
@[simp] theorem placeReply_planes (r : Request) (st : ReplyStatus) (bs : List Byte) :
    (placeReply r st bs s).planes = s.planes := rfl
@[simp] theorem placeReply_ds (r : Request) (st : ReplyStatus) (bs : List Byte) : (placeReply r st bs s).ds = s.ds := rfl
@[simp] theorem placeReply_marks (r : Request) (st : ReplyStatus) (bs : List Byte) :
    (placeReply r st bs s).marks = s.marks := rfl
@[simp] theorem placeReply_mu (r : Request) (st : ReplyStatus) (bs : List Byte) :
    (placeReply r st bs s).mu = { s.mu with replies := s.mu.replies ++ [⟨r.tag, r.kind, st, bs, s.mu.overflow⟩], overflow := false } := rfl
@[simp] theorem placeReply_sl (r : Request) (st : ReplyStatus) (bs : List Byte) : (placeReply r st bs s).sl = s.sl := rfl
@[simp] theorem placeReply_rp (r : Request) (st : ReplyStatus) (bs : List Byte) : (placeReply r st bs s).rp = s.rp := rfl
@[simp] theorem placeReply_su (r : Request) (st : ReplyStatus) (bs : List Byte) : (placeReply r st bs s).su = s.su := rfl
@[simp] theorem placeReply_mem (r : Request) (st : ReplyStatus) (bs : List Byte) : (placeReply r st bs s).mem = s.mem := rfl
@[simp] theorem placeReply_pending (r : Request) (st : ReplyStatus) (bs : List Byte) :
    (placeReply r st bs s).pending = s.pending := rfl
@[simp] theorem placeReply_resetArrivals (r : Request) (st : ReplyStatus) (bs : List Byte) :
    (placeReply r st bs s).resetArrivals = s.resetArrivals := rfl
@[simp] theorem placeReply_orders (r : Request) (st : ReplyStatus) (bs : List Byte) :
    (placeReply r st bs s).orders = s.orders := rfl
@[simp] theorem placeReply_fresh (r : Request) (st : ReplyStatus) (bs : List Byte) :
    (placeReply r st bs s).fresh = s.fresh := rfl

@[simp] theorem claimReview_ap (b : BlockId) (off len : Nat) : (claimReview b off len s).ap = s.ap := rfl
@[simp] theorem claimReview_ts (b : BlockId) (off len : Nat) : (claimReview b off len s).ts = s.ts := rfl
@[simp] theorem claimReview_chans (b : BlockId) (off len : Nat) : (claimReview b off len s).chans = s.chans := rfl
@[simp] theorem claimReview_rm (b : BlockId) (off len : Nat) : (claimReview b off len s).rm = s.rm := rfl
@[simp] theorem claimReview_planes (b : BlockId) (off len : Nat) :
    (claimReview b off len s).planes = put s.planes (planeOf b) { s.planes[planeOf b] with review := some ⟨b, off, len⟩ } := rfl
@[simp] theorem claimReview_ds (b : BlockId) (off len : Nat) : (claimReview b off len s).ds = s.ds := rfl
@[simp] theorem claimReview_marks (b : BlockId) (off len : Nat) : (claimReview b off len s).marks = s.marks := rfl
@[simp] theorem claimReview_mu (b : BlockId) (off len : Nat) : (claimReview b off len s).mu = s.mu := rfl
@[simp] theorem claimReview_sl (b : BlockId) (off len : Nat) : (claimReview b off len s).sl = s.sl := rfl
@[simp] theorem claimReview_rp (b : BlockId) (off len : Nat) :
    (claimReview b off len s).rp = { s.rp with slot := some (.read b off len) } := rfl
@[simp] theorem claimReview_su (b : BlockId) (off len : Nat) : (claimReview b off len s).su = s.su := rfl
@[simp] theorem claimReview_mem (b : BlockId) (off len : Nat) : (claimReview b off len s).mem = s.mem := rfl
@[simp] theorem claimReview_pending (b : BlockId) (off len : Nat) : (claimReview b off len s).pending = s.pending := rfl
@[simp] theorem claimReview_resetArrivals (b : BlockId) (off len : Nat) : (claimReview b off len s).resetArrivals = s.resetArrivals := rfl
@[simp] theorem claimReview_orders (b : BlockId) (off len : Nat) : (claimReview b off len s).orders = s.orders := rfl
@[simp] theorem claimReview_fresh (b : BlockId) (off len : Nat) : (claimReview b off len s).fresh = s.fresh := rfl

@[simp] theorem selectBlocks_ap : (selectBlocks s).ap = s.ap := rfl
@[simp] theorem selectBlocks_ts : (selectBlocks s).ts = s.ts := rfl
@[simp] theorem selectBlocks_chans : (selectBlocks s).chans = s.chans := rfl
@[simp] theorem selectBlocks_planes : (selectBlocks s).planes = s.planes := rfl
@[simp] theorem selectBlocks_marks : (selectBlocks s).marks = s.marks := rfl
@[simp] theorem selectBlocks_mu : (selectBlocks s).mu = s.mu := rfl
@[simp] theorem selectBlocks_sl : (selectBlocks s).sl = s.sl := rfl
@[simp] theorem selectBlocks_rp : (selectBlocks s).rp = s.rp := rfl
@[simp] theorem selectBlocks_su : (selectBlocks s).su = s.su := rfl
@[simp] theorem selectBlocks_mem : (selectBlocks s).mem = s.mem := rfl
@[simp] theorem selectBlocks_pending : (selectBlocks s).pending = s.pending := rfl
@[simp] theorem selectBlocks_resetArrivals : (selectBlocks s).resetArrivals = s.resetArrivals := rfl
@[simp] theorem selectBlocks_orders : (selectBlocks s).orders = s.orders := rfl
@[simp] theorem selectBlocks_fresh : (selectBlocks s).fresh = s.fresh := rfl

@[simp] theorem applySettings_ap (new : Settings) : (applySettings new s).ap = s.ap := rfl
@[simp] theorem applySettings_chans (new : Settings) : (applySettings new s).chans = s.chans := rfl
@[simp] theorem applySettings_rm (new : Settings) :
    (applySettings new s).rm = takeMask s new (takeMarks s.ts.settings new s.rm) := rfl
@[simp] theorem applySettings_planes (new : Settings) : (applySettings new s).planes = s.planes := rfl
@[simp] theorem applySettings_ds (new : Settings) : (applySettings new s).ds = s.ds := rfl
@[simp] theorem applySettings_marks (new : Settings) : (applySettings new s).marks = s.marks := rfl
@[simp] theorem applySettings_mu (new : Settings) : (applySettings new s).mu = s.mu := rfl
@[simp] theorem applySettings_sl (new : Settings) : (applySettings new s).sl = s.sl := rfl
@[simp] theorem applySettings_rp (new : Settings) : (applySettings new s).rp = s.rp := rfl
@[simp] theorem applySettings_su (new : Settings) : (applySettings new s).su = s.su := rfl
@[simp] theorem applySettings_mem (new : Settings) : (applySettings new s).mem = s.mem := rfl
@[simp] theorem applySettings_pending (new : Settings) : (applySettings new s).pending = s.pending := rfl
@[simp] theorem applySettings_resetArrivals (new : Settings) : (applySettings new s).resetArrivals = s.resetArrivals := rfl
@[simp] theorem applySettings_orders (new : Settings) : (applySettings new s).orders = s.orders := rfl
@[simp] theorem applySettings_fresh (new : Settings) : (applySettings new s).fresh = s.fresh := rfl

@[simp] theorem planeReady_ap (p : PlaneId) : (planeReady p s).ap = s.ap := rfl
@[simp] theorem planeReady_ts (p : PlaneId) : (planeReady p s).ts = s.ts := rfl
@[simp] theorem planeReady_chans (p : PlaneId) : (planeReady p s).chans = s.chans := rfl
@[simp] theorem planeReady_ds (p : PlaneId) : (planeReady p s).ds = s.ds := rfl
@[simp] theorem planeReady_marks (p : PlaneId) : (planeReady p s).marks = s.marks := rfl
@[simp] theorem planeReady_mu (p : PlaneId) : (planeReady p s).mu = s.mu := rfl
@[simp] theorem planeReady_sl (p : PlaneId) : (planeReady p s).sl = s.sl := rfl
@[simp] theorem planeReady_rp (p : PlaneId) : (planeReady p s).rp = s.rp := rfl
@[simp] theorem planeReady_su (p : PlaneId) : (planeReady p s).su = s.su := rfl
@[simp] theorem planeReady_mem (p : PlaneId) : (planeReady p s).mem = clearPlane s.mem p := rfl
@[simp] theorem planeReady_pending (p : PlaneId) : (planeReady p s).pending = s.pending := rfl
@[simp] theorem planeReady_resetArrivals (p : PlaneId) : (planeReady p s).resetArrivals = s.resetArrivals := rfl
@[simp] theorem planeReady_orders (p : PlaneId) : (planeReady p s).orders = s.orders := rfl
@[simp] theorem planeReady_fresh (p : PlaneId) : (planeReady p s).fresh = s.fresh := rfl

@[simp] theorem planeFaulty_ap (p : PlaneId) : (planeFaulty p s).ap = s.ap := rfl
@[simp] theorem planeFaulty_chans (p : PlaneId) : (planeFaulty p s).chans = s.chans := rfl
@[simp] theorem planeFaulty_rm (p : PlaneId) : (planeFaulty p s).rm = s.rm := rfl
@[simp] theorem planeFaulty_ds (p : PlaneId) : (planeFaulty p s).ds = s.ds := rfl
@[simp] theorem planeFaulty_marks (p : PlaneId) : (planeFaulty p s).marks = s.marks := rfl
@[simp] theorem planeFaulty_mu (p : PlaneId) : (planeFaulty p s).mu = s.mu := rfl
@[simp] theorem planeFaulty_sl (p : PlaneId) : (planeFaulty p s).sl = s.sl := rfl
@[simp] theorem planeFaulty_rp (p : PlaneId) : (planeFaulty p s).rp = s.rp := rfl
@[simp] theorem planeFaulty_su (p : PlaneId) : (planeFaulty p s).su = s.su := rfl
@[simp] theorem planeFaulty_mem (p : PlaneId) : (planeFaulty p s).mem = s.mem := rfl
@[simp] theorem planeFaulty_pending (p : PlaneId) : (planeFaulty p s).pending = s.pending := rfl
@[simp] theorem planeFaulty_resetArrivals (p : PlaneId) : (planeFaulty p s).resetArrivals = s.resetArrivals := rfl
@[simp] theorem planeFaulty_orders (p : PlaneId) : (planeFaulty p s).orders = s.orders := rfl
@[simp] theorem planeFaulty_fresh (p : PlaneId) : (planeFaulty p s).fresh = s.fresh := rfl

@[simp] theorem startHello_ap : (startHello s).ap = s.ap := rfl
@[simp] theorem startHello_ts : (startHello s).ts = s.ts := rfl
@[simp] theorem startHello_chans : (startHello s).chans = s.chans := rfl
@[simp] theorem startHello_rm : (startHello s).rm = s.rm := rfl
@[simp] theorem startHello_planes : (startHello s).planes = s.planes := rfl
@[simp] theorem startHello_ds : (startHello s).ds = s.ds := rfl
@[simp] theorem startHello_marks : (startHello s).marks = s.marks := rfl
@[simp] theorem startHello_mu : (startHello s).mu = s.mu := rfl
@[simp] theorem startHello_sl : (startHello s).sl = { s.sl with helloDue := false, tx := some (.hello s.hello true) } := rfl
@[simp] theorem startHello_rp : (startHello s).rp = s.rp := rfl
@[simp] theorem startHello_su : (startHello s).su = s.su := rfl
@[simp] theorem startHello_mem : (startHello s).mem = s.mem := rfl
@[simp] theorem startHello_pending : (startHello s).pending = s.pending := rfl
@[simp] theorem startHello_resetArrivals : (startHello s).resetArrivals = s.resetArrivals := rfl
@[simp] theorem startHello_orders : (startHello s).orders = s.orders := rfl
@[simp] theorem startHello_fresh : (startHello s).fresh = s.fresh := rfl

@[simp] theorem startReply_ap (r : Reply) : (startReply r s).ap = s.ap := rfl
@[simp] theorem startReply_ts (r : Reply) : (startReply r s).ts = s.ts := rfl
@[simp] theorem startReply_chans (r : Reply) : (startReply r s).chans = s.chans := rfl
@[simp] theorem startReply_rm (r : Reply) : (startReply r s).rm = s.rm := rfl
@[simp] theorem startReply_planes (r : Reply) : (startReply r s).planes = s.planes := rfl
@[simp] theorem startReply_ds (r : Reply) : (startReply r s).ds = s.ds := rfl
@[simp] theorem startReply_marks (r : Reply) : (startReply r s).marks = s.marks := rfl
@[simp] theorem startReply_mu (r : Reply) : (startReply r s).mu = { s.mu with replyInTx := true } := rfl
@[simp] theorem startReply_sl (r : Reply) : (startReply r s).sl = { s.sl with tx := some (.reply r) } := rfl
@[simp] theorem startReply_rp (r : Reply) : (startReply r s).rp = s.rp := rfl
@[simp] theorem startReply_su (r : Reply) : (startReply r s).su = s.su := rfl
@[simp] theorem startReply_mem (r : Reply) : (startReply r s).mem = s.mem := rfl
@[simp] theorem startReply_pending (r : Reply) : (startReply r s).pending = s.pending := rfl
@[simp] theorem startReply_resetArrivals (r : Reply) : (startReply r s).resetArrivals = s.resetArrivals := rfl
@[simp] theorem startReply_orders (r : Reply) : (startReply r s).orders = s.orders := rfl
@[simp] theorem startReply_fresh (r : Reply) : (startReply r s).fresh = s.fresh := rfl

@[simp] theorem startMark_ap (m : Mark) : (startMark m s).ap = s.ap := rfl
@[simp] theorem startMark_ts (m : Mark) : (startMark m s).ts = s.ts := rfl
@[simp] theorem startMark_chans (m : Mark) : (startMark m s).chans = s.chans := rfl
@[simp] theorem startMark_rm (m : Mark) : (startMark m s).rm = s.rm := rfl
@[simp] theorem startMark_planes (m : Mark) : (startMark m s).planes = s.planes := rfl
@[simp] theorem startMark_ds (m : Mark) : (startMark m s).ds = s.ds := rfl
@[simp] theorem startMark_marks (m : Mark) : (startMark m s).marks = { s.marks with headInTx := true } := rfl
@[simp] theorem startMark_mu (m : Mark) : (startMark m s).mu = s.mu := rfl
@[simp] theorem startMark_sl (m : Mark) : (startMark m s).sl = { s.sl with tx := some (.mark m true) } := rfl
@[simp] theorem startMark_rp (m : Mark) : (startMark m s).rp = s.rp := rfl
@[simp] theorem startMark_su (m : Mark) : (startMark m s).su = s.su := rfl
@[simp] theorem startMark_mem (m : Mark) : (startMark m s).mem = s.mem := rfl
@[simp] theorem startMark_pending (m : Mark) : (startMark m s).pending = s.pending := rfl
@[simp] theorem startMark_resetArrivals (m : Mark) : (startMark m s).resetArrivals = s.resetArrivals := rfl
@[simp] theorem startMark_orders (m : Mark) : (startMark m s).orders = s.orders := rfl
@[simp] theorem startMark_fresh (m : Mark) : (startMark m s).fresh = s.fresh := rfl

@[simp] theorem startData_ap (h : Fin 2) : (startData h s).ap = s.ap := rfl
@[simp] theorem startData_ts (h : Fin 2) : (startData h s).ts = s.ts := rfl
@[simp] theorem startData_chans (h : Fin 2) : (startData h s).chans = s.chans := rfl
@[simp] theorem startData_rm (h : Fin 2) : (startData h s).rm = s.rm := rfl
@[simp] theorem startData_planes (h : Fin 2) : (startData h s).planes = s.planes := rfl
@[simp] theorem startData_ds (h : Fin 2) : (startData h s).ds = s.ds.beginFrame s.rm h := rfl
@[simp] theorem startData_marks (h : Fin 2) : (startData h s).marks = s.marks := rfl
@[simp] theorem startData_mu (h : Fin 2) : (startData h s).mu = s.mu := rfl
@[simp] theorem startData_sl (h : Fin 2) : (startData h s).sl = { s.sl with tx := some (.data h) } := rfl
@[simp] theorem startData_rp (h : Fin 2) : (startData h s).rp = s.rp := rfl
@[simp] theorem startData_su (h : Fin 2) : (startData h s).su = s.su := rfl
@[simp] theorem startData_mem (h : Fin 2) : (startData h s).mem = s.mem := rfl
@[simp] theorem startData_pending (h : Fin 2) : (startData h s).pending = s.pending := rfl
@[simp] theorem startData_resetArrivals (h : Fin 2) : (startData h s).resetArrivals = s.resetArrivals := rfl
@[simp] theorem startData_orders (h : Fin 2) : (startData h s).orders = s.orders := rfl
@[simp] theorem startData_fresh (h : Fin 2) : (startData h s).fresh = s.fresh := rfl

end Sys2Proof.Machine
end

