-- ==== Sys2Proof/Laws/Frames.lean ====
section
/-! SUPPORT. What the shared operations over the whole part can touch: each is `s` with the named fields replaced. -/

namespace Sys2Proof.Machine

/-! ## The RESET pin's guard and events that cannot occur -/

theorem released_eq {s : State} (f : State → State) (h : s.su.resetLow = false) : released s f = .next (f s) := by
  simp [released, h]

theorem released_low {s : State} (f : State → State) (h : s.su.resetLow = true) : released s f = .next s := by
  simp [released, h]

/-- A guarded event goes on: to the event's effect, or to the same state while the pin is low. -/
theorem released_cases {s t : State} {f : State → State} (h : released s f = .next t) :
    (s.su.resetLow = false ∧ t = f s) ∨ (s.su.resetLow = true ∧ t = s) := by
  unfold released at h
  split at h
  · next hl => cases h; exact .inr ⟨hl, rfl⟩
  · next hl => cases h; exact .inl ⟨by simpa using hl, rfl⟩

theorem onlyWhen_cases (b : Bool) (f : State → State) (s : State) :
    (b = true ∧ onlyWhen b f s = f s) ∨ (b = false ∧ onlyWhen b f s = s) := by
  cases b <;> simp [onlyWhen]

@[simp] theorem onlyWhen_true (f : State → State) (s : State) : onlyWhen true f s = f s := rfl
@[simp] theorem onlyWhen_false (f : State → State) (s : State) : onlyWhen false f s = s := rfl

/-! ## Events common to the channels -/

/-- What holds once the event's order is taken, and is kept by every channel's share, holds at the end. -/
theorem eachChannel_induct {P : State → Prop} (f : ChannelId → State → State) (s : State) (h0 : P (dropOrder s))
    (hf : ∀ c t, P t → P (f c t)) : P (eachChannel f s) := by
  unfold eachChannel
  generalize dropOrder s = u at h0
  generalize nextOrder s = l
  induction l generalizing u with
  | nil => exact h0
  | cons c l ih => exact ih (f c u) (hf c u h0)

/-- A channel's event changes that channel, RM and MK. -/
theorem onChannel_eq (f : Env → Engine → Engine) (c : ChannelId) (s : State) :
    onChannel f c s = { s with chans := put s.chans c (f (s.env c) (s.engine c)).ch, rm := (f (s.env c) (s.engine c)).rm
                               marks := (f (s.env c) (s.engine c)).marks } := rfl

/-- An event common to the channels changes channels, RM and MK, and uses up one order. -/
theorem eachChannel_onChannel_eq (f : ChannelId → Env → Engine → Engine) (s : State) :
    ∃ (cs : Vector Channel 16) (r : Ring) (m : MarkUnit),
      eachChannel (fun c t => onChannel (f c) c t) s
        = { s with chans := cs, rm := r, marks := m, orders := s.orders.tail } := by
  refine eachChannel_induct (P := fun t => ∃ (cs : Vector Channel 16) (r : Ring) (m : MarkUnit),
    t = { s with chans := cs, rm := r, marks := m, orders := s.orders.tail }) _ s ⟨_, _, _, rfl⟩ ?_
  rintro c t ⟨cs, r, m, rfl⟩
  exact ⟨_, _, _, rfl⟩

/-! ## What DS and the arbiters do of their own -/

theorem selectBlocks_eq (s : State) : selectBlocks s = { s with ds := (selectBlocks s).ds, rm := (selectBlocks s).rm } := rfl

theorem claimLoad_eq (h : Fin 2) (s : State) :
    claimLoad h s = { s with ds := (claimLoad h s).ds, planes := (claimLoad h s).planes } := by
  unfold claimLoad
  split
  · split <;> rfl
  · rfl

theorem claimLoads_eq (s : State) : claimLoads s = { s with ds := (claimLoads s).ds, planes := (claimLoads s).planes } := by
  have h1 := claimLoad_eq 0 s
  have h2 := claimLoad_eq 1 (claimLoad 0 s)
  unfold claimLoads
  rw [h2, h1]

theorem drainWork_eq (s : State) :
    drainWork s = { s with ds := (drainWork s).ds, rm := (drainWork s).rm, planes := (drainWork s).planes } := by
  have h := claimLoads_eq (selectBlocks s)
  unfold drainWork
  rw [h, selectBlocks_eq s]

theorem grant_eq (p : PlaneId) (s : State) : grant p s = { s with planes := (grant p s).planes } := by
  unfold grant
  split <;> rfl

theorem grants_eq (s : State) : grants s = { s with planes := (grants s).planes } := by
  have h0 := grant_eq 0 s
  have h1 := grant_eq 1 (grant 0 s)
  have h2 := grant_eq 2 (grant 1 (grant 0 s))
  have h3 := grant_eq 3 (grant 2 (grant 1 (grant 0 s)))
  unfold grants
  rw [h3, h2, h1, h0]

/-- DS and the arbiters change DS, RM and the planes, and nothing else. -/
theorem settle_eq (s : State) :
    settle s = { s with ds := (settle s).ds, rm := (settle s).rm, planes := (settle s).planes } := by
  have h1 := drainWork_eq s
  have h2 := grants_eq (drainWork s)
  unfold settle
  rw [h2, h1]


@[simp] theorem claimLoads_ap (s : State) : (claimLoads s).ap = s.ap := by rw [claimLoads_eq]
@[simp] theorem claimLoads_ts (s : State) : (claimLoads s).ts = s.ts := by rw [claimLoads_eq]
@[simp] theorem claimLoads_chans (s : State) : (claimLoads s).chans = s.chans := by rw [claimLoads_eq]
@[simp] theorem claimLoads_rm (s : State) : (claimLoads s).rm = s.rm := by rw [claimLoads_eq]
@[simp] theorem claimLoads_marks (s : State) : (claimLoads s).marks = s.marks := by rw [claimLoads_eq]
@[simp] theorem claimLoads_mu (s : State) : (claimLoads s).mu = s.mu := by rw [claimLoads_eq]
@[simp] theorem claimLoads_sl (s : State) : (claimLoads s).sl = s.sl := by rw [claimLoads_eq]
@[simp] theorem claimLoads_rp (s : State) : (claimLoads s).rp = s.rp := by rw [claimLoads_eq]
@[simp] theorem claimLoads_su (s : State) : (claimLoads s).su = s.su := by rw [claimLoads_eq]
@[simp] theorem claimLoads_mem (s : State) : (claimLoads s).mem = s.mem := by rw [claimLoads_eq]
@[simp] theorem claimLoads_pending (s : State) : (claimLoads s).pending = s.pending := by rw [claimLoads_eq]
@[simp] theorem claimLoads_resetArrivals (s : State) : (claimLoads s).resetArrivals = s.resetArrivals := by rw [claimLoads_eq]
@[simp] theorem claimLoads_orders (s : State) : (claimLoads s).orders = s.orders := by rw [claimLoads_eq]
@[simp] theorem claimLoads_fresh (s : State) : (claimLoads s).fresh = s.fresh := by rw [claimLoads_eq]

@[simp] theorem grants_ap (s : State) : (grants s).ap = s.ap := by rw [grants_eq]
@[simp] theorem grants_ts (s : State) : (grants s).ts = s.ts := by rw [grants_eq]
@[simp] theorem grants_chans (s : State) : (grants s).chans = s.chans := by rw [grants_eq]
@[simp] theorem grants_rm (s : State) : (grants s).rm = s.rm := by rw [grants_eq]
@[simp] theorem grants_ds (s : State) : (grants s).ds = s.ds := by rw [grants_eq]
@[simp] theorem grants_marks (s : State) : (grants s).marks = s.marks := by rw [grants_eq]
@[simp] theorem grants_mu (s : State) : (grants s).mu = s.mu := by rw [grants_eq]
@[simp] theorem grants_sl (s : State) : (grants s).sl = s.sl := by rw [grants_eq]
@[simp] theorem grants_rp (s : State) : (grants s).rp = s.rp := by rw [grants_eq]
@[simp] theorem grants_su (s : State) : (grants s).su = s.su := by rw [grants_eq]
@[simp] theorem grants_mem (s : State) : (grants s).mem = s.mem := by rw [grants_eq]
@[simp] theorem grants_pending (s : State) : (grants s).pending = s.pending := by rw [grants_eq]
@[simp] theorem grants_resetArrivals (s : State) : (grants s).resetArrivals = s.resetArrivals := by rw [grants_eq]
@[simp] theorem grants_orders (s : State) : (grants s).orders = s.orders := by rw [grants_eq]
@[simp] theorem grants_fresh (s : State) : (grants s).fresh = s.fresh := by rw [grants_eq]

@[simp] theorem settle_ap (s : State) : (settle s).ap = s.ap := by rw [settle_eq]
@[simp] theorem settle_ts (s : State) : (settle s).ts = s.ts := by rw [settle_eq]
@[simp] theorem settle_chans (s : State) : (settle s).chans = s.chans := by rw [settle_eq]
@[simp] theorem settle_marks (s : State) : (settle s).marks = s.marks := by rw [settle_eq]
@[simp] theorem settle_mu (s : State) : (settle s).mu = s.mu := by rw [settle_eq]
@[simp] theorem settle_sl (s : State) : (settle s).sl = s.sl := by rw [settle_eq]
@[simp] theorem settle_rp (s : State) : (settle s).rp = s.rp := by rw [settle_eq]
@[simp] theorem settle_su (s : State) : (settle s).su = s.su := by rw [settle_eq]
@[simp] theorem settle_mem (s : State) : (settle s).mem = s.mem := by rw [settle_eq]
@[simp] theorem settle_pending (s : State) : (settle s).pending = s.pending := by rw [settle_eq]
@[simp] theorem settle_resetArrivals (s : State) : (settle s).resetArrivals = s.resetArrivals := by rw [settle_eq]
@[simp] theorem settle_orders (s : State) : (settle s).orders = s.orders := by rw [settle_eq]
@[simp] theorem settle_fresh (s : State) : (settle s).fresh = s.fresh := by rw [settle_eq]

/-! ## Requests -/

/-- A test for a start changes MU's queues alone. -/
theorem startFrom_eq : ∀ (q : List Request) (s : State), startFrom q s = { s with mu := (startFrom q s).mu }
  | [], s => rfl
  | r :: rest, s => by
    simp only [startFrom]
    split
    · split
      · have h := startFrom_eq rest (placeReply r .busy [] s); rw [h]; rfl
      · split
        · have h := startFrom_eq rest (placeReply r .badArg [] s); rw [h]; rfl
        · rfl
    · rfl

theorem startRequests_eq (s : State) : startRequests s = { s with mu := (startRequests s).mu } :=
  startFrom_eq s.mu.queue s

theorem arriveRequest_eq (r : Request) (s : State) : arriveRequest r s = { s with mu := (arriveRequest r s).mu } := by
  unfold arriveRequest
  split
  · have h := startRequests_eq (setQueue (s.mu.queue ++ [r]) s); rw [h]; rfl
  · rfl

/-- A reply and the test that follows change MU alone. -/
theorem finish_eq (r : Request) (x : Served) : finish r x = { x.1 with mu := (finish r x).mu } := by
  unfold finish
  have h := startRequests_eq { (placeReply r x.2.1 x.2.2 x.1) with
    mu := { (placeReply r x.2.1 x.2.2 x.1).mu with inProgress := none } }
  simp only at h ⊢
  rw [h]; rfl

/-- What a request of a row comes to: nothing without one, otherwise its judged outcome finished. -/
theorem serve_cases (row : RequestRow) (run : Request → State → Served) (s : State) :
    (inProgressOf row s = none ∧ serve row run s = s) ∨
    (∃ r, inProgressOf row s = some r ∧ serve row run s = finish r (judged row r (run r) s)) := by
  unfold serve
  split
  · next r h => exact .inr ⟨r, h, rfl⟩
  · next h => exact .inl ⟨h, rfl⟩


@[simp] theorem startRequests_ap (s : State) : (startRequests s).ap = s.ap := by rw [startRequests_eq]
@[simp] theorem startRequests_ts (s : State) : (startRequests s).ts = s.ts := by rw [startRequests_eq]
@[simp] theorem startRequests_chans (s : State) : (startRequests s).chans = s.chans := by rw [startRequests_eq]
@[simp] theorem startRequests_rm (s : State) : (startRequests s).rm = s.rm := by rw [startRequests_eq]
@[simp] theorem startRequests_planes (s : State) : (startRequests s).planes = s.planes := by rw [startRequests_eq]
@[simp] theorem startRequests_ds (s : State) : (startRequests s).ds = s.ds := by rw [startRequests_eq]
@[simp] theorem startRequests_marks (s : State) : (startRequests s).marks = s.marks := by rw [startRequests_eq]
@[simp] theorem startRequests_sl (s : State) : (startRequests s).sl = s.sl := by rw [startRequests_eq]
@[simp] theorem startRequests_rp (s : State) : (startRequests s).rp = s.rp := by rw [startRequests_eq]
@[simp] theorem startRequests_su (s : State) : (startRequests s).su = s.su := by rw [startRequests_eq]
@[simp] theorem startRequests_mem (s : State) : (startRequests s).mem = s.mem := by rw [startRequests_eq]
@[simp] theorem startRequests_pending (s : State) : (startRequests s).pending = s.pending := by rw [startRequests_eq]
@[simp] theorem startRequests_resetArrivals (s : State) : (startRequests s).resetArrivals = s.resetArrivals := by rw [startRequests_eq]
@[simp] theorem startRequests_orders (s : State) : (startRequests s).orders = s.orders := by rw [startRequests_eq]
@[simp] theorem startRequests_fresh (s : State) : (startRequests s).fresh = s.fresh := by rw [startRequests_eq]

@[simp] theorem arriveRequest_ap (r : Request) (s : State) : (arriveRequest r s).ap = s.ap := by rw [arriveRequest_eq]
@[simp] theorem arriveRequest_ts (r : Request) (s : State) : (arriveRequest r s).ts = s.ts := by rw [arriveRequest_eq]
@[simp] theorem arriveRequest_chans (r : Request) (s : State) : (arriveRequest r s).chans = s.chans := by rw [arriveRequest_eq]
@[simp] theorem arriveRequest_rm (r : Request) (s : State) : (arriveRequest r s).rm = s.rm := by rw [arriveRequest_eq]
@[simp] theorem arriveRequest_planes (r : Request) (s : State) : (arriveRequest r s).planes = s.planes := by rw [arriveRequest_eq]
@[simp] theorem arriveRequest_ds (r : Request) (s : State) : (arriveRequest r s).ds = s.ds := by rw [arriveRequest_eq]
@[simp] theorem arriveRequest_marks (r : Request) (s : State) : (arriveRequest r s).marks = s.marks := by rw [arriveRequest_eq]
@[simp] theorem arriveRequest_sl (r : Request) (s : State) : (arriveRequest r s).sl = s.sl := by rw [arriveRequest_eq]
@[simp] theorem arriveRequest_rp (r : Request) (s : State) : (arriveRequest r s).rp = s.rp := by rw [arriveRequest_eq]
@[simp] theorem arriveRequest_su (r : Request) (s : State) : (arriveRequest r s).su = s.su := by rw [arriveRequest_eq]
@[simp] theorem arriveRequest_mem (r : Request) (s : State) : (arriveRequest r s).mem = s.mem := by rw [arriveRequest_eq]
@[simp] theorem arriveRequest_pending (r : Request) (s : State) : (arriveRequest r s).pending = s.pending := by rw [arriveRequest_eq]
@[simp] theorem arriveRequest_resetArrivals (r : Request) (s : State) : (arriveRequest r s).resetArrivals = s.resetArrivals := by rw [arriveRequest_eq]
@[simp] theorem arriveRequest_orders (r : Request) (s : State) : (arriveRequest r s).orders = s.orders := by rw [arriveRequest_eq]
@[simp] theorem arriveRequest_fresh (r : Request) (s : State) : (arriveRequest r s).fresh = s.fresh := by rw [arriveRequest_eq]

@[simp] theorem finish_ap (r : Request) (x : Served) : (finish r x).ap = x.1.ap := by rw [finish_eq]
@[simp] theorem finish_ts (r : Request) (x : Served) : (finish r x).ts = x.1.ts := by rw [finish_eq]
@[simp] theorem finish_chans (r : Request) (x : Served) : (finish r x).chans = x.1.chans := by rw [finish_eq]
@[simp] theorem finish_rm (r : Request) (x : Served) : (finish r x).rm = x.1.rm := by rw [finish_eq]
@[simp] theorem finish_planes (r : Request) (x : Served) : (finish r x).planes = x.1.planes := by rw [finish_eq]
@[simp] theorem finish_ds (r : Request) (x : Served) : (finish r x).ds = x.1.ds := by rw [finish_eq]
@[simp] theorem finish_marks (r : Request) (x : Served) : (finish r x).marks = x.1.marks := by rw [finish_eq]
@[simp] theorem finish_sl (r : Request) (x : Served) : (finish r x).sl = x.1.sl := by rw [finish_eq]
@[simp] theorem finish_rp (r : Request) (x : Served) : (finish r x).rp = x.1.rp := by rw [finish_eq]
@[simp] theorem finish_su (r : Request) (x : Served) : (finish r x).su = x.1.su := by rw [finish_eq]
@[simp] theorem finish_mem (r : Request) (x : Served) : (finish r x).mem = x.1.mem := by rw [finish_eq]
@[simp] theorem finish_pending (r : Request) (x : Served) : (finish r x).pending = x.1.pending := by rw [finish_eq]
@[simp] theorem finish_resetArrivals (r : Request) (x : Served) : (finish r x).resetArrivals = x.1.resetArrivals := by rw [finish_eq]
@[simp] theorem finish_orders (r : Request) (x : Served) : (finish r x).orders = x.1.orders := by rw [finish_eq]
@[simp] theorem finish_fresh (r : Request) (x : Served) : (finish r x).fresh = x.1.fresh := by rw [finish_eq]

end Sys2Proof.Machine
end

