-- ==== Sys2Proof/Laws/Tables.lean ====
section
/-! SUPPORT. Fixed-length tables and tables with rising keys: what is read after a change, and that a change keeps the keys rising. -/

namespace Sys2Proof

/-! ## Fixed-length tables -/

@[simp] theorem get_put {α : Type} {n : Nat} (xs : Vector α n) (i : Fin n) (j : Nat) (hj : j < n) (a : α) :
    (put xs i a)[j] = if i.val = j then a else xs[j] := by
  simp [put, Vector.getElem_set]

theorem get_put_self {α : Type} {n : Nat} (xs : Vector α n) (i : Fin n) (a : α) : (put xs i a)[i] = a := by
  rw [Fin.getElem_fin, get_put, if_pos rfl]

theorem get_put_ne {α : Type} {n : Nat} (xs : Vector α n) {i j : Fin n} (a : α) (h : i ≠ j) :
    (put xs i a)[j] = xs[j] := by
  rw [Fin.getElem_fin, get_put, if_neg (fun e => h (Fin.ext e))]; rfl

@[simp] theorem put_get {α : Type} {n : Nat} (xs : Vector α n) (i : Fin n) : put xs i xs[i] = xs := by
  ext k hk
  simp only [put, Vector.getElem_set]
  split
  · next h => subst h; rfl
  · rfl

@[simp] theorem get_mapV {α β : Type} {n : Nat} (f : α → β) (xs : Vector α n) (i : Nat) (hi : i < n) :
    (mapV f xs)[i] = f xs[i] := by
  rcases xs with ⟨⟨l⟩, hl⟩
  simp [mapV]

end Sys2Proof

namespace Sys2Proof.Machine

/-! ## Tables with rising keys -/

/-- Every key of the table is above `k`. -/
def keysAbove {α : Type} (k : Nat) (l : List (Nat × α)) : Prop := ∀ e ∈ l, k < e.1

theorem keysAbove_of_rising {α : Type} : ∀ {e : Nat × α} {t : List (Nat × α)},
    tableRising (e :: t) = true → keysAbove e.1 t
  | _, [], _ => by simp [keysAbove]
  | (k, _), (k', w) :: t, h => by
    simp only [tableRising, Bool.and_eq_true, decide_eq_true_eq] at h
    intro e he
    rcases List.mem_cons.mp he with rfl | he
    · exact h.1
    · exact lt_trans h.1 (keysAbove_of_rising h.2 e he)

theorem rising_tail {α : Type} {e : Nat × α} {t : List (Nat × α)} (h : tableRising (e :: t) = true) :
    tableRising t = true := by
  cases t with
  | nil => rfl
  | cons e' t => simp only [tableRising, Bool.and_eq_true] at h; exact h.2

theorem rising_cons {α : Type} {e : Nat × α} {t : List (Nat × α)} (h : tableRising t = true) (ha : keysAbove e.1 t) :
    tableRising (e :: t) = true := by
  cases t with
  | nil => rfl
  | cons e' t =>
    simp only [tableRising, Bool.and_eq_true, decide_eq_true_eq]
    exact ⟨ha e' (by simp), h⟩

theorem tableGet_none_of_above {α : Type} {a : Nat} : ∀ {l : List (Nat × α)}, (∀ e ∈ l, a < e.1) → tableGet l a = none
  | [], _ => rfl
  | (k, w) :: t, h => by
    have : a < k := h (k, w) (by simp)
    simp only [tableGet, if_neg (Nat.ne_of_lt this)]
    exact tableGet_none_of_above (fun e he => h e (by simp [he]))

@[simp] theorem tableGet_tablePut {α : Type} : ∀ (l : List (Nat × α)) (a b : Nat) (v : α),
    tableGet (tablePut l a v) b = if b = a then some v else tableGet l b
  | [], a, b, v => by simp [tablePut, tableGet]
  | (k, w) :: t, a, b, v => by
    simp only [tablePut]
    split
    · simp [tableGet]
    · split
      · next h => subst h; simp only [tableGet]; split <;> rfl
      · next h =>
        simp only [tableGet, tableGet_tablePut t a b v]
        split
        · next hb => subst hb; simp [Ne.symm h]
        · rfl

theorem tableGet_tableDel {α : Type} : ∀ {l : List (Nat × α)} (a b : Nat), tableRising l = true →
    tableGet (tableDel l a) b = if b = a then none else tableGet l b
  | [], a, b, _ => by simp [tableDel, tableGet]
  | (k, w) :: t, a, b, h => by
    simp only [tableDel]
    split
    · next hk =>
      subst hk
      split
      · next hb => subst hb; exact tableGet_none_of_above (keysAbove_of_rising h)
      · next hb => simp [tableGet, hb]
    · next hk =>
      simp only [tableGet, tableGet_tableDel a b (rising_tail h)]
      split
      · next hb => subst hb; simp [Ne.symm hk]
      · rfl

theorem mem_tablePut {α : Type} : ∀ {l : List (Nat × α)} {a : Nat} {v : α} {e : Nat × α},
    e ∈ tablePut l a v → e = (a, v) ∨ e ∈ l
  | [], a, v, e, h => by simpa [tablePut] using h
  | (k, w) :: t, a, v, e, h => by
    simp only [tablePut] at h
    split at h
    · simpa using h
    · split at h
      · simp only [List.mem_cons] at h ⊢; tauto
      · rcases List.mem_cons.mp h with h | h
        · exact .inr (by simp [h])
        · rcases mem_tablePut h with h | h
          · exact .inl h
          · exact .inr (by simp [h])

theorem mem_tableDel {α : Type} : ∀ {l : List (Nat × α)} {a : Nat} {e : Nat × α}, e ∈ tableDel l a → e ∈ l
  | [], _, _, h => by simp [tableDel] at h
  | (k, w) :: t, a, e, h => by
    simp only [tableDel] at h
    split at h
    · simp [h]
    · rcases List.mem_cons.mp h with h | h
      · simp [h]
      · exact List.mem_cons_of_mem _ (mem_tableDel h)

theorem rising_tablePut {α : Type} : ∀ {l : List (Nat × α)} (a : Nat) (v : α), tableRising l = true →
    tableRising (tablePut l a v) = true
  | [], _, _, _ => rfl
  | (k, w) :: t, a, v, h => by
    simp only [tablePut]
    split
    · next hk =>
      refine rising_cons h ?_
      intro e he
      rcases List.mem_cons.mp he with rfl | he
      · exact hk
      · exact lt_trans hk (keysAbove_of_rising h e he)
    · split
      · next hk => subst hk; exact rising_cons (rising_tail h) (keysAbove_of_rising (e := (a, w)) h)
      · next hk hk' =>
        refine rising_cons (rising_tablePut a v (rising_tail h)) ?_
        intro e he
        rcases mem_tablePut he with rfl | he
        · show k < a; omega
        · exact keysAbove_of_rising h e he

theorem rising_tableDel {α : Type} : ∀ {l : List (Nat × α)} (a : Nat), tableRising l = true →
    tableRising (tableDel l a) = true
  | [], _, _ => rfl
  | (k, w) :: t, a, h => by
    simp only [tableDel]
    split
    · exact rising_tail h
    · refine rising_cons (rising_tableDel a (rising_tail h)) ?_
      intro e he
      exact keysAbove_of_rising h e (mem_tableDel he)

theorem rising_filter {α : Type} (q : Nat × α → Bool) : ∀ {l : List (Nat × α)}, tableRising l = true →
    tableRising (l.filter q) = true
  | [], _ => rfl
  | e :: t, h => by
    simp only [List.filter_cons]
    split
    · refine rising_cons (rising_filter q (rising_tail h)) ?_
      intro e' he'
      exact keysAbove_of_rising h e' (List.mem_of_mem_filter he')
    · exact rising_filter q (rising_tail h)

theorem tableGet_filter {α : Type} (q : Nat → Bool) : ∀ {l : List (Nat × α)} (a : Nat), tableRising l = true →
    tableGet (l.filter (fun e => q e.1)) a = if q a = true then tableGet l a else none
  | [], a, _ => by simp [tableGet]
  | (k, w) :: t, a, h => by
    have ih := tableGet_filter q (l := t) a (rising_tail h)
    simp only [List.filter_cons]
    by_cases hk : q k = true
    · simp only [hk, if_true, tableGet, ih]
      split
      · next ha => subst ha; simp [hk]
      · rfl
    · simp only [hk, tableGet]
      by_cases ha : a = k
      · subst ha
        simp only [if_true]
        rw [if_neg (by simp), ih]; simp [hk]
      · simp only [if_neg ha]; rw [if_neg (by simp)]; exact ih

end Sys2Proof.Machine
end

