-- ==== Sys2Proof/Laws/Ring.lean ====
section
/-! SUPPORT. The Ring Manager's operations: what each does to the descriptors, and what it leaves. -/

namespace Sys2Proof.Machine

/-- The block is neither FREE nor OFFLINE: RM holds a descriptor for it. -/
def Ring.holds (rm : Ring) (b : BlockId) : Prop := (tableGet rm.blocks b).isSome

theorem Ring.block_of_get {rm : Ring} {b : BlockId} {d : Descriptor} (h : tableGet rm.blocks b = some d) :
    rm.block b = d := by simp [Ring.block, h]

theorem Ring.get_of_holds {rm : Ring} {b : BlockId} (h : rm.holds b) : tableGet rm.blocks b = some (rm.block b) := by
  obtain ⟨d, hd⟩ := Option.isSome_iff_exists.mp h
  rw [hd, Ring.block_of_get hd]

/-- A block RM holds no descriptor for is FREE or OFFLINE, with no pins. -/
theorem Ring.block_of_none {rm : Ring} {b : BlockId} (h : tableGet rm.blocks b = none) :
    rm.block b = .cleared .free ∨ rm.block b = .cleared .offline := by
  simp only [Ring.block, h]
  split <;> simp

/-- A block in one of the states that can be pinned is held. -/
theorem Ring.holds_of_pinnable {rm : Ring} {b : BlockId} (h : pinnable (rm.block b).state = true) : rm.holds b := by
  unfold Ring.holds
  cases hg : tableGet rm.blocks b with
  | some d => rfl
  | none => rcases Ring.block_of_none hg with hb | hb <;> simp [hb, Descriptor.cleared, pinnable] at h

theorem Ring.holds_of_pins {rm : Ring} {b : BlockId} (h : (rm.block b).pins ≠ 0) : rm.holds b := by
  unfold Ring.holds
  cases hg : tableGet rm.blocks b with
  | some d => rfl
  | none => rcases Ring.block_of_none hg with hb | hb <;> simp [hb, Descriptor.cleared] at h

/-! ## A change of one descriptor -/

@[simp] theorem Ring.modify_free (rm : Ring) (b : BlockId) (f : Descriptor → Descriptor) : (rm.modify b f).free = rm.free := by
  unfold Ring.modify; split <;> rfl
@[simp] theorem Ring.modify_level (rm : Ring) (b : BlockId) (f : Descriptor → Descriptor) : (rm.modify b f).level = rm.level := by
  unfold Ring.modify; split <;> rfl
@[simp] theorem Ring.modify_rotation (rm : Ring) (b : BlockId) (f : Descriptor → Descriptor) :
    (rm.modify b f).rotation = rm.rotation := by unfold Ring.modify; split <;> rfl
@[simp] theorem Ring.modify_queues (rm : Ring) (b : BlockId) (f : Descriptor → Descriptor) :
    (rm.modify b f).queues = rm.queues := by unfold Ring.modify; split <;> rfl

theorem Ring.get_modify (rm : Ring) (b b' : BlockId) (f : Descriptor → Descriptor) :
    tableGet (rm.modify b f).blocks b' = if b' = b then (tableGet rm.blocks b).map f else tableGet rm.blocks b' := by
  unfold Ring.modify
  cases hg : tableGet rm.blocks b with
  | none =>
    by_cases hb : b' = b
    · subst hb; simp [hg]
    · simp [hb]
  | some d => simp only [tableGet_tablePut, Option.map_some]

/-- The block itself. -/
theorem Ring.block_modify {rm : Ring} {b : BlockId} (f : Descriptor → Descriptor) (h : rm.holds b) :
    (rm.modify b f).block b = f (rm.block b) := by
  apply Ring.block_of_get
  rw [Ring.get_modify, if_pos rfl, Ring.get_of_holds h]; rfl

/-- Every other block. -/
theorem Ring.block_modify_ne {rm : Ring} {b b' : BlockId} (f : Descriptor → Descriptor) (h : b' ≠ b) :
    (rm.modify b f).block b' = rm.block b' := by
  simp only [Ring.block, Ring.get_modify, if_neg h, Ring.modify_free]

theorem Ring.holds_modify (rm : Ring) (b b' : BlockId) (f : Descriptor → Descriptor) :
    (rm.modify b f).holds b' ↔ rm.holds b' := by
  unfold Ring.holds
  rw [Ring.get_modify]
  split
  · next h => subst h; simp
  · rfl

@[simp] theorem Ring.freeCount_modify (rm : Ring) (b : BlockId) (f : Descriptor → Descriptor) :
    (rm.modify b f).freeCount = rm.freeCount := by simp [Ring.freeCount, Ring.freeOf]

/-! ## Pressure -/

/-- An evaluation changes the level alone (R74). -/
@[simp] theorem Ring.evaluate_blocks (st : Settings) (rm : Ring) : (rm.evaluate st).blocks = rm.blocks := rfl
@[simp] theorem Ring.evaluate_free (st : Settings) (rm : Ring) : (rm.evaluate st).free = rm.free := rfl
@[simp] theorem Ring.evaluate_rotation (st : Settings) (rm : Ring) : (rm.evaluate st).rotation = rm.rotation := rfl
@[simp] theorem Ring.evaluate_queues (st : Settings) (rm : Ring) : (rm.evaluate st).queues = rm.queues := rfl
@[simp] theorem Ring.evaluate_level (st : Settings) (rm : Ring) :
    (rm.evaluate st).level = pressureLevel st rm.freeCount rm.level := rfl
@[simp] theorem Ring.block_evaluate (st : Settings) (rm : Ring) (b : BlockId) : (rm.evaluate st).block b = rm.block b := rfl
@[simp] theorem Ring.freeCount_evaluate (st : Settings) (rm : Ring) : (rm.evaluate st).freeCount = rm.freeCount := rfl

theorem Ring.evaluateSince_cases (rm : Ring) (st : Settings) (old : Ring) :
    (rm.freeCount = old.freeCount ∧ rm.evaluateSince st old = rm) ∨
    (rm.freeCount ≠ old.freeCount ∧ rm.evaluateSince st old = rm.evaluate st) := by
  unfold Ring.evaluateSince; split <;> simp_all

@[simp] theorem Ring.evaluateSince_blocks (rm : Ring) (st : Settings) (old : Ring) :
    (rm.evaluateSince st old).blocks = rm.blocks := by
  rcases Ring.evaluateSince_cases rm st old with ⟨_, h⟩ | ⟨_, h⟩ <;> rw [h]; rfl
@[simp] theorem Ring.evaluateSince_free (rm : Ring) (st : Settings) (old : Ring) :
    (rm.evaluateSince st old).free = rm.free := by
  rcases Ring.evaluateSince_cases rm st old with ⟨_, h⟩ | ⟨_, h⟩ <;> rw [h]; rfl
@[simp] theorem Ring.evaluateSince_queues (rm : Ring) (st : Settings) (old : Ring) :
    (rm.evaluateSince st old).queues = rm.queues := by
  rcases Ring.evaluateSince_cases rm st old with ⟨_, h⟩ | ⟨_, h⟩ <;> rw [h]; rfl
@[simp] theorem Ring.evaluateSince_rotation (rm : Ring) (st : Settings) (old : Ring) :
    (rm.evaluateSince st old).rotation = rm.rotation := by
  rcases Ring.evaluateSince_cases rm st old with ⟨_, h⟩ | ⟨_, h⟩ <;> rw [h]; rfl

/-! ## Return to FREE, allocation, queues -/

/-- A block returned to FREE has a cleared descriptor and stands at the tail of its plane's list (R69, R71). -/
theorem Ring.get_toFree {rm : Ring} (b b' : BlockId) (h : tableRising rm.blocks = true) :
    tableGet (rm.toFree b).blocks b' = if b' = b then none else tableGet rm.blocks b' :=
  tableGet_tableDel b b' h

theorem Ring.free_toFree (rm : Ring) (b : BlockId) :
    (rm.toFree b).free[planeOf b] = (rm.free[planeOf b]).map (fun l => l ++ [b]) := get_put_self _ _ _

/-- R72: a grant takes the head of a non-empty list, which becomes the rotation's plane. -/
theorem Ring.allocate_some {st : Settings} {rm rm' : Ring} {c : ChannelId} {run : Byte} {b : BlockId}
    (h : rm.allocate st c run = some (b, rm')) :
    ∃ p rest, (searchOrder rm.rotation).findSome? rm.freeHead = some (p, b, rest) ∧ rm.free[p] = some (b :: rest) ∧
      rm' = Ring.evaluate st { rm with free := put rm.free p (some rest), rotation := p
                                       blocks := tablePut rm.blocks b (.allocated c run) } := by
  unfold Ring.allocate at h
  split at h
  · cases h
  · next p b' rest hf =>
    simp only [Option.some.injEq, Prod.mk.injEq] at h
    obtain ⟨rfl, rfl⟩ := h
    refine ⟨p, rest, hf, ?_, rfl⟩
    obtain ⟨q, -, hq⟩ := List.exists_of_findSome?_eq_some hf
    simp only [Ring.freeHead] at hq
    split at hq
    · next b0 r0 hl => simp only [Option.some.injEq, Prod.mk.injEq] at hq; obtain ⟨rfl, rfl, rfl⟩ := hq; exact hl
    · cases hq

/-- R80: what queuing does to a held block with a class. -/
theorem Ring.enqueue_eq {rm : Ring} {b : BlockId} {k : ClassId} (h : (rm.block b).cls = some k) :
    rm.enqueue b = { (rm.modify b (fun d => { d with state := .queued })) with
                       queues := put rm.queues k (rm.queues[k] ++ [b]) } := by
  simp [Ring.enqueue, h]

/-- A pin's outcomes (R87). -/
theorem Ring.pin_cases (rm : Ring) (b : BlockId) :
    (pinnable (rm.block b).state = true ∧ (rm.block b).pins < 3 ∧
      rm.pin b = (.ok, rm.modify b (fun d => { d with pins := d.pins + 1 }))) ∨
    (pinnable (rm.block b).state = true ∧ 3 ≤ (rm.block b).pins ∧ rm.pin b = (.pinLimit, rm)) ∨
    (pinnable (rm.block b).state = false ∧ rm.pin b = (.badState, rm)) := by
  unfold Ring.pin
  split
  · next h =>
    split
    · next h' => exact .inl ⟨h, h', rfl⟩
    · next h' => exact .inr (.inl ⟨h, by simpa [Config.pinMax] using h', rfl⟩)
  · next h => exact .inr (.inr ⟨by simpa using h, rfl⟩)

end Sys2Proof.Machine
end

