-- ==== Sys2Proof/Laws/Channels.lean ====
section
/-! SUPPORT. The Channel Engine's shared operations: what each leaves of the channel, and how a channel's state and next index move. -/

namespace Sys2Proof.Machine

/-! ## Records -/

theorem closeRecord_of_none {kind : EndKind} {e : Engine} (h : e.ch.record = none) : closeRecord kind e = e := by
  simp [closeRecord, h]

/-- What closing a record leaves of the channel and of MK. -/
theorem closeRecord_frame (kind : EndKind) (e : Engine) :
    (closeRecord kind e).marks = e.marks ∧ (closeRecord kind e).ch.state = e.ch.state ∧ (closeRecord kind e).ch.run = e.ch.run ∧
    (closeRecord kind e).ch.nextIndex = e.ch.nextIndex ∧ (closeRecord kind e).ch.lastSweep = e.ch.lastSweep ∧
    (closeRecord kind e).ch.current = e.ch.current ∧ (closeRecord kind e).ch.group = e.ch.group ∧
    (closeRecord kind e).ch.filling = e.ch.filling ∧ (closeRecord kind e).ch.sealTimer = e.ch.sealTimer ∧
    (closeRecord kind e).ch.gap = e.ch.gap ∧ (closeRecord kind e).rm.free = e.rm.free ∧
    (closeRecord kind e).rm.level = e.rm.level ∧ (closeRecord kind e).rm.queues = e.rm.queues := by
  unfold closeRecord; split <;> simp

/-- A sound channel has no open record after a close. -/
theorem closeRecord_record {kind : EndKind} {e : Engine} (h : e.ch.record.isSome → e.ch.current.isSome) :
    (closeRecord kind e).ch.record = none := by
  unfold closeRecord
  cases hr : e.ch.record with
  | none => simp [hr]
  | some r =>
    obtain ⟨cp, hc⟩ := Option.isSome_iff_exists.mp (h (by simp [hr]))
    simp [hc]

theorem abandonRecord_frame (e : Engine) :
    (abandonRecord e).marks = e.marks ∧ (abandonRecord e).ch = { e.ch with record := none } := by
  unfold abandonRecord; split
  · next h => exact ⟨rfl, by rw [← h]⟩
  · exact ⟨rfl, rfl⟩

/-- Sealing clears the filling block and the timer and leaves the rest of the channel. -/
theorem sealFilling_frame (v : Env) (cause : SealCause) (e : Engine) :
    (sealFilling v cause e).marks = e.marks ∧ (sealFilling v cause e).ch.filling = none ∧
    (sealFilling v cause e).ch.state = e.ch.state ∧ (sealFilling v cause e).ch.run = e.ch.run ∧
    (sealFilling v cause e).ch.nextIndex = e.ch.nextIndex ∧ (sealFilling v cause e).ch.lastSweep = e.ch.lastSweep ∧
    (sealFilling v cause e).ch.current = e.ch.current ∧ (sealFilling v cause e).ch.group = e.ch.group ∧
    (sealFilling v cause e).ch.record = e.ch.record ∧ (sealFilling v cause e).ch.pack = e.ch.pack ∧
    (sealFilling v cause e).ch.runs = e.ch.runs ∧ (sealFilling v cause e).ch.waiting = e.ch.waiting ∧
    (sealFilling v cause e).ch.gap = e.ch.gap := by
  unfold sealFilling; split
  · next h => simp [h]
  · simp

/-! ## What placing a value leaves -/

/-- The fields of a channel that no placement touches. -/
def SameRun (a b : Channel) : Prop := b.run = a.run ∧ b.nextIndex = a.nextIndex ∧ b.lastSweep = a.lastSweep

theorem SameRun.refl (a : Channel) : SameRun a a := ⟨rfl, rfl, rfl⟩
theorem SameRun.trans {a b c : Channel} (h : SameRun a b) (h' : SameRun b c) : SameRun a c :=
  ⟨h'.1.trans h.1, h'.2.1.trans h.2.1, h'.2.2.trans h.2.2⟩

/-- A placement keeps the run, the index, the sweep, the state, the gap, the profile, the group and MK. -/
def PlacementFrame (e e' : Engine) : Prop :=
  SameRun e.ch e'.ch ∧ e'.marks = e.marks ∧ e'.ch.state = e.ch.state ∧ e'.ch.gap = e.ch.gap ∧ e'.ch.current = e.ch.current ∧
  e'.ch.group = e.ch.group

theorem PlacementFrame.refl (e : Engine) : PlacementFrame e e := ⟨.refl _, rfl, rfl, rfl, rfl, rfl⟩
theorem PlacementFrame.trans {a b c : Engine} (h : PlacementFrame a b) (h' : PlacementFrame b c) : PlacementFrame a c :=
  ⟨h.1.trans h'.1, h'.2.1.trans h.2.1, h'.2.2.1.trans h.2.2.1, h'.2.2.2.1.trans h.2.2.2.1, h'.2.2.2.2.1.trans h.2.2.2.2.1,
    h'.2.2.2.2.2.trans h.2.2.2.2.2⟩

theorem sealFilling_placement (v : Env) (cause : SealCause) (e : Engine) : PlacementFrame e (sealFilling v cause e) := by
  obtain ⟨h1, -, h3, h4, h5, h6, h7, h8, -, -, -, -, h13⟩ := sealFilling_frame v cause e
  exact ⟨⟨h4, h5, h6⟩, h1, h3, h13, h7, h8⟩

theorem closeRecord_placement (kind : EndKind) (e : Engine) : PlacementFrame e (closeRecord kind e) := by
  obtain ⟨h1, h2, h3, h4, h5, h6, h7, -, -, h10, -⟩ := closeRecord_frame kind e
  exact ⟨⟨h3, h4, h5⟩, h1, h2, h10, h6, h7⟩

theorem abandonRecord_placement (e : Engine) : PlacementFrame e (abandonRecord e) := by
  obtain ⟨h1, h2⟩ := abandonRecord_frame e
  refine ⟨⟨?_, ?_, ?_⟩, h1, ?_, ?_, ?_, ?_⟩ <;> rw [h2]

theorem ensureBlock_placement (v : Env) (need : Nat) (e : Engine) : PlacementFrame e (ensureBlock v need e).1 := by
  have h : PlacementFrame e
      (if e.ch.filling.isSome && decide (Config.blockSize < e.fillingUsed + need) then sealFilling v .full e else e) := by
    split
    · exact sealFilling_placement v .full e
    · exact .refl e
  unfold ensureBlock
  generalize (if e.ch.filling.isSome && decide (Config.blockSize < e.fillingUsed + need) then sealFilling v .full e else e) = e1 at h ⊢
  refine h.trans ?_
  dsimp only
  split
  · exact .refl _
  · split
    · exact .refl _
    · exact ⟨⟨rfl, rfl, rfl⟩, rfl, rfl, rfl, rfl, rfl⟩

theorem openRecord_placement (v : Env) (need : Nat) (g : Group) (e : Engine) : PlacementFrame e (openRecord v need g e) := by
  unfold openRecord; split
  · exact .refl _
  · exact ⟨⟨rfl, rfl, rfl⟩, rfl, rfl, rfl, rfl, rfl⟩

theorem startRecord_placement (v : Env) (p : Profile) (g : Group) (e : Engine) : PlacementFrame e (startRecord v p g e).1 := by
  have h := ensureBlock_placement v (recordSize p.width p.recordLen) e
  unfold startRecord
  split
  · next e1 he => rw [he] at h; exact h
  · next e1 he =>
    rw [he] at h
    split
    · exact h
    · exact h.trans (openRecord_placement v _ g e1)

theorem placeUnit_placement (p : Profile) (g : Group) (e : Engine) : PlacementFrame e (placeUnit p g e).1 := by
  have hemit : ∀ r, PlacementFrame e (emitUnit p g r e) := fun r => ⟨⟨rfl, rfl, rfl⟩, rfl, rfl, rfl, rfl, rfl⟩
  unfold placeUnit
  split
  · exact .refl _
  · next r _ =>
    split
    · dsimp only
      split
      · exact (hemit r).trans (closeRecord_placement .split _)
      · exact hemit r
    · split
      · exact abandonRecord_placement e
      · exact .refl _

/-- A placement, taken or failed. -/
theorem place_placement (v : Env) (g : Group) (e : Engine) : PlacementFrame e (place v g e).1 := by
  unfold place
  split
  · exact .refl _
  · next cp _ =>
    split
    · exact placeUnit_placement cp.content g e
    · have h := startRecord_placement v cp.content g e
      split
      · next e1 c he => rw [he] at h; exact h
      · next e1 he => rw [he] at h; exact h.trans (placeUnit_placement cp.content g e1)

/-! ## Loss and ends -/

theorem lose_frame (v : Env) (first n frame : Word64) (cause : LossCause) (ch : Channel) :
    SameRun ch (lose v first n frame cause ch) ∧ (lose v first n frame cause ch).current = ch.current ∧
    (lose v first n frame cause ch).group = ch.group ∧ (lose v first n frame cause ch).record = ch.record ∧
    (lose v first n frame cause ch).filling = ch.filling := by
  unfold lose; split <;> exact ⟨⟨rfl, rfl, rfl⟩, rfl, rfl, rfl, rfl⟩

/-- A group that is placed leaves the run and the index; the channel keeps its state or, when ACTIVE, enters LOSS (R30). -/
theorem placeGroup_frame (v : Env) (g : Group) (e : Engine) :
    SameRun e.ch (placeGroup v g e).ch ∧ (placeGroup v g e).marks = e.marks ∧
    ((placeGroup v g e).ch.state = e.ch.state ∨ (e.ch.state = .active ∧ (placeGroup v g e).ch.state = .loss)) ∧
    (placeGroup v g e).ch.group = none := by
  have h := place_placement v g { e with ch := { e.ch with group := none } }
  unfold placeGroup
  split
  · next e1 he =>
    rw [he] at h
    exact ⟨h.1, h.2.1, .inl h.2.2.1, h.2.2.2.2.2⟩
  · next e1 cause he =>
    rw [he] at h
    have hc := closeRecord_placement .break_ e1
    have hl := lose_frame v g.firstIndex (BitVec.ofNat 64 g.n) g.firstFrame cause
      { (closeRecord .break_ e1).ch with current := none, group := none }
    refine ⟨?_, ?_, ?_, ?_⟩
    · exact (h.1.trans hc.1).trans hl.1
    · exact hc.2.1.trans h.2.1
    · have hs : (closeRecord .break_ e1).ch.state = e.ch.state := hc.2.2.1.trans h.2.2.1
      unfold failPlacement lose
      dsimp only
      rw [hs]
      cases e.ch.state <;> simp
    · exact hl.2.2.1

/-- A BREAK end leaves the run and the index; an ACTIVE channel stays so or enters LOSS; no profile and no group is left (R63). -/
theorem breakEnd_frame (v : Env) (e : Engine) :
    SameRun e.ch (breakEnd v e).ch ∧ (breakEnd v e).marks = e.marks ∧
    ((breakEnd v e).ch.state = e.ch.state ∨ (e.ch.state = .active ∧ (breakEnd v e).ch.state = .loss)) ∧
    (breakEnd v e).ch.group = none ∧ (breakEnd v e).ch.current = none := by
  unfold breakEnd
  cases hg : e.ch.group with
  | none =>
    have hc := closeRecord_placement .break_ e
    exact ⟨hc.1, hc.2.1, .inl hc.2.2.1, hc.2.2.2.2.2.trans hg, rfl⟩
  | some g =>
    have hp := placeGroup_frame v g e
    have hc := closeRecord_placement .break_ (placeGroup v g e)
    refine ⟨hp.1.trans hc.1, hc.2.1.trans hp.2.1, ?_, hc.2.2.2.2.2.trans hp.2.2.2, rfl⟩
    have hs : (closeRecord .break_ (placeGroup v g e)).ch.state = (placeGroup v g e).ch.state := hc.2.2.1
    rcases hp.2.2.1 with h | ⟨h, h'⟩
    · exact .inl (hs.trans h)
    · exact .inr ⟨h, hs.trans h'⟩

end Sys2Proof.Machine
end

