-- ==== Sys2Proof/Laws/Codec.lean ====
section
/-! SUPPORT. Little-endian numbers and the frame check: lengths, and what a reader finds of what a writer wrote. -/

namespace Sys2Proof

@[simp] theorem leBytes_length : ∀ n x, (leBytes n x).length = n
  | 0, _ => rfl
  | n + 1, x => by simp [leBytes, leBytes_length n]

/-- A number below 256^n survives its n bytes. -/
theorem leNat_leBytes : ∀ n x, x < 256 ^ n → leNat (leBytes n x) = x
  | 0, x, h => by simp [leBytes, leNat] at *; omega
  | n + 1, x, h => by
    have hd : x / 256 < 256 ^ n := by
      rw [Nat.div_lt_iff_lt_mul (by omega)]; rw [Nat.pow_succ] at h; omega
    simp only [leBytes, leNat, BitVec.toNat_ofNat, leNat_leBytes n _ hd]
    omega

theorem leNat_lt : ∀ bs, leNat bs < 256 ^ bs.length
  | [] => by simp [leNat]
  | b :: bs => by
    have := leNat_lt bs
    have := b.isLt
    simp only [leNat, List.length_cons, Nat.pow_succ]
    omega

/-- A field whose bytes follow `pre`. -/
theorem leAt_append (pre fld post : List Byte) : leAt (pre ++ fld ++ post) pre.length fld.length = leNat fld := by
  simp [leAt]

@[simp] theorem withCheck_length (body : List Byte) : (withCheck body).length = body.length + 4 := by simp [withCheck]

/-- The body of a frame with its check. -/
theorem withCheck_take (body : List Byte) : (withCheck body).take ((withCheck body).length - 4) = body := by
  simp [withCheck]

/-- The check of a frame. -/
theorem withCheck_drop (body : List Byte) :
    leNat ((withCheck body).drop ((withCheck body).length - 4)) = (crc32 body).toNat := by
  have h : (crc32 body).toNat < 256 ^ 4 := by have := (crc32 body).isLt; omega
  simp [withCheck, leNat_leBytes 4 _ h]

/-- A body of one byte or more is judged by its layout alone once its check stands behind it. -/
theorem decodeReturnFrame_withCheck (body : List Byte) (h : 1 ≤ body.length) :
    decodeReturnFrame (withCheck body) = decodeReturnBody body := by
  have hl : ¬ (withCheck body).length < 5 := by simp; omega
  simp only [decodeReturnFrame, if_neg hl, withCheck_take, withCheck_drop, if_true]

end Sys2Proof
end

