-- ==== Sys2Proof/Laws/Drain.lean ====
section
/-! SUPPORT. The Drain Scheduler's shared operations: members of the lists, what a selection and a claim can do. -/

namespace Sys2Proof.Machine

@[simp] theorem mem_insertBySeq {m x : Sequenced} : ∀ {l : List Sequenced}, x ∈ insertBySeq m l ↔ x = m ∨ x ∈ l
  | [] => by simp [insertBySeq]
  | y :: t => by
    unfold insertBySeq
    split
    · simp
    · simp only [List.mem_cons, mem_insertBySeq (l := t)]
      tauto

@[simp] theorem length_insertBySeq (m : Sequenced) : ∀ l : List Sequenced, (insertBySeq m l).length = l.length + 1
  | [] => rfl
  | y :: t => by
    unfold insertBySeq
    split
    · rfl
    · simp [length_insertBySeq m t]

/-- One selection: nothing, the REDRAIN head, or a new block at the head of a class queue under the credit (R112 to R116). -/
theorem selectOnce_cases (allowed : Bool) (w : Vector Nat 4) (x : Drain × Ring) :
    selectOnce allowed w x = x ∨
    (allowed = true ∧ x.1.slot.length < 2 ∧
      ((∃ m rest, x.1.redrain = m :: rest ∧ selectOnce allowed w x = selectRedrain m rest x) ∨
       (x.1.redrain = [] ∧ x.1.credit = true ∧ selectOnce allowed w x = selectNew w x))) := by
  unfold selectOnce
  split
  · next h =>
    simp only [Bool.and_eq_true, decide_eq_true_eq] at h
    split
    · next m rest hr => exact .inr ⟨h.1, h.2, .inl ⟨m, rest, hr, rfl⟩⟩
    · next hr =>
      split
      · next hc => exact .inr ⟨h.1, h.2, .inr ⟨hr, hc, rfl⟩⟩
      · exact .inl rfl
  · exact .inl rfl

/-- A new selection takes the head of a class queue and gives it next_seq (R115, R116). -/
theorem selectNew_cases (w : Vector Nat 4) (x : Drain × Ring) :
    selectNew w x = x ∨
    ∃ k cur turn b rest, wrrSearch w x.2.queues x.1.currentClass x.1.turn = some (k, cur, turn) ∧ x.2.queues[k] = b :: rest ∧
      (selectNew w x).1 = { x.1 with currentClass := cur, turn := turn, highest := x.1.nextSeq, nextSeq := x.1.nextSeq + 1#32,
                                     slot := x.1.slot ++ [⟨b, x.1.nextSeq, false, false, 0, 0⟩] } ∧
      (selectNew w x).2 = Ring.modify { x.2 with queues := put x.2.queues k rest } b
        (fun d => { d with state := .sending, seq := some x.1.nextSeq }) := by
  unfold selectNew
  split
  · exact .inl rfl
  · next k cur turn h =>
    split
    · exact .inl rfl
    · next b rest hq => exact .inr ⟨k, cur, turn, b, rest, h, hq, rfl, rfl⟩

/-- A claim keeps every entry's block, sequence and marks. -/
theorem claimNext_map {rm : Ring} : ∀ {l : List SlotEntry} {e : SlotEntry} {l' : List SlotEntry},
    claimNext rm l = some (e, l') →
      l'.map (fun x => (x.block, x.seq, x.covered, x.resend, x.begun)) = l.map (fun x => (x.block, x.seq, x.covered, x.resend, x.begun))
  | [], _, _, h => by simp [claimNext] at h
  | a :: t, e, l', h => by
    unfold claimNext at h
    split at h
    · simp only [Option.some.injEq, Prod.mk.injEq] at h
      obtain ⟨rfl, rfl⟩ := h
      simp
    · simp only [Option.map_eq_some_iff] at h
      obtain ⟨⟨e', t'⟩, h', h''⟩ := h
      simp only [Prod.mk.injEq] at h''
      obtain ⟨rfl, rfl⟩ := h''
      simp [claimNext_map h']

end Sys2Proof.Machine
end

