-- ==== Sys2Proof/Laws/Memory.lean ====
section
/-! SUPPORT. Capture memory: a read after a write, and that every memory operation keeps the canonical form. -/

namespace Sys2Proof.Machine

theorem Memory.wf_rising {m : List Host.Cell} (h : Memory.wf m = true) : tableRising m = true := by
  simp only [Memory.wf, Bool.and_eq_true] at h; exact h.1

theorem Memory.wf_nonzero {m : List Host.Cell} (h : Memory.wf m = true) : ∀ e ∈ m, e.2 ≠ 0#8 := by
  simp only [Memory.wf, Bool.and_eq_true, List.all_eq_true, bne_iff_ne] at h; exact h.2

theorem Memory.wf_of {m : List Host.Cell} (hr : tableRising m = true) (hz : ∀ e ∈ m, e.2 ≠ 0#8) : Memory.wf m = true := by
  simp only [Memory.wf, Bool.and_eq_true, List.all_eq_true, bne_iff_ne]; exact ⟨hr, hz⟩

/-- A write keeps the canonical form. -/
theorem wf_writeByte {m : List Host.Cell} (a : Nat) (v : Byte) (h : Memory.wf m = true) :
    Memory.wf (writeByte m a v) = true := by
  simp only [writeByte]
  split
  · exact Memory.wf_of (rising_tableDel a (Memory.wf_rising h)) (fun e he => Memory.wf_nonzero h e (mem_tableDel he))
  · next hv =>
    refine Memory.wf_of (rising_tablePut a v (Memory.wf_rising h)) (fun e he => ?_)
    rcases mem_tablePut he with rfl | he
    · exact hv
    · exact Memory.wf_nonzero h e he

theorem wf_writeBytes : ∀ (bs : List Byte) {m : List Host.Cell} (a : Nat), Memory.wf m = true →
    Memory.wf (writeBytes m a bs) = true
  | [], _, _, h => h
  | b :: bs, _, a, h => wf_writeBytes bs (a + 1) (wf_writeByte a b h)

theorem wf_clearPlane {m : List Host.Cell} (p : PlaneId) (h : Memory.wf m = true) : Memory.wf (clearPlane m p) = true :=
  Memory.wf_of (rising_filter _ (Memory.wf_rising h))
    (fun e he => Memory.wf_nonzero h e (List.mem_of_mem_filter he))

/-- Reading after one byte was written. -/
theorem readByte_writeByte {m : List Host.Cell} (a b : Nat) (v : Byte) (h : Memory.wf m = true) :
    readByte (writeByte m a v) b = if b = a then v else readByte m b := by
  simp only [readByte, writeByte]
  split
  · next hv =>
    subst hv
    rw [tableGet_tableDel a b (Memory.wf_rising h)]
    split <;> rfl
  · rw [tableGet_tablePut]; split <;> rfl

/-- Reading outside the bytes written. -/
theorem readByte_writeBytes_outside : ∀ (bs : List Byte) {m : List Host.Cell} (a b : Nat), Memory.wf m = true →
    (b < a ∨ a + bs.length ≤ b) → readByte (writeBytes m a bs) b = readByte m b
  | [], _, _, _, _, _ => rfl
  | v :: bs, m, a, b, h, hb => by
    simp only [List.length_cons] at hb
    rw [writeBytes, readByte_writeBytes_outside bs (a + 1) b (wf_writeByte a v h) (by omega),
      readByte_writeByte a b v h, if_neg (by omega)]

/-- Reading inside the bytes written. -/
theorem readByte_writeBytes_inside : ∀ (bs : List Byte) {m : List Host.Cell} (a i : Nat) (hi : i < bs.length),
    Memory.wf m = true → readByte (writeBytes m a bs) (a + i) = bs[i]
  | v :: bs, m, a, 0, _, h => by
    rw [writeBytes, readByte_writeBytes_outside bs (a + 1) (a + 0) (wf_writeByte a v h) (by omega)]
    simp [readByte_writeByte a a v h]
  | v :: bs, m, a, i + 1, hi, h => by
    have := readByte_writeBytes_inside bs (a + 1) i (by simpa using hi) (wf_writeByte a v h)
    rw [writeBytes, show a + (i + 1) = a + 1 + i by omega, this]; rfl

/-- A cleared plane reads 0, and the others as before (R105). -/
theorem readByte_clearPlane {m : List Host.Cell} (p : PlaneId) (a : Nat) (h : Memory.wf m = true) :
    readByte (clearPlane m p) a = if planeOfAddress a = p then 0#8 else readByte m a := by
  have := tableGet_filter (fun k => planeOfAddress k != p) (l := m) a (Memory.wf_rising h)
  simp only [readByte, clearPlane, this]
  by_cases hp : planeOfAddress a = p <;> simp [hp]

@[simp] theorem length_readBytes (m : List Host.Cell) : ∀ (n a : Nat), (readBytes m a n).length = n
  | 0, _ => rfl
  | n + 1, a => by simp [readBytes, length_readBytes m n (a + 1)]

end Sys2Proof.Machine
end

