-- ==== Sys2Proof/Laws/Review.lean ====
section
/-! SUPPORT. The Review Port during a stream reset: what an arriving request comes to while the hold is set; and what the ports say
of a channel's writes. -/

namespace Sys2Proof.Machine

open Sys2Proof.Safety

/-- With the reset hold set, an arriving request is answered BUSY, and only the answers and the count of free values change. -/
theorem takeReview_hold (s : State) (r : ReviewCall) (h : s.rp.hold = true) :
    ∃ x n, BusyFor r x ∧ takeReview s r = { s with rp := { s.rp with responses := s.rp.responses ++ [x] }, fresh := n } := by
  have ha : accepts s = false := by simp [accepts, h]
  cases r with
  | locate channel run index => exact ⟨_, s.fresh, rfl, by simp [takeReview, locate, ha, respond, locateKind, noBlock]⟩
  | pin b => exact ⟨_, s.fresh + 1, ⟨Config.openReviewField s.fresh, rfl⟩, by simp [takeReview, pin, ha, respondOpen, respond, pinKind]⟩
  | unpin b => exact ⟨_, s.fresh + 1, ⟨Config.openReviewField s.fresh, rfl⟩, by simp [takeReview, unpin, ha, respondOpen, respond, unpinKind]⟩
  | read b off len => exact ⟨_, s.fresh + 1, ⟨Config.openReviewField s.fresh, rfl⟩, by simp [takeReview, read, ha, respondOpen, respond, readKind]⟩
  | describe b => exact ⟨_, s.fresh, rfl, by simp [takeReview, describe, ha, respond, describeKind]⟩
  | unknown kind => exact ⟨_, s.fresh, rfl, by simp [takeReview, unknownReview, ha, respond, noBlock]⟩

/-- The requests that arrive one after another while the hold is set are answered BUSY in their order. -/
theorem foldl_takeReview_hold : ∀ (rs : List ReviewCall) (s : State), s.rp.hold = true →
    ∃ busy n, List.Forall₂ BusyFor rs busy ∧
      rs.foldl takeReview s = { s with rp := { s.rp with responses := s.rp.responses ++ busy }, fresh := n }
  | [], s, _ => ⟨[], s.fresh, .nil, by simp⟩
  | r :: rs, s, h => by
    obtain ⟨x, n, hx, hs⟩ := takeReview_hold s r h
    obtain ⟨busy, m, hb, ht⟩ := foldl_takeReview_hold rs
      { s with rp := { s.rp with responses := s.rp.responses ++ [x] }, fresh := n } h
    exact ⟨x :: busy, m, .cons hx hb, by rw [List.foldl_cons, hs, ht]; simp⟩

/-- The arrivals of a stream reset, taken with the hold set. -/
theorem takeArrivals_hold (s : State) (h : s.rp.hold = true) :
    ∃ busy n, List.Forall₂ BusyFor s.resetArrivals busy ∧ takeArrivals s =
      { s with resetArrivals := [], rp := { s.rp with responses := s.rp.responses ++ busy }, fresh := n } := by
  obtain ⟨busy, n, hb, ht⟩ := foldl_takeReview_hold s.resetArrivals { s with resetArrivals := [] } h
  exact ⟨busy, n, hb, ht⟩

/-- The test an offer makes of the ports says what HeaderGoing says. -/
theorem headerWriting_iff (s : State) (c : ChannelId) : headerWriting s.planes c = true ↔ HeaderGoing s c := by
  simp only [headerWriting, HeaderGoing, List.any_eq_true]
  constructor
  · rintro ⟨p, -, h⟩
    split at h
    · next c' b off bs live hp => exact ⟨p, b, off, bs, live, by rw [hp, eq_of_beq h]⟩
    · cases h
  · rintro ⟨p, b, off, bs, live, hp⟩
    exact ⟨p, by fin_cases p <;> simp, by rw [hp]; exact beq_self_eq_true c⟩

/-- The test an offer makes of the ports says what PayloadGoing says. -/
theorem payloadWriting_iff (s : State) (c : ChannelId) : payloadWriting s.planes c = true ↔ PayloadGoing s c := by
  simp only [payloadWriting, PayloadGoing, List.any_eq_true]
  constructor
  · rintro ⟨p, -, h⟩
    split at h
    · next c' b off bs live hp => exact ⟨p, b, off, bs, live, by rw [hp, eq_of_beq h]⟩
    · cases h
  · rintro ⟨p, b, off, bs, live, hp⟩
    exact ⟨p, by fin_cases p <;> simp, by rw [hp]; exact beq_self_eq_true c⟩

end Sys2Proof.Machine
end

