-- ==== Sys2Proof/WellFormed.lean ====
section
/-! DEFINITION. Which commands the outside can give: the checks the operand types do not make already. -/

namespace Sys2Proof

/-- R182: the words of a port burst come with at most the marks of R1; every burst is well formed.
R138: a completed attempt aligned lane 0. R184: a REQUEST's contents length has two bytes. R169: an unknown kind names none of
the five. R146: a rejected frame fails a test. -/
def WellFormed : Instr → Bool
  | .trainingAttemptComplete aligned => aligned.getLsbD 0
  | .requestFrame _ _ contents => decide (contents.length ≤ 65535)
  | .unknownReviewKind kind => decide (kind.toNat = 0 ∨ 5 < kind.toNat)
  | .returnFrameRejected bytes => (decodeReturnFrame bytes).isNone
  | .acquisitionFrame _ | .sealAgeTimerExpiry _ | .headerWriteComplete _ | .payloadWriteComplete _
  | .halfLoadComplete _ | .reviewReadComplete _ | .refreshComplete _ | .refreshTick _ | .planeInitEnd _ _
  | .planeInitTimeout _ | .settleTimerExpiry | .flashReadComplete _ | .deviceReset _ | .laneAlignmentLoss _
  | .receiveSilenceTimeout | .trainingAttemptFailed | .trainingAttemptTimeout | .helloTimerExpiry
  | .forwardFrameStart | .helloFrameEnd | .replyFrameEnd | .markFrameEnd | .dataFrameEnd | .fillFrameEnd
  | .flowFrame _ _ | .returnFillFrame | .tableWriteSlotMap | .tableWriteProfile | .tableWriteChannel
  | .tableWriteSettings | .tableRead | .streamRun | .streamPause | .streamHalt | .streamResume | .streamStandby
  | .channelStart | .channelStop | .channelFlush | .blockQuery | .statusQuery | .forceBoundary | .resetStream
  | .resetDevice _ | .unknownRequestKind | .locate _ _ _ | .locateScanStep | .pin _ | .unpin _ | .read _ _ _
  | .describe _ | .resetPinLow => true

end Sys2Proof
end

