-- ==== Sys2Proof/Tests/Slice0.lean ====
section
/-! SUPPORT. Tests of the model against the spec's own examples, and for every statement with hypotheses a concrete state that
meets them. -/

namespace Sys2Proof.Tests

-- one theorem after another: in the package as one text the kernel evaluations would otherwise wait on each other in many threads
set_option Elab.async false

open Sys2Proof.Machine Sys2Proof.Safety

/-! ## Small states -/

/-- Start-up is over, the stream is RUN and the link is READY on four lanes. -/
def up : State :=
  { State.reset with
    mu := { Management.reset with stream := .run }
    su := { StartUp.reset .link with phase := .done }
    sl := { Link.reset with state := .ready, lanes := 4, reason := .linkUp, silenceTimer := some 1, helloSent := true } }

/-- `s` with MU executing a request. -/
def asking (r : Request) (s : State) : State := { s with mu := { s.mu with inProgress := some r } }

/-- `s` with the stream in a state. -/
def streaming (st : StreamState) (s : State) : State := { s with mu := { s.mu with stream := st } }

/-- `s` with a channel in place of channel 0. -/
def withChannel (ch : Channel) (s : State) : State := { s with chans := put s.chans 0 ch }

/-- `s` with a plane in place of plane 0. -/
def withPlane (p : Plane) (s : State) : State := { s with planes := put s.planes 0 p }

/-- A READY plane with nothing owed and nothing waiting. -/
def quiet : Plane := { Plane.reset with state := .ready, initTimer := none }

/-- `s` with an access on the port of plane 0. -/
def accessing (a : Access) (s : State) : State := withPlane { quiet with port := some a } s

/-- A descriptor in a state, of channel 0's run 1, class 0. -/
def held (st : BlockState) (used pins : Nat) : Descriptor :=
  { Descriptor.cleared st with owner := some 0, run := some 1#8, cls := some 0, cause := some .full, bytesUsed := used, pins := pins }

/-- Plane 0 alone READY, every block of it FREE but block 0, which has descriptor `d` and stands in the collection `d` names; the
drain's counters say that sequence 1 was given. -/
def oneBlock (d : Descriptor) (s : State) : State :=
  { withPlane quiet s with
    rm := { Ring.reset with
      blocks := [(0, d)]
      free := #v[some (List.range' 1 2047), none, none, none]
      queues := #v[if d.state = .queued then [0] else [], [], [], []] }
    chans := if d.state = .filling then put s.chans 0 { s.chans[(0 : ChannelId)] with filling := some 0 } else s.chans
    ds := { s.ds with
      slot := if d.state = .sending then [⟨0, 1#32, false, false, 0, 0⟩] else []
      sent := if d.state = .sent then [⟨0, 1#32⟩] else []
      redrain := if d.state = .redrain then [⟨0, 1#32⟩] else []
      granted := 10#32, transmitted := 1#32, highest := 1#32, nextSeq := 2#32 } }

/-- Outcome and field of a meaning, to compare. -/
def after {α : Type} (f : State → α) : Answer → Option α
  | .next t => some (f t)
  | .fault _ | .refused _ => none

/-! ## WellFormed refuses what the outside cannot give -/

theorem test_wf_attempt_without_lane_0 : WellFormed (.trainingAttemptComplete 0b1110#4) = false := by decide
theorem test_wf_attempt_with_lane_0 : WellFormed (.trainingAttemptComplete 0b0001#4) = true := by decide
theorem test_wf_request_too_long : WellFormed (.requestFrame 0#8 6#8 (List.replicate 65536 0#8)) = false := by
  simp only [WellFormed, List.length_replicate]; decide
theorem test_wf_request_longest : WellFormed (.requestFrame 0#8 6#8 (List.replicate 65535 0#8)) = true := by
  simp only [WellFormed, List.length_replicate]; decide
theorem test_wf_known_review_kind : WellFormed (.unknownReviewKind 5#8) = false := by decide
theorem test_wf_unknown_review_kind : WellFormed (.unknownReviewKind 6#8) = true := by decide
theorem test_wf_valid_frame_is_not_rejected : WellFormed (.returnFrameRejected (encodeReturnFrame .fill)) = false := by
  decide +kernel
theorem test_wf_short_frame_is_rejected : WellFormed (.returnFrameRejected [0x15#8]) = true := by decide

/-! ## The opcode table gives no bits -/

theorem test_no_word_spells_a_command : decodeTableWord 32 0xFFFFFFFF = none ∧ State.withFetchWord up 32 0 = up := ⟨rfl, rfl⟩

/-! ## Formats: the spec's own examples -/

/-- R146: the check of the characters 123456789. -/
theorem test_crc_of_nine_digits :
    crc32 [0x31#8, 0x32#8, 0x33#8, 0x34#8, 0x35#8, 0x36#8, 0x37#8, 0x38#8, 0x39#8] = 0xCBF43926#32 := by decide +kernel

/-- A FLOW's bytes written out from R184: kind 11, three zero bytes, 0x01020304 and 5, least significant byte first. -/
theorem test_flow_frame : decodeReturnFrame (withCheck
    [0x11#8, 0#8, 0#8, 0#8, 0x04#8, 0x03#8, 0x02#8, 0x01#8, 5#8, 0#8, 0#8, 0#8]) = some (.flow 0x01020304#32 5#32) := by
  decide +kernel

/-- A REQUEST's bytes written out from R184: kind 12, tag 7, kind STREAM (3), one zero byte, length 4, two zero bytes, contents. -/
theorem test_request_frame : decodeReturnFrame (withCheck
    [0x12#8, 7#8, 3#8, 0#8, 4#8, 0#8, 0#8, 0#8, 1#8, 0#8, 0#8, 0#8]) = some (.request 7#8 3#8 [1#8, 0#8, 0#8, 0#8]) := by
  decide +kernel

/-- R43: record_len 1 becomes 16, under PEAK 17 becomes 18, 15 becomes 16 and 65535 becomes 65536. -/
theorem test_record_len_clamps : clampRecordLen .pass 1 = 16 ∧ clampRecordLen .peak 17 = 18 ∧ clampRecordLen .peak 15 = 16 ∧
    clampRecordLen .peak 65535 = 65536 := by decide

/-! ## 03, "Worked arithmetic" and "Record sizes" -/

/-- factor 4, MEAN, W 12, offset 100. -/
def meanProfile (offset : Int) : Profile := { factor := 4, mode := .mean, width := .w12, offset := offset, recordLen := 1000 }
/-- factor 4, PEAK, W 8, offset 0. -/
def peakProfile : Profile := { factor := 4, mode := .peak, width := .w8, offset := 0, recordLen := 16 }

theorem test_mean_rows :
    groupValues (meanProfile 100) (groupOf 1000 [1003, 998, 1002] 0#64 0#64) = [⟨56, false⟩] ∧
    groupValues (meanProfile 100) (groupOf (-5) [-6, -6, -6] 0#64 0#64) = [⟨-7, false⟩] ∧
    groupValues (meanProfile 100) (groupOf 10 [11, 11] 0#64 0#64) = [⟨-6, false⟩] := by decide +kernel

theorem test_mean_halves : stage1 .mean (groupOf 6 [0, 0, 0] 0#64 0#64) = [2] ∧
    stage1 .mean (groupOf (-6) [0, 0, 0] 0#64 0#64) = [-1] := by decide +kernel

theorem test_mean_limit :
    groupValues (meanProfile (-32768)) (groupOf 32767 [32767, 32767, 32767] 0#64 0#64) = [⟨2047, true⟩] := by decide +kernel

theorem test_peak_row :
    groupValues peakProfile (groupOf (-30000) [25000, -32768, 32767] 0#64 0#64) = [⟨-128, false⟩, ⟨127, true⟩] := by decide +kernel

theorem test_record_sizes : recordSize .w16 1024 = 2080 ∧ recordSize .w12 1000 = 1532 ∧ recordSize .w12 16 = 56 ∧
    recordSize .w8 16 = 48 ∧ recordSize .w12 18 = 60 ∧ recordSize .w16 65536 = 131104 ∧ recordSize .w8 5 = 40 ∧
    recordSize .w12 5 = 40 ∧ recordSize .w12 7 = 44 ∧ recordSize .w12 2 = 36 ∧ recordSize .w16 2 = 36 := by decide +kernel

/-! ## Worked sequences of 01, 04 and 06 -/

/-- 04, "Allocation example": the planes looked at and the rotation after each allocation. -/
def exampleRing : Ring :=
  { Ring.reset with free := #v[some [], some [2990], none, some [6201, 6202]], rotation := 1 }

theorem test_allocation_example :
    (exampleRing.allocate Settings.default 0 1#8).map (fun x => (x.1, x.2.rotation)) = some (6201, 3) ∧
    ((exampleRing.allocate Settings.default 0 1#8).bind (fun x => x.2.allocate Settings.default 0 1#8)).map
      (fun x => (x.1, x.2.rotation)) = some (2990, 1) := by decide +kernel

/-- 06, "Selection example": weights 2, 1, 0, 1; blocks A1 A2 (10, 11), B1 (20), C1 C2 (30, 31), D1 (40). -/
def exampleQueues (n : Nat) : Drain × Ring :=
  (List.range n).foldl (fun x _ => selectOnce true #v[2, 1, 0, 1] ({ x.1 with slot := [] }, x.2))
    ({ Drain.reset with granted := 100#32 }, { Ring.reset with queues := #v[[10, 11], [20], [30, 31], [40]] })

theorem test_selection_example :
    (List.range 6).map (fun n => ((exampleQueues (n + 1)).1.slot.map (fun e => (e.block, e.seq.toNat)),
      (exampleQueues (n + 1)).1.currentClass.val, (exampleQueues (n + 1)).1.turn)) =
    [([(10, 1)], 0, 1), ([(11, 2)], 0, 2), ([(20, 3)], 1, 1), ([(40, 4)], 3, 1), ([(30, 5)], 3, 0), ([(31, 6)], 3, 0)] := by
  decide +kernel

/-! ## 03, "Worked sequence: two records and an age seal" -/

/-- Profile 2: factor 3, MEAN, W 12, record_len 16. Profile 5: PASS, W 16. -/
def seqProfile2 : Profile := { factor := 3, mode := .mean, width := .w12, offset := 0, recordLen := 16 }

/-- The start of the sequence with channel 0 for channel 4, both slots of the frame its own, block 1200 with 4096 bytes used. -/
def seqState (ch : Channel) (used : Nat) : State :=
  { withChannel { ch with state := .active, run := 1#8, filling := some 1200, sealTimer := some 100 } up with
    ap := { AcquisitionPort.reset with expected := some 100#16, frameCounter := 9000#64 }
    ts := { TableStore.reset with
      slotMap := put (put TableStore.reset.slotMap 0 ⟨some 0, none⟩) 1 ⟨some 0, none⟩
      profiles := put TableStore.reset.profiles 2 ⟨seqProfile2, none⟩
      channels := put TableStore.reset.channels 0
        ⟨{ ChannelConfig.default with profileA := 5, profileB := 2, zoneLine := some 1 }, none⟩ }
    rm := { Ring.reset with
      blocks := [(1200, { Descriptor.cleared .filling with owner := some 0, run := some 1#8, bytesUsed := used })]
      free := #v[some [5], none, none, none] } }

/-- A frame of two samples. -/
def pairFrame (flags a b : Word16) : Instr := .acquisitionFrame (frameBurst 100#16 flags [a, b] (frameCheck 100#16 flags [a, b]))

/-- What the sequence's table shows of channel 0 and block 1200. -/
def seqView (t : State) : Nat × Nat × Nat × Nat × Word64 :=
  let ch := t.chans[(0 : ChannelId)]
  ((ch.group.map (fun g => g.n)).getD 0, (ch.record.map (fun r => r.offset)).getD 0, ch.occupancy,
    (t.rm.block 1200).bytesUsed, ch.nextIndex)

/-- Events 1 and 2. -/
theorem test_sequence_events_1_and_2 :
    after seqView (exec (pairFrame 0#16 4000#16 4010#16) (seqState { Channel.reset with nextIndex := 300#64 } 4096))
      = some (2, 0, 0, 4096, 302#64) ∧
    after seqView (exec (pairFrame 0#16 4021#16 4030#16) (seqState { Channel.reset with
        nextIndex := 302#64, current := some ⟨2, seqProfile2⟩, group := some (groupOf 4000 [4010] 300#64 9000#64) } 4096))
      = some (1, 4096, 3, 4152, 304#64) := by decide +kernel

/-- Event 3: zone line Z1 is raised (bit 5 of the flag word), the record closes SHORT with a BREAK end, and one opens at 4132. -/
theorem test_sequence_event_3 :
    let s := seqState { Channel.reset with
        nextIndex := 304#64, current := some ⟨2, seqProfile2⟩, group := some (groupOf 4030 [] 303#64 9001#64)
        record := some ⟨1200, 4096, 300#64, 9000#64, 0#32, 1, 0, 302#64⟩, pack := some 251#12
        runs := [⟨1200, 4096, 0, [], false⟩] } 4152
    after seqView (exec (pairFrame 0x20#16 4040#16 4050#16) s) = some (0, 4132, 8, 6212, 306#64) ∧
    after (fun t => ((t.chans[(0 : ChannelId)]).waiting.map (fun w => (w.offset, w.header))))
      (exec (pairFrame 0x20#16 4040#16 4050#16) s)
      = some [(4096, ⟨300#64, 4, 9000#64, 0#32, 3, 0, 2, 0, .mean, .w12, .break_, true⟩)] := by decide +kernel

/-! ## The collections of `oneBlock` -/

/-- In `oneBlock d s` every block stands in the collection its state names. -/
theorem collected_oneBlock (d : Descriptor) (s : State) (hd : d.state ≠ .free) (ho : d.state ≠ .offline) (hk : d.cls = some 0)
    (hp : ∀ p : PlaneId, p ≠ 0 → (s.planes[p]).state ≠ .ready ∨ inPlaneSet s.ts.settings.planeMask p = false) (hm : inPlaneSet s.ts.settings.planeMask 0 = true)
    (hc : ∀ c : ChannelId, (s.chans[c]).filling = none) : BlocksCollected (oneBlock d s) := by
  have hb0 : (oneBlock d s).rm.block 0 = d := by simp [oneBlock, Ring.block, tableGet]
  have hf0 : ∀ p : PlaneId, (oneBlock d s).rm.free[p] = if p = 0 then some (List.range' 1 2047) else none := by
    intro p; fin_cases p <;> rfl
  have hb : ∀ b : Nat, b ≠ 0 → (oneBlock d s).rm.block b = .cleared (if b < 2048 then .free else .offline) := by
    intro b h
    have : tableGet (oneBlock d s).rm.blocks b = none := by simp [oneBlock, tableGet, h]
    rw [Ring.block, this]
    simp only [hf0, planeOf, Config.blockCount, Config.blocksPerPlane, Fin.ext_iff, Fin.ofNat]
    by_cases hlt : b < 2048
    · simp [hlt, show b / 2048 % 4 = 0 by omega, show b < 8192 by omega]
    · by_cases h8 : b < 8192
      · simp [hlt, show ¬ b / 2048 % 4 = 0 by omega]
      · simp [hlt, h8]
  have hq : ∀ k : ClassId, (oneBlock d s).rm.queues[k] = if k = 0 ∧ d.state = .queued then [0] else [] := by
    intro k; fin_cases k <;> simp [oneBlock]
  have hfill : ∀ c : ChannelId, ((oneBlock d s).chans[c]).filling = if c = 0 ∧ d.state = .filling then some 0 else none := by
    intro c
    by_cases h : d.state = .filling
    · by_cases h0 : c = 0
      · subst h0; simp [oneBlock, h, put]
      · have : ((oneBlock d s).chans[c]) = s.chans[c] := by
          simp only [oneBlock, h, if_true]; exact get_put_ne _ _ (Ne.symm h0)
        rw [this, hc]; simp [h0]
    · have : ((oneBlock d s).chans[c]) = s.chans[c] := by simp [oneBlock, h]
      rw [this, hc]; simp [h]
  have hstate : ∀ b : Nat, b ≠ 0 → ((oneBlock d s).rm.block b).state = if b < 2048 then .free else .offline := by
    intro b h; rw [hb b h]; rfl
  have hplane : ∀ b : Nat, b < 2048 → planeOf b = 0 := by
    intro b h; simp [planeOf, Config.blocksPerPlane, Fin.ext_iff, Fin.ofNat]; omega
  have hfree : ∀ b : Nat, Collected (oneBlock d s) .free b ↔ 1 ≤ b ∧ b < 2048 ∧ planeOf b = 0 := by
    intro b; simp only [Collected, hf0]
    constructor
    · rintro ⟨l, h1, h2⟩
      by_cases hp0 : planeOf b = 0
      · simp [hp0] at h1; subst h1; have h3 := (List.mem_range'_1 (m := b)).mp h2; exact ⟨h3.1, by omega, hp0⟩
      · simp [hp0] at h1
    · rintro ⟨h1, h2, h3⟩; exact ⟨List.range' 1 2047, by simp [h3], (List.mem_range'_1 (m := b)).mpr ⟨h1, by omega⟩⟩
  have hother : ∀ b, ∀ st ∈ collecting, st ≠ .free → (Collected (oneBlock d s) st b ↔ b = 0 ∧ d.state = st) := by
    intro b st hst hne
    simp only [collecting, List.mem_cons, List.not_mem_nil, or_false] at hst
    rcases hst with rfl | rfl | rfl | rfl | rfl | rfl
    · exact absurd rfl hne
    · simp only [Collected, hfill]
      constructor
      · rintro ⟨c, h⟩; split at h <;> simp_all
      · rintro ⟨rfl, h⟩; exact ⟨0, by simp [h]⟩
    · simp only [Collected, hq]
      constructor
      · rintro ⟨c, h⟩; split at h <;> simp_all
      · rintro ⟨rfl, h⟩; exact ⟨0, by simp [h]⟩
    all_goals
      simp only [Collected, oneBlock]
      constructor
      · intro h; split at h <;> simp_all
      · rintro ⟨rfl, h⟩; simp [h]
  refine ⟨rfl, ?_, ?_, ?_, ?_, ?_, ?_, ?_, ?_, ?_, ?_⟩
  · intro e he
    simp only [oneBlock, List.mem_singleton] at he
    subst he
    exact ⟨by simp, hd, ho, by rw [hf0]; simp [hplane]⟩
  · intro p
    rw [hf0]
    by_cases h : p = 0
    · subst h; simp [oneBlock, withPlane, put, quiet, hm]
    · have : (oneBlock d s).planes[p] = s.planes[p] := get_put_ne _ _ (Ne.symm h)
      rw [this]; simp only [h, if_false, Option.isSome_none, Bool.false_eq_true, false_iff, not_and]
      rcases hp p h with h' | h'
      · exact fun hr => absurd hr h'
      · intro _ hin; change inPlaneSet s.ts.settings.planeMask p = true at hin; rw [h'] at hin; cases hin
  · intro p l hl
    rw [hf0] at hl
    split at hl
    · next h =>
      cases hl; subst h
      refine ⟨List.nodup_range', fun b hb => ?_⟩
      have h3 := (List.mem_range'_1 (m := b)).mp hb
      have h4 : (b : Nat) < 2048 := by have := h3.2; omega
      exact ⟨Nat.lt_trans h4 (by decide), hplane b h4⟩
    · cases hl
  · intro (b : Nat) hb8 st hst
    by_cases hfr : st = .free
    · subst hfr
      rw [hfree]
      by_cases h0 : b = 0
      · subst h0; rw [hb0]; simp [hd]
      · rw [hstate b h0]
        by_cases hlt : b < 2048
        · simp [hlt, hplane]; omega
        · simp [hlt]
    · rw [hother b st hst hfr]
      by_cases h0 : b = 0
      · subst h0; rw [hb0]; simp
      · rw [hstate b h0]
        constructor
        · rintro ⟨h, -⟩; exact absurd h h0
        · intro h
          exfalso
          split at h
          · exact hfr h.symm
          · subst h; simp [collecting] at hst
  · intro (b : Nat) hb8 st hst
    by_cases hfr : st = .free
    · subst hfr; rw [hfree]; rintro ⟨-, h2, -⟩; exact absurd (Nat.lt_of_lt_of_le h2 (by decide)) (Nat.not_lt.mpr hb8)
    · rw [hother b st hst hfr]; rintro ⟨rfl, -⟩; exact absurd hb8 (by decide)
  · intro c c' b h h'
    rw [hfill] at h h'
    split at h <;> split at h' <;> simp_all
  · intro k
    rw [hq]
    split
    · next h => refine ⟨by simp, ?_⟩; rintro b hb; simp at hb; subst hb; rw [hb0, hk, h.1]
    · simp
  all_goals (simp only [oneBlock]; split <;> simp)

/-! ## Witnesses: the machine's step and what every step keeps -/

/-- A header write at the very end of capture memory, in progress on plane 3. -/
def lastHeader : State :=
  { up with planes := put up.planes 3 { quiet with port := some (.headerWrite 0 8191 1048544 (List.replicate 32 1#8) true) } }

theorem witness_StepRunsTheFrontCommand : State.reset.pending = [] := rfl

theorem witness_CommandsGoOnAndLeaveTheQueue :
    PortsInMemory lastHeader ∧ ∃ t, exec (.headerWriteComplete 3) lastHeader = .next t := by
  refine ⟨?_, _, rfl⟩
  intro p a h
  match p with
  | 0 | 1 | 2 => change none = some a at h; cases h
  | 3 => change some _ = some a at h; cases h; decide

/-- Capture memory with bytes listed and a command waiting. -/
def written : State := { up with mem := [(0, 1#8), (8589934591, 255#8)], pending := [.refreshTick 0] }

theorem witness_CaptureMemoryStaysCanonical : MemoryCanonical written ∧ ∃ t, step written = .next t :=
  ⟨by unfold MemoryCanonical; decide, _, rfl⟩

/-- Every queue and count at its top. -/
def fullUp : State :=
  { withPlane { quiet with owed := 8 } up with
    mu := { up.mu with queue := List.replicate 4 ⟨0#8, 6#8, []⟩, replies := List.replicate 4 ⟨0#8, 6#8, .ok, [], false⟩ }
    marks := { queue := List.replicate 64 (.sweep 0#32 0#64 0), headInTx := false, skip := 65535 }
    sl := { up.sl with rejected := 65535 }
    rm := { Ring.reset with blocks := [(0, held .sent 4 3)] }
    pending := [.refreshTick 0] }

theorem witness_QueuesAndCountsStayInRange : WithinBounds fullUp ∧ ∃ t, step fullUp = .next t :=
  ⟨by unfold WithinBounds; decide +kernel, _, rfl⟩

/-- Counters at their greatest distance, lists at both ends of the range. -/
def wideDrain : Drain :=
  { Drain.reset with
    sent := [⟨3, 2#32⟩], redrain := [⟨4, 256#32⟩], slot := [⟨6, 0xFFFFFFFF#32, true, false, 0, 0⟩, ⟨5, 1#32, false, false, 0, 0⟩]
    granted := 0x7FFFFFFF#32, transmitted := 256#32, highest := 256#32, nextSeq := 257#32 }

theorem wideDrain_ordered : DrainOrdered { wideDrain with slot := [⟨5, 1#32, false, false, 0, 0⟩] } := by
  refine ⟨by decide, by decide, by decide, by decide, by decide, by decide, by decide, by decide, by decide, ?_⟩
  intro e h; cases h; decide

theorem witness_DrainStaysInOrder :
    let d := { wideDrain with slot := [⟨5, 1#32, false, false, 0, 0⟩] }
    let s := { up with ds := d, pending := [.refreshTick 0] }
    DrainOrdered s.ds ∧ DrainSequenced s.ds ∧ ∃ t, step s = .next t :=
  ⟨wideDrain_ordered, by unfold DrainSequenced; decide, _, rfl⟩

/-! ### Channels -/

/-- A group of one sample, the one with index 299. -/
def oneGroup : Group := Group.start 0 299#64 0#64

/-- ACTIVE, with a record open in block 0, a group, a value in the pack register; next index 300. -/
def activeCh : Channel :=
  { Channel.reset with
    state := .active, run := 1#8, nextIndex := 300#64, current := some ⟨0, { Profile.default with width := .w12, factor := 2, mode := .mean }⟩
    group := some oneGroup, record := some ⟨0, 0, 297#64, 0#64, 0#32, 1, 0, 298#64⟩, pack := some 0#12, filling := some 0
    runs := [⟨0, 0, 0, [], false⟩], sealTimer := some 100 }

/-- LOSS, with a gap of 5 samples that ends at next index − 1. -/
def lossCh : Channel :=
  { Channel.reset with
    state := .loss, run := 1#8, nextIndex := 300#64, filling := some 0, sealTimer := some 100
    gap := some ⟨0, 1#8, 295#64, 5#64, some 7#64, .shed, 4#5⟩ }

/-- CLOSING, its gap waiting for the Mark Queue. -/
def closingCh : Channel := { lossCh with state := .closing, filling := none, sealTimer := none }

theorem activeCh_sound : ChannelSound activeCh := by
  refine ⟨by decide, by decide, fun _ => ⟨_, rfl, by decide⟩, ?_, rfl⟩
  intro g h; cases h; decide

theorem lossCh_sound : ChannelSound lossCh := by
  refine ⟨by decide, by decide, by decide, ?_, rfl, _, rfl, by decide⟩
  intro g h; cases h

theorem closingCh_sound : ChannelSound closingCh := by
  refine ⟨by decide, by decide, by decide, ?_, rfl, rfl⟩
  intro g h; cases h

theorem resetCh_sound : ChannelSound Channel.reset := by
  refine ⟨by decide, by decide, by decide, ?_, rfl, rfl, rfl, rfl, rfl⟩
  intro g h; cases h

theorem withChannel_chans (ch : Channel) (s : State) (c : ChannelId) :
    (withChannel ch s).chans[c] = if c = 0 then ch else s.chans[c] := by
  by_cases h : c = 0
  · subst h; simp [withChannel]
  · rw [if_neg h]; exact get_put_ne _ _ (Ne.symm h)

theorem reset_chans (c : ChannelId) : State.reset.chans[c] = Channel.reset := by
  simp [State.reset]

/-- The channels of a part that is up, with a sound channel 0. -/
theorem channelsSound_with {ch : Channel} (h : ChannelSound ch) {s : State} (hs : s.chans = (withChannel ch up).chans)
    (hp : s.su.phase = .done) (hm : s.mu.stream ≠ .init) : ChannelsSound s := by
  refine ⟨fun c => ?_, by simp [hp, hm], fun h' => absurd h' hm⟩
  rw [hs, withChannel_chans]
  split
  · exact h
  · change ChannelSound State.reset.chans[c]; rw [reset_chans]; exact resetCh_sound

theorem witness_ChannelsStaySound :
    let s := { withChannel activeCh up with pending := [.sealAgeTimerExpiry 0] }
    ChannelsSound s ∧ ∃ t, step s = .next t :=
  ⟨channelsSound_with activeCh_sound rfl rfl (by decide), _, rfl⟩

/-- An open record with 4093 bytes staged and a header waiting. -/
def fullStaging : Channel :=
  { activeCh with pack := none, runs := [⟨0, 0, 0, List.replicate 4093 1#8, false⟩]
                  waiting := [⟨0, 0, ⟨0#64, 1, 0#64, 0#32, 1, 0, 1, 0, .pass, .w16, .split, true⟩⟩] }

theorem witness_StagingStaysWithinItsBuffer :
    let s := { withChannel fullStaging up with pending := [.sealAgeTimerExpiry 0] }
    ChannelsSound s ∧ (∀ c : ChannelId, StagingFits s.chans[c]) ∧ ∃ t, step s = .next t := by
  refine ⟨channelsSound_with ?_ rfl rfl (by decide), fun c => ?_, _, rfl⟩
  · refine ⟨by decide, by decide, by decide, ?_, rfl⟩
    intro g h; cases h; decide
  · change StagingFits (withChannel fullStaging up).chans[c]
    rw [withChannel_chans]
    split
    · have h : fullStaging.occupancy = 4093 := by
        simp only [Channel.occupancy, fullStaging, List.foldr_cons, List.foldr_nil, List.length_replicate]
        rfl
      exact ⟨by rw [h]; decide, fun _ => by rw [h], by decide⟩
    · change StagingFits State.reset.chans[c]; rw [reset_chans]; exact ⟨by decide, by decide, by decide⟩

/-- Every block of `oneBlock (held st …) s` stands where its state says, whatever else of `s` is changed. -/
theorem collected_held (st : BlockState) (used pins : Nat) (hf : st ≠ .free) (ho : st ≠ .offline) {s : State}
    (hp : s.planes = up.planes) (ht : s.ts = up.ts) (hc : ∀ c : ChannelId, (s.chans[c]).filling = none) :
    BlocksCollected (oneBlock (held st used pins) s) :=
  collected_oneBlock _ _ hf ho rfl
    (by rw [hp]; intro p _; left; change (State.reset.planes[p]).state ≠ .ready; simp [State.reset, Plane.reset])
    (by rw [ht]; decide) hc

theorem up_noFilling (c : ChannelId) : (up.chans[c]).filling = none := by
  change (State.reset.chans[c]).filling = none; rw [reset_chans]; rfl

theorem witness_BlocksStayCollected :
    let s := { oneBlock (held .retired 4 1) up with pending := [.unpin 0#16] }
    BlocksCollected s ∧ ∃ t, step s = .next t :=
  ⟨collected_held .retired 4 1 (by decide) (by decide) rfl rfl up_noFilling, _, rfl⟩

/-! ## Witnesses: rules over the whole part -/

theorem witness_MemoryAndRunNumbersChangeOnlyByTheirCommands :
    let c : Instr := .refreshTick 0
    (∀ p, c ≠ .headerWriteComplete p ∧ c ≠ .payloadWriteComplete p ∧ ∀ ready, c ≠ .planeInitEnd p ready) ∧ c ≠ .channelStart ∧
    (∀ image, c ≠ .flashReadComplete image) ∧ (∀ straps, c ≠ .deviceReset straps ∧ c ≠ .resetDevice straps) ∧
    ∃ t, exec c (withChannel activeCh written) = .next t := by
  refine ⟨fun p => ⟨nofun, nofun, fun _ => nofun⟩, nofun, fun _ => nofun, fun _ => ⟨nofun, nofun⟩, _, rfl⟩

/-- `up` with a next expected tag and TAG_RESYNC as given. -/
def tagged (e : Word16) (flag : Bool) : State := { up with ap := { AcquisitionPort.reset with expected := some e, tagResync := flag } }

/-- A frame of two samples. -/
def frameOf (tag flags : Word16) : Instr :=
  .acquisitionFrame (frameBurst tag flags [5#16, 6#16] (frameCheck tag flags [5#16, 6#16]))

/-- R6 at its boundary: 4096 ahead of the expected tag resynchronises, 4095 ahead does not; a query clears the flag, a stream reset
keeps it. -/
theorem witness_TagResyncStaysUntilRead :
    after (fun t => t.ap.tagResync) (exec (frameOf 4096#16 0#16) (tagged 0#16 false)) = some true ∧
    after (fun t => t.ap.tagResync) (exec (frameOf 4095#16 0#16) (tagged 0#16 false)) = some false ∧
    Serving ⟨9#8, 6#8, []⟩ (asking ⟨9#8, 6#8, []⟩ (tagged 0#16 true)) ∧
    after (fun t => t.ap.tagResync) (exec .statusQuery (asking ⟨9#8, 6#8, []⟩ (tagged 0#16 true))) = some false ∧
    after (fun t => t.ap.tagResync) (exec .resetStream (asking ⟨9#8, 8#8, [1#8, 0#8, 0#8, 0#8]⟩ (tagged 0#16 true))) = some true ∧
    (tagged 0#16 false).ap.openFrame = none ∧ (tagged 0#16 false).ts.settings.slotCount = 2 ∧
    4096 ≤ ((4096#16 : Word16) - 0#16).toNat ∧ 4096 ≤ ((65535#16 : Word16) - 0#16).toNat := by
  unfold Serving; decide +kernel

/-- Start-up with the flash being read. -/
def loading (m : StartMode) : State := { State.reset with su := { StartUp.reset m with phase := .flashLoad } }

/-- An image of one Slot Map entry for slot 0. -/
def slotImage (v : Byte) : List Byte := withCheck (leBytes 4 1 ++ [1#8, 0#8, 0#8, 0#8] ++ [v, 0#8, 0#8, 0#8])

/-- Every plane but plane 0 has reported. -/
def lastReport : State := { State.reset with planes := #v[Plane.reset, quiet, quiet, quiet] }

theorem witness_ConfigFaultStaysUntilDeviceReset :
    let faulty := { up with su := { up.su with configFault := true } }
    after (fun t => t.su.configFault) (exec (.deviceReset 1#2) faulty) = some false ∧
    (none : Option (List Byte)).bind judgeImage = none ∧
    after (fun t => t.su.configFault) (exec (.flashReadComplete none) (loading .flash)) = some true ∧
    judgeImage (slotImage 20#8) = some ([] ++ ⟨1, 0#8, [20#8, 0#8, 0#8, 0#8]⟩ :: []) ∧
    (writeTable 1 0#8 [20#8, 0#8, 0#8, 0#8] (loading .flash)).2 ≠ .ok ∧
    Serving ⟨9#8, 6#8, []⟩ (asking ⟨9#8, 6#8, []⟩ faulty) ∧
    after (fun t => t.su) (exec .resetStream (asking ⟨9#8, 8#8, [1#8, 0#8, 0#8, 0#8]⟩ faulty)) = some faulty.su ∧
    lastReport.su.settleTimer = none ∧ after (fun t => t.su.settleTimer) (exec (.planeInitEnd 0 false) lastReport) = some (some 1) ∧
    (State.reset.su.mode = .link ∧ State.reset.su.phase ≠ .flashLoad) := by
  unfold Serving; decide +kernel

theorem witness_PlaneFlagsStayUntilTheirClearing :
    let p := { quiet with state := .faulty, fault := true, lapse := true }
    after (fun t => ((t.planes[(0 : PlaneId)]).fault, (t.planes[(0 : PlaneId)]).state, (t.planes[(0 : PlaneId)]).lapse))
      (exec .statusQuery (asking ⟨9#8, 6#8, []⟩ (withPlane p up))) = some (true, .faulty, false) ∧
    ∀ straps, Instr.statusQuery ≠ .deviceReset straps ∧ Instr.statusQuery ≠ .resetDevice straps :=
  ⟨by decide +kernel, fun _ => ⟨nofun, nofun⟩⟩

/-- The link in SYNC_WAIT with HELLO sent as given. -/
def waiting (sent : Bool) : State :=
  { up with sl := { up.sl with state := .syncWait, helloSent := sent, helloTimer := some 10, reason := .deviceStart } }

theorem witness_OnlyAFlowMakesTheLinkReady :
    (waiting true).sl.state ≠ .ready ∧ after (fun t => t.sl.state) (exec (.flowFrame 0#32 0#32) (waiting true)) = some .ready ∧
    State.reset.sl.state = .training ∧ (Instr.trainingAttemptComplete 1#4) ≠ .resetPinLow ∧
    after (fun t => (t.sl.state, t.sl.lanes)) (exec (.trainingAttemptComplete 1#4) State.reset) = some (.syncWait, 1) := by
  decide +kernel

theorem witness_NothingActsWhileTheResetPinIsLow :
    let s := { up with su := { up.su with resetLow := true } }
    s.su.resetLow = true ∧ (Instr.pin 0#16) ≠ .resetPinLow ∧ ∀ straps, (Instr.pin 0#16) ≠ .deviceReset straps :=
  ⟨rfl, nofun, fun _ => nofun⟩

/-! ## Witnesses: layouts and arithmetic -/

theorem witness_ReturnFramesDecodeToThemselves :
    ∀ tag kind contents, ReturnFrame.request 1#8 2#8 (List.replicate 65535 0#8) = .request tag kind contents →
      contents.length ≤ 65535 := by
  intro tag kind contents h; cases h; rw [List.length_replicate]

theorem witness_TableEntriesDecodeToThemselves :
    ProfileInRange ⟨65536, .peak, .w8, -32768, 65536⟩ ∧ ProfileInRange ⟨1, .pass, .w16, 32767, 16⟩ ∧
    SettingsInRange ⟨32, 15#4, 8192, 8127, 64, #v[15, 0, 15, 0]⟩ ∧ SettingsInRange ⟨2, 0#4, 1, 0, 0, #v[0, 0, 0, 0]⟩ ∧
    ({ ChannelConfig.default with sealAgeMs := 65535 } : ChannelConfig).sealAgeMs ≤ 65535 := by
  unfold ProfileInRange SettingsInRange SampleRange; decide

theorem witness_RequantizeRoundsHalfUp :
    SampleRange 32767 ∧ SampleRange (-32768) ∧ Width.w12 ≠ .w16 ∧ Width.w8 ≠ .w16 := by unfold SampleRange; decide

theorem witness_GroupValuesOfTheirSamples :
    SampleRange (-32768) ∧ (∀ y ∈ [32767, -32768, (0 : Int)], SampleRange y) ∧ (clampTo .w12 2048).clamped = true ∧
    (clampTo .w12 2047).clamped = false ∧ (clampTo .w12 (-2048)).clamped = false := by unfold SampleRange; decide

/-- Every boundary of R74 with marks 1024 and 256 and hysteresis 64. -/
theorem witness_PressureSettles :
    Settings.default.criticalMark + Settings.default.hysteresis < Settings.default.tightMark ∧
    pressureLevel Settings.default 256 .open_ = .critical ∧ pressureLevel Settings.default 257 .tight = .tight ∧
    pressureLevel Settings.default 320 .critical = .critical ∧ pressureLevel Settings.default 321 .critical = .tight ∧
    pressureLevel Settings.default 1024 .open_ = .tight ∧ pressureLevel Settings.default 1025 .open_ = .open_ ∧
    pressureLevel Settings.default 1088 .tight = .tight ∧ pressureLevel Settings.default 1089 .tight = .open_ := by decide

theorem witness_AllocationTakesTheNextPlanesHead :
    (exampleRing.allocate Settings.default 0 1#8).map Prod.fst = some 6201 ∧ Ring.reset.freeCount = 0 ∧
    ({ Ring.reset with free := #v[none, none, some [5000], none], rotation := 2 }.allocate Settings.default 15 255#8).map Prod.fst
      = some 5000 := by decide +kernel

/-- Blocks 0 and 1 of plane 0 with pins in different states. -/
def pinnedRing (st : BlockState) (pins : Nat) : Ring :=
  { Ring.reset with blocks := [(0, held st 4 pins), (2047, held .sent 4 0)], free := #v[some [5], none, none, none] }

theorem witness_UnpinFreesARetiredBlock :
    tableRising (pinnedRing .retired 1).blocks = true ∧
    (∀ e ∈ (pinnedRing .retired 1).blocks, e.1 < 8192 ∧ ((pinnedRing .retired 1).free[planeOf e.1]).isSome) ∧
    (((pinnedRing .retired 1).block 0).state = .retired ∧ ((pinnedRing .retired 1).block 0).pins = 1) ∧
    ((pinnedRing .retired 1).block 2047).pins = 0 ∧ ((pinnedRing .sent 1).block 0).pins = 1 ∧
    ((pinnedRing .retired 3).block 0).pins ≠ 0 := by decide +kernel

/-- A channel with two complete headers waiting for block 0: its intake is urgent. -/
def urgentCh : Channel :=
  { closingCh with waiting := [⟨0, 0, ⟨0#64, 1, 0#64, 0#32, 1, 0, 1, 0, .pass, .w16, .split, true⟩⟩,
                               ⟨0, 36, ⟨1#64, 1, 0#64, 0#32, 1, 0, 1, 0, .pass, .w16, .split, true⟩⟩] }
/-- A channel with one header waiting for block 0: it offers intake, not urgently. -/
def offeringCh : Channel := { urgentCh with waiting := urgentCh.waiting.tail }

theorem witness_GrantsFollowTheOrder :
    let at' := fun (p : Plane) (ch : Channel) => withPlane p (withChannel ch up)
    8 ≤ ((at' { quiet with owed := 8 } urgentCh).planes[(0 : PlaneId)]).owed ∧
    (intakeChoice (at' { quiet with owed := 7 } urgentCh) 0 true).isSome ∧
    intakeChoice (at' { quiet with drain := [⟨0, 0, 0, 4⟩] } offeringCh) 0 true = none ∧
    ((at' { quiet with drain := [⟨0, 0, 0, 4⟩] } offeringCh).planes[(0 : PlaneId)]).drain = ⟨0, 0, 0, 4⟩ :: [] ∧
    ((at' { quiet with review := some ⟨0, 0, 4⟩ } offeringCh).planes[(0 : PlaneId)]).review = some ⟨0, 0, 4⟩ ∧
    (intakeChoice (at' quiet offeringCh) 0 false).isSome ∧ intakeChoice (at' quiet Channel.reset) 0 false = none ∧
    0 < ((at' { quiet with owed := 1 } Channel.reset).planes[(0 : PlaneId)]).owed ∧
    ((at' quiet Channel.reset).planes[(0 : PlaneId)]).owed = 0 := by decide +kernel

/-! ## Witnesses: acquisition, channels, memory -/

/-- Slot 0 names channel 0; channel 0 is as given; the expected tag is 100. -/
def slotted (ch : Channel) : State :=
  { withChannel ch (tagged 100#16 false) with ts := { TableStore.reset with slotMap := put TableStore.reset.slotMap 0 ⟨some 0, none⟩ } }

/-- An ARMED channel starts at a boundary only (start_at_sweep); an ACTIVE one takes 1 missed and 1 delivered sample; a CLOSING one none. -/
theorem witness_GoodFramesAdvanceTheCounters :
    (slotted Channel.reset).ap.openFrame = none ∧ [5#16, (6#16 : Word16)].length = (slotted Channel.reset).ts.settings.slotCount ∧
    after (fun t => (t.chans[(0 : ChannelId)]).state) (exec (frameOf 100#16 0#16) (slotted { Channel.reset with state := .armed }))
      = some .armed ∧
    after (fun t => ((t.chans[(0 : ChannelId)]).nextIndex, t.ap.sweepCounter)) (exec (frameOf 100#16 1#16)
      (slotted { Channel.reset with state := .armed })) = some (1#64, 1#32) ∧
    after (fun t => ((t.chans[(0 : ChannelId)]).nextIndex, t.ap.frameCounter)) (exec (frameOf 101#16 0#16) (slotted lossCh))
      = some (302#64, 2#64) ∧
    after (fun t => t.chans[(0 : ChannelId)]) (exec (frameOf 101#16 0#16) (slotted closingCh)) = some closingCh := by
  decide +kernel

/-- The largest frame: 32 slots. -/
theorem witness_GoodFramesAdvanceTheCounters_largest :
    let s := { up with ts := { TableStore.reset with settings := { Settings.default with slotCount := 32 } } }
    (List.replicate 32 (5#16 : Word16)).length = s.ts.settings.slotCount ∧ s.ap.expected = none ∧ s.ap.openFrame = none := by decide

theorem witness_BadFramesCountAsOneMissed :
    let s := slotted lossCh
    s.ap.openFrame = none ∧ [5#16, (6#16 : Word16)].length ≤ 32 ∧ 0#16 ≠ frameCheck 100#16 0#16 [5#16, 6#16] ∧
    s.ap.expected ≠ none ∧ slotsOf s.ts 0 ≠ 0 ∧ (s.chans[(0 : ChannelId)]).state = .loss ∧
    (s.chans[(0 : ChannelId)]).gap = some ⟨0, 1#8, 295#64, 5#64, some 7#64, .shed, 4#5⟩ ∧
    after (fun t => ((t.chans[(0 : ChannelId)]).gap).map (fun g => (g.count, g.causes, g.firstFrame)))
      (exec (.acquisitionFrame (frameBurst 100#16 0#16 [5#16, 6#16] 0#16)) s) = some (some (6#64, 5#5, some 7#64)) := by
  decide +kernel

/-- Channel 0 with block 0, whose bytes_used is `used`. -/
def filling (ch : Channel) (used : Nat) : State :=
  { withPlane quiet (withChannel ch up) with
    rm := { Ring.reset with blocks := [(0, held .filling used 0)], free := #v[some [5], none, none, none] } }

theorem witness_SealAgeTimerExpirySealsTheBlock :
    let s := fun n => filling activeCh n
    ((s 1).chans[(0 : ChannelId)]).sealTimer ≠ none ∧ ((s 1).chans[(0 : ChannelId)]).filling = some 0 ∧
    ((s 1).rm.block 0).state = .filling ∧ ChannelSound ((s 1).chans[(0 : ChannelId)]) ∧ 0 < ((s 1).rm.block 0).bytesUsed ∧
    ((s 0).rm.block 0).bytesUsed = 0 := by
  refine ⟨by decide, by decide, by decide, activeCh_sound, by decide, by decide⟩

/-- Block 0 SEALING with 32 bytes unwritten, its channel's last header being written. -/
def headerGoing (live : Bool) (left : Nat) : State :=
  { accessing (.headerWrite 0 0 0 (List.replicate 32 1#8) live) (withChannel offeringCh up) with
    rm := { Ring.reset with blocks := [(0, { held .sealing 32 0 with unwritten := left })], free := #v[some [5], none, none, none] } }

theorem witness_HeaderWriteStoresTheHeader :
    MemoryCanonical (headerGoing true 32) ∧
    ((headerGoing true 32).planes[(0 : PlaneId)]).port = some (.headerWrite 0 0 0 (List.replicate 32 1#8) true) ∧
    0 * 1048576 + 0 + (List.replicate 32 (1#8 : Byte)).length ≤ 8589934592 ∧
    ((headerGoing true 32).rm.block 0).state = .sealing ∧ ((headerGoing true 32).rm.block 0).unwritten ≤ 32 ∧
    ((headerGoing true 32).rm.block 0).cls ≠ none ∧
    8191 * 1048576 + 1048544 + (List.replicate 32 (1#8 : Byte)).length ≤ 8589934592 ∧
    after (fun t => (t.rm.block 0).state) (exec (.headerWriteComplete 0) (headerGoing true 32)) = some .queued ∧
    after (fun t => (t.rm.block 0).state) (exec (.headerWriteComplete 0) (headerGoing true 33)) = some .sealing ∧
    after (fun t => (t.rm.block 0).state) (exec (.headerWriteComplete 0) (headerGoing false 32)) = some .sealing := by
  unfold MemoryCanonical; decide +kernel

/-- A piece of four bytes of channel 0's only run being written. -/
def pieceGoing (live : Bool) (left : Nat) : State :=
  { accessing (.payloadWrite 0 0 32 [1#8, 2#8, 3#8, 4#8] live)
      (withChannel { closingCh with runs := [⟨0, 0, 0, [1#8, 2#8, 3#8, 4#8], true⟩] } up) with
    rm := { Ring.reset with blocks := [(0, { held .sealing 36 0 with unwritten := left })], free := #v[some [5], none, none, none] } }

theorem witness_PayloadWriteStoresThePiece :
    let s := pieceGoing true 4
    MemoryCanonical s ∧ (s.planes[(0 : PlaneId)]).port = some (.payloadWrite 0 0 32 [1#8, 2#8, 3#8, 4#8] true) ∧
    0 * 1048576 + 32 + [1#8, 2#8, 3#8, (4#8 : Byte)].length ≤ 8589934592 ∧
    (s.chans[(0 : ChannelId)]).runs = ⟨0, 0, 0, [1#8, 2#8, 3#8, 4#8], true⟩ :: [] ∧ (s.rm.block 0).state = .sealing ∧
    after (fun t => ((t.rm.block 0).state, readByte t.mem 35)) (exec (.payloadWriteComplete 0) s) = some (.queued, 4#8) ∧
    after (fun t => (t.rm.block 0).state) (exec (.payloadWriteComplete 0) (pieceGoing false 4)) = some .sealing := by
  unfold MemoryCanonical; decide +kernel

/-- A frame of block 0 with its header. -/
def frame0 (i n : Nat) : HalfFrame := ⟨0, 1#32, i, n, 4096 * i, 4, false, held .sending (4096 * n) 0, [1#8, 2#8, 3#8, 4#8]⟩

/-- A half load of block 0 in progress for half 0. -/
def loadGoing (st : HalfState) (f : Option HalfFrame) : State :=
  { accessing (.halfLoad 0 0 0 4) up with ds := { Drain.reset with halves := #v[⟨st, f⟩, ⟨.empty, none⟩] } }

theorem witness_HalfLoadFillsItsHalf :
    ((loadGoing .loading (some (frame0 0 1))).planes[(0 : PlaneId)]).port = some (.halfLoad 0 0 0 4) ∧
    0 * 1048576 + 0 + 4 ≤ 8589934592 ∧
    (loadGoing .loading (some (frame0 0 1))).ds.halves[(0 : Fin 2)] = ⟨.loading, some (frame0 0 1)⟩ ∧
    ((loadGoing .abandoned none).ds.halves[(0 : Fin 2)]).state = .abandoned := by decide

/-- A review read of block 0 in progress for the READ in the slot. -/
def readGoing (live : Bool) : State :=
  { accessing (.reviewRead 0 0 4 live) up with
    mem := [(0, 1#8), (3, 4#8)], rp := { ReviewPort.reset with slot := if live then some (.read 0 0 4) else none } }

theorem witness_ReviewReadAnswersTheRead :
    ((readGoing true).planes[(0 : PlaneId)]).port = some (.reviewRead 0 0 4 true) ∧ (readGoing true).rp.slot = some (.read 0 0 4) ∧
    0 * 1048576 + 0 + 4 ≤ 8589934592 ∧ ((readGoing false).planes[(0 : PlaneId)]).port = some (.reviewRead 0 0 4 false) ∧
    after (fun t => t.rp.responses) (exec (.reviewReadComplete 0) (readGoing true))
      = some [⟨4#8, .ok, 0#16, 4#16, [1#8, 0#8, 0#8, 4#8]⟩] := by decide +kernel

theorem witness_RefreshIsCountedAndGranted :
    let s := fun n => withPlane { quiet with port := some .refresh, owed := n } up
    (State.reset.planes[(0 : PlaneId)]).state ≠ .ready ∧ ((s 7).planes[(0 : PlaneId)]).state = .ready ∧
    ((s 7).planes[(0 : PlaneId)]).port = some .refresh ∧ ((s 7).planes[(0 : PlaneId)]).owed < 8 ∧
    8 ≤ ((s 8).planes[(0 : PlaneId)]).owed ∧
    ((withPlane quiet up).planes[(0 : PlaneId)]).port = none ∧
    after (fun t => t.planes[(0 : PlaneId)]) (exec (.refreshTick 0) (s 7)) = some { quiet with port := some .refresh, owed := 8 } ∧
    after (fun t => t.planes[(0 : PlaneId)]) (exec (.refreshTick 0) (s 8))
      = some { quiet with port := some .refresh, owed := 8, lapse := true } := by decide +kernel

theorem witness_PlaneInitialisationEnds :
    (lastReport.planes[(0 : PlaneId)]).state = .initialising ∧ inPlaneSet lastReport.ts.settings.planeMask 0 = true ∧
    lastReport.su.phase = .planeWait ∧ (∀ q : PlaneId, q ≠ 0 → (lastReport.planes[q]).state ≠ .initialising) ∧
    (State.reset.planes[(1 : PlaneId)]).state = .initialising ∧
    (let s := { State.reset with ts := { TableStore.reset with settings := { Settings.default with planeMask := 0b1110#4 } } }
     inPlaneSet s.ts.settings.planeMask 0 = false) := by decide

/-! ## Witnesses: start-up and resets -/

theorem witness_StartUpEndsInItsMode :
    let s := fun m => { State.reset with su := { StartUp.reset m with phase := .settle, settleTimer := some 1 } }
    (s .link).su.phase = .settle ∧ (s .link).su.settleTimer ≠ none ∧ (s .hold).su.mode = .hold ∧ (s .flash).su.mode = .flash ∧
    (s .flashRun).su.mode = .flashRun ∧ (none : Option (List Byte)).bind judgeImage = none ∧
    (some (0#8 :: slotImage 31#8)).bind judgeImage = none ∧ (loading .flashRun).mu.stream = .init ∧
    (loading .flash).su.mode ≠ .flashRun ∧ (loading .flashRun).su.phase = .flashLoad ∧
    after (fun t => (t.ts.slotMap[0]).current) (exec (.flashReadComplete (some (slotImage 15#8))) (loading .flash))
      = some (some 15) := by decide +kernel

theorem witness_DeviceResetGivesTheResetValues :
    up.rp.slot = none ∧ (readGoing true).rp.slot = some (.read 0 0 4) ∧
    Serving ⟨9#8, 8#8, [2#8, 0#8, 0#8, 0#8]⟩ (asking ⟨9#8, 8#8, [2#8, 0#8, 0#8, 0#8]⟩ up) ∧
    ({ up with rp := { ReviewPort.reset with slot := some (.locate 0 1#8 0#64 8191) } } : State).rp.slot
      = some (.locate 0 1#8 0#64 8191) := by unfold Serving; decide

/-! ## Witnesses: the link, the drain, marks -/

theorem witness_OneUsedLaneTakesTheLinkDown :
    up.sl.state = .ready ∧ (3 : Fin 4).val < up.sl.lanes ∧
    ({ up.sl with lanes := 1 } : Link).lanes ≤ (1 : Fin 4).val ∧ State.reset.sl.state = .training := by decide

/-- Block 0 SENDING with frame 0 of 2 loaded in half 0. -/
def draining (hf : HalfState) (tx : Option TxFrame) (frame : HalfFrame) (covered : Bool) (pins : Nat) : State :=
  { oneBlock (held .sending 8192 pins) up with
    ds := { Drain.reset with
      slot := [⟨0, 1#32, covered, false, 2, frame.frame⟩], halves := #v[⟨hf, some frame⟩, ⟨.empty, none⟩]
      granted := 10#32, committed := if covered then 1#32 else 0#32, transmitted := 1#32, highest := 1#32, nextSeq := 2#32 }
    sl := { up.sl with tx := tx } }

theorem draining_collected (hf : HalfState) (tx : Option TxFrame) (frame : HalfFrame) (covered : Bool) (pins : Nat) :
    BlocksCollected (draining hf tx frame covered pins) :=
  collected_held .sending 8192 pins (by decide) (by decide) rfl rfl up_noFilling

theorem witness_LinkDownKeepsWhatWasNotCommitted :
    let s := oneBlock (held .sent 4 0) up
    BlocksCollected s ∧ (s.sl.state = .syncWait ∨ s.sl.state = .ready) ∧ (3 : Fin 4).val < s.sl.lanes ∧ s.sl.silenceTimer ≠ none ∧
    ⟨0, 1#32⟩ ∈ s.ds.sent ∧
    after (fun t => (t.ds.redrain, (t.rm.block 0).state)) (exec .receiveSilenceTimeout s) = some ([⟨0, 1#32⟩], .redrain) ∧
    after (fun t => t.ds.redrain) (exec (.laneAlignmentLoss 3) (draining .transmitting (some (.data 0)) (frame0 0 2) true 0))
      = some [] :=
  ⟨collected_held .sent 4 0 (by decide) (by decide) rfl rfl up_noFilling, by decide +kernel⟩

theorem witness_TrainingSettlesTheLaneCount :
    State.reset.sl.state = .training ∧ (1#4).getLsbD 0 = true ∧ (0b0111#4).getLsbD 1 = true ∧ State.reset.sl.attemptTimer ≠ none ∧
    (waiting false).sl.state = .syncWait ∧ (waiting false).sl.helloTimer ≠ none ∧
    [1#4, 0b0011#4, 0b1101#4, 0b0111#4, 15#4].map (fun a => after (fun t => t.sl.lanes) (exec (.trainingAttemptComplete a) State.reset))
      = [some 1, some 2, some 1, some 2, some 4] := by decide +kernel

/-- A GAP mark. -/
def gapMark : Mark := .gap ⟨0, 1#8, 0#64, 1#64, some 0#64, .frame, 1#5⟩
/-- A reply of four bytes. -/
def someReply : Reply := ⟨1#8, 2#8, .ok, [1#8, 2#8, 3#8, 4#8], false⟩

/-- Each of HELLO, REPLY, MARK, DATA and FILL is the first that waits. -/
theorem witness_FrameStartsFollowTheOrder :
    let due := { waiting false with sl := { (waiting false).sl with helloDue := true } }
    let reply := { up with mu := { up.mu with replies := [someReply] } }
    let mark := { up with marks := { MarkUnit.reset with queue := [gapMark] } }
    let data := draining .loaded none (frame0 0 2) false 0
    (due.sl.state = .syncWait ∧ due.sl.tx = none ∧ due.sl.helloDue = true) ∧
    (reply.sl.tx = none ∧ reply.sl.helloDue = false ∧ reply.mu.replies = someReply :: [] ∧ reply.mu.replyInTx = false) ∧
    (mark.sl.state = .ready ∧ mark.mu.replies = [] ∧ mark.marks.queue = gapMark :: [] ∧ mark.marks.headInTx = false) ∧
    (data.marks.queue = [] ∧ dataReady data = some 0) ∧ dataReady up = none ∧
    after (fun t => t.sl.tx) (exec .forwardFrameStart data) = some (some (.data 0)) ∧
    after (fun t => t.sl.tx) (exec .forwardFrameStart (streaming .halt data)) = some (some .fill) := by decide +kernel

/-- A frame in transmission. -/
def sending (tx : TxFrame) (s : State) : State := { s with sl := { s.sl with tx := some tx } }

theorem witness_FrameEndsReachTheirSource :
    let h : Hello := ⟨.linkUp, .run, 0#32, 0#32, 0#32, 0#32, 1#32, 0⟩
    let full := { withChannel { closingCh with runs := [], waiting := [] } up with
      marks := { MarkUnit.reset with queue := List.replicate 64 gapMark, headInTx := true } }
    (sending (.hello h true) up).sl.tx = some (.hello h true) ∧ (sending (.reply someReply) up).sl.tx = some (.reply someReply) ∧
    (sending (.reply someReply) up).mu.queue = [] ∧ (sending .fill up).sl.tx = some .fill ∧
    (sending (.mark gapMark false) up).sl.tx = some (.mark gapMark false) ∧
    (full.chans[(0 : ChannelId)]).state = .closing ∧ (full.chans[(0 : ChannelId)]).gap ≠ none ∧
    after (fun t => ((t.chans[(0 : ChannelId)]).state, t.marks.queue.length)) (exec .markFrameEnd (sending (.mark gapMark true) full))
      = some (.idle, 64) := by decide +kernel

theorem witness_DataFrameEndFinishesTheBlock :
    let mid := draining .transmitting (some (.data 0)) (frame0 0 2) false 0
    let last := fun covered pins => draining .transmitting (some (.data 0)) (frame0 1 2) covered pins
    BlocksCollected mid ∧ BlocksCollected (last true 3) ∧ mid.sl.tx = some (.data 0) ∧
    (mid.ds.halves[(0 : Fin 2)]).frame = some (frame0 0 2) ∧ mid.ds.slot = ⟨0, 1#32, false, false, 2, 0⟩ :: [] ∧
    (frame0 0 2).frame + 1 ≠ (frame0 0 2).frameCount ∧ (frame0 1 2).frame + 1 = (frame0 1 2).frameCount ∧
    ((last true 0).rm.block 0).pins = 0 ∧ ((last true 3).rm.block 0).pins ≠ 0 ∧
    after (fun t => (t.ds.sent, (t.rm.block 0).state)) (exec .dataFrameEnd (last false 0)) = some ([⟨0, 1#32⟩], .sent) ∧
    after (fun t => (t.rm.block 0).state) (exec .dataFrameEnd (last true 0)) = some .free ∧
    after (fun t => (t.rm.block 0).state) (exec .dataFrameEnd (last true 3)) = some .retired :=
  ⟨draining_collected .., draining_collected .., by decide +kernel⟩

/-- In serial order: the value at and after the limits of R120 and R121. -/
theorem witness_FlowGrantsCommitsAndMakesReady :
    let s := fun pins => oneBlock (held .sent 4 pins) (waiting true)
    ((s 0).sl.state = .syncWait ∧ (s 0).sl.helloSent = true) ∧ DrainOrdered (s 0).ds ∧ BlocksCollected (s 0) ∧ BlocksCollected (s 3) ∧
    up.sl.state = .ready ∧ (waiting false).sl.helloSent = false ∧
    after (fun t => (t.ds.granted, t.ds.committed, (t.rm.block 0).state, t.sl.state)) (exec (.flowFrame 0x7FFFFFFF#32 1#32) (s 0))
      = some (0x7FFFFFFF#32, 1#32, .free, .ready) ∧
    after (fun t => (t.ds.granted, t.ds.committed, (t.rm.block 0).state)) (exec (.flowFrame 0x80000000#32 2#32) (s 3))
      = some (10#32, 1#32, .retired) := by
  refine ⟨by decide, ?_, collected_held .sent 4 0 (by decide) (by decide) rfl rfl up_noFilling,
    collected_held .sent 4 3 (by decide) (by decide) rfl rfl up_noFilling, by decide +kernel⟩
  refine ⟨by decide, by decide, by decide, by decide, by decide, by decide, by decide, by decide, by decide, ?_⟩
  intro e h; cases h

theorem witness_ReturnFramesReachTheirOwner :
    let q := fun n : Nat => { up with mu := { up.mu with queue := List.replicate n ⟨0#8, 6#8, []⟩, inProgress := some ⟨0#8, 6#8, []⟩ } }
    4 ≤ (q 4).mu.queue.length ∧ (q 3).mu.queue.length < 4 ∧ (q 3).mu.inProgress ≠ none ∧
    (up.mu.queue = [] ∧ up.mu.inProgress = none ∧ up.mu.replies.length < 4 ∧ up.mu.stream ≠ .init) ∧
    (streaming .init up).mu.stream = .init ∧ (⟨1#8, 6#8, []⟩ : Request).row ≠ none ∧ (⟨1#8, 3#8, [6#8]⟩ : Request).row = none ∧
    decodeReturnFrame [0x15#8, 0#8, 0#8, 0#8] = none ∧ ({ up.sl with rejected := 65535 } : Link).rejected = 65535 ∧
    after (fun t => t.mu.overflow) (exec (.requestFrame 1#8 6#8 []) (q 4)) = some true ∧
    after (fun t => t.sl.rejected) (exec (.returnFrameRejected []) { up with sl := { up.sl with rejected := 65535 } }) = some 65535 := by
  decide +kernel

/-! ## Witnesses: requests -/

/-- A TABLE_WRITE of a profile: factor 1, record_len 17, offset 0. -/
def profileWrite (k factor mode width : Byte) : Request :=
  ⟨9#8, 1#8, [2#8, k, 0#8, 0#8, factor, 0#8, 16#8, 0#8, 0#8, 0#8, mode, width]⟩

/-- Profiles 7 and 8, PEAK's even record_len, PASS with factor 2, an unnamed width; and a profile a channel uses. -/
theorem witness_ProfileWritesAreCheckedAndClamped :
    let run := fun r => after (fun t => (t.mu.replies.map (fun x => x.status), (t.ts.profiles[7]).current.recordLen))
      (exec .tableWriteProfile (asking r up))
    Serving (profileWrite 7#8 0#8 3#8 8#8) (asking (profileWrite 7#8 0#8 3#8 8#8) up) ∧
    run (profileWrite 7#8 0#8 3#8 8#8) = some ([.ok], 18) ∧ run (profileWrite 8#8 0#8 3#8 8#8) = some ([.badArg], 1024) ∧
    run (profileWrite 7#8 1#8 0#8 8#8) = some ([.badArg], 1024) ∧ run (profileWrite 7#8 0#8 4#8 8#8) = some ([.badArg], 1024) ∧
    run (profileWrite 7#8 0#8 0#8 9#8) = some ([.badArg], 1024) ∧ run (profileWrite 7#8 0#8 0#8 16#8) = some ([.ok], 17) ∧
    profileReferenced (withChannel activeCh up) 0 = true ∧ profileReferenced up 0 = false := by unfold Serving; decide +kernel

theorem witness_SlotMapAndChannelWritesApplyOrWait :
    let slot := fun (k v : Byte) => (⟨9#8, 1#8, [1#8, k, 0#8, 0#8, v, 0#8, 0#8, 0#8]⟩ : Request)
    let chan := fun (k : Byte) => (⟨9#8, 1#8, [3#8, k, 0#8, 0#8] ++ ChannelConfig.default.bytes⟩ : Request)
    Serving (slot 31#8 15#8) (asking (slot 31#8 15#8) up) ∧ Serving (chan 15#8) (asking (chan 15#8) up) ∧
    (streaming .standby up).mu.stream = .standby ∧ ChannelConfig.default.sealAgeMs ≤ 65535 ∧
    after (fun t => t.ts.slotMap[31]) (exec .tableWriteSlotMap (asking (slot 31#8 15#8) up)) = some ⟨none, some (some 15)⟩ ∧
    after (fun t => t.ts.slotMap[31]) (exec .tableWriteSlotMap (asking (slot 31#8 15#8) (streaming .standby up)))
      = some ⟨some 15, none⟩ ∧
    after (fun t => t.mu.replies.map (fun x => x.status)) (exec .tableWriteSlotMap (asking (slot 32#8 15#8) up)) = some [.badArg] ∧
    after (fun t => t.mu.replies.map (fun x => x.status)) (exec .tableWriteSlotMap (asking (slot 31#8 16#8) up)) = some [.badArg] ∧
    after (fun t => t.mu.replies.map (fun x => x.status)) (exec .tableWriteChannel (asking (chan 16#8) up)) = some [.badArg] ∧
    (up.chans[(15 : ChannelId)]).state = .idle ∧ ((withChannel lossCh up).chans[(0 : ChannelId)]).state ≠ .idle := by
  unfold Serving; decide +kernel

theorem witness_SettingsTakeEffectByField :
    let r := fun (x : Settings) => (⟨9#8, 1#8, [4#8, 0#8, 0#8, 0#8] ++ x.bytes⟩ : Request)
    let edge : Settings := { Settings.default with slotCount := 32, tightMark := 8192, criticalMark := 8127 }
    let bad : Settings := { edge with criticalMark := 8128 }
    Serving (r edge) (asking (r edge) up) ∧ SettingsInRange edge ∧ edge.planeMask = up.ts.settings.planeMask ∧
    ({ edge with planeMask := 7#4 } : Settings).planeMask ≠ up.ts.settings.planeMask ∧ up.mu.stream ≠ .standby ∧
    (bad.slotCount < 256 ∧ bad.tightMark < 65536 ∧ bad.criticalMark < 65536 ∧ bad.hysteresis < 65536 ∧
      (∀ k : ClassId, bad.weights[k] < 256) ∧ ¬ SettingsInRange bad) ∧
    after (fun t => t.ts.pendingSlotCount) (exec .tableWriteSettings (asking (r edge) up)) = some (some 32) ∧
    after (fun t => t.mu.replies.map (fun x => x.status)) (exec .tableWriteSettings (asking (r bad) up)) = some [.badArg] ∧
    after (fun t => t.mu.replies.map (fun x => x.status)) (exec .tableWriteSettings (asking (r { edge with planeMask := 7#4 }) up))
      = some [.refused] := by
  unfold Serving SettingsInRange; decide +kernel

theorem witness_ProfileReadsAndResets :
    let r : Request := ⟨9#8, 2#8, [2#8, byteOf 7, 0#8, 0#8]⟩
    let s := { up with ts := { up.ts with profiles := put up.ts.profiles 7 ⟨Profile.default, some peakProfile⟩ } }
    Serving r (asking r up) ∧ up.ts.profiles[(7 : Fin 8)] = ⟨Profile.default, none⟩ ∧
    s.ts.profiles[(7 : Fin 8)] = ⟨Profile.default, some peakProfile⟩ ∧
    Serving ⟨9#8, 8#8, [1#8, 0#8, 0#8, 0#8]⟩ (asking ⟨9#8, 8#8, [1#8, 0#8, 0#8, 0#8]⟩ s) ∧
    after (fun t => t.ts.profiles[7]) (exec .resetStream (asking ⟨9#8, 8#8, [1#8, 0#8, 0#8, 0#8]⟩ s)) = some ⟨peakProfile, none⟩ := by
  unfold Serving; decide +kernel

/-- A lossy channel's read, byte by byte from R20, R22, R184 and R185. -/
theorem witness_ChannelReadsShowTheRuntimePart :
    let r := fun k : Byte => (⟨9#8, 2#8, [3#8, k, 0#8, 0#8]⟩ : Request)
    Serving (r 15#8) (asking (r 15#8) up) ∧ up.ts.channels[(15 : ChannelId)] = ⟨ChannelConfig.default, none⟩ ∧
    after (fun t => t.mu.replies.map (fun x => x.status)) (exec .tableRead (asking (r 16#8) up)) = some [.badArg] ∧
    after (fun t => t.mu.replies.map (fun x => x.contents)) (exec .tableRead (asking (r 0#8) (withChannel lossCh up)))
      = some [[3#8, 0#8, 0#8, 0#8, 0#8, 0#8, 0#8, 4#8, 3#8, 0#8, 100#8, 0#8, 0#8, 1#8, 0#8, 0#8, 3#8, 1#8, 4#8, 0#8,
               44#8, 1#8, 0#8, 0#8, 0#8, 0#8, 0#8, 0#8]] := by unfold Serving; decide +kernel

/-! ## Witnesses: stream and channel commands -/

/-- A request of four contents bytes, the first of them `code`. -/
def fourBytes (kind code : Byte) : Request := ⟨9#8, kind, [code, 0#8, 0#8, 0#8]⟩

/-- RUN is taken from STANDBY alone, PAUSE from RUN, HALT from RUN and PAUSE, RESUME from PAUSE and HALT, STANDBY from those three. -/
theorem witness_StreamCommandsFollowTheirTable :
    let out := fun cmd code st => after (fun t => t.mu.stream) (exec cmd (asking (fourBytes 3#8 code) (streaming st up)))
    let from' := fun cmd code => ([.standby, .run, .pause, .halt] : List StreamState).map (out cmd code)
    Serving (fourBytes 3#8 1#8) (asking (fourBytes 3#8 1#8) up) ∧
    from' .streamRun 1#8 = [some .run, some .run, some .pause, some .halt] ∧
    from' .streamPause 2#8 = [some .standby, some .pause, some .pause, some .halt] ∧
    from' .streamHalt 3#8 = [some .standby, some .halt, some .halt, some .halt] ∧
    from' .streamResume 4#8 = [some .standby, some .run, some .run, some .run] ∧
    from' .streamStandby 5#8 = [some .standby, some .standby, some .standby, some .standby] ∧
    (up.mu.queue = [] ∧ up.mu.inProgress = none ∧ up.mu.replies.length < 4 ∧ 5 < (6#8 : Byte).toNat ∧ (0#8 : Byte).toNat = 0) ∧
    (State.reset.mu.stream = .init ∧ after (fun t => t.mu.stream) (exec (.deviceReset 0#2) up) = some .init ∧
      after (fun t => t.mu.stream) (exec (.flashReadComplete none) (loading .flash)) = some .standby) := by
  unfold Serving; decide +kernel

/-- PAUSE takes an ACTIVE channel into LOSS with HELD alone, a LOSS channel keeps its gap and adds HELD; STANDBY stops them. -/
theorem witness_StreamChangesReachTheChannels :
    let idleGroup := { activeCh with group := none, pack := none }
    ChannelsSound (asking (fourBytes 3#8 2#8) (withChannel lossCh up)) ∧ ChannelsSound (asking (fourBytes 3#8 5#8) (withChannel activeCh up)) ∧
    Serving (fourBytes 3#8 1#8) (asking (fourBytes 3#8 1#8) (streaming .standby up)) ∧
    Serving (fourBytes 3#8 4#8) (asking (fourBytes 3#8 4#8) (streaming .halt up)) ∧
    Serving (fourBytes 3#8 3#8) (asking (fourBytes 3#8 3#8) (streaming .pause up)) ∧
    after (fun t => (t.chans[(0 : ChannelId)]).gap) (exec .streamPause (asking (fourBytes 3#8 2#8) (withChannel lossCh up)))
      = some (some ⟨0, 1#8, 295#64, 5#64, some 7#64, .shed, 20#5⟩) ∧
    after (fun t => (t.chans[(0 : ChannelId)]).gap) (exec .streamHalt (asking (fourBytes 3#8 3#8) (filling idleGroup 52)))
      = some (some ⟨0, 1#8, 300#64, 0#64, none, .held, 16#5⟩) ∧
    after (fun t => (t.chans[(0 : ChannelId)]).state) (exec .streamStandby (asking (fourBytes 3#8 5#8) (withChannel closingCh up)))
      = some .closing := by
  refine ⟨channelsSound_with lossCh_sound rfl rfl (by decide), channelsSound_with activeCh_sound rfl rfl (by decide), ?_⟩
  unfold Serving; decide +kernel

/-- A CHANNEL request. -/
def chanAsk (k code : Byte) : Request := ⟨9#8, 4#8, [k, code, 0#8, 0#8]⟩

theorem witness_StartArmsAnIdleChannel :
    Serving (chanAsk (byteOf 15) 1#8) (asking (chanAsk (byteOf 15) 1#8) up) ∧ (up.chans[(15 : ChannelId)]).state = .idle ∧
    ((withChannel closingCh up).chans[(0 : ChannelId)]).state = .closing ∧
    ((withChannel lossCh up).chans[(0 : ChannelId)]).state ≠ .idle ∧ 16 ≤ (16#8 : Byte).toNat ∧
    after (fun t => (t.chans[(0 : ChannelId)]).run) (exec .channelStart (asking (chanAsk 0#8 1#8)
      (withChannel { Channel.reset with run := 255#8 } up))) = some 0#8 ∧
    after (fun t => t.mu.replies.map (fun x => x.status)) (exec .channelStart (asking (chanAsk 0#8 1#8) (withChannel closingCh up)))
      = some [.busy] := by unfold Serving; decide +kernel

/-- A channel in LOSS whose block is empty, nothing staged. -/
theorem witness_StopClosesTheRun :
    let s := fun ch n => asking (chanAsk (byteOf 0) 2#8) (filling ch n)
    Serving (chanAsk (byteOf 0) 2#8) (s lossCh 52) ∧ ChannelSound ((s lossCh 52).chans[(0 : ChannelId)]) ∧
    ChannelSound ((s activeCh 52).chans[(0 : ChannelId)]) ∧
    BlocksCollected (asking (chanAsk (byteOf 0) 2#8) (oneBlock (held .filling 0 0) (withChannel { lossCh with filling := none } up))) ∧
    ((s lossCh 52).chans[(0 : ChannelId)]).gap = some ⟨0, 1#8, 295#64, 5#64, some 7#64, .shed, 4#5⟩ ∧
    ((s lossCh 52).chans[(0 : ChannelId)]).filling = some 0 ∧ 0 < ((s lossCh 52).rm.block 0).bytesUsed ∧
    ((s lossCh 0).rm.block 0).bytesUsed = 0 ∧ ((s closingCh 0).chans[(0 : ChannelId)]).state = .closing ∧
    after (fun t => ((t.chans[(0 : ChannelId)]).state, t.marks.queue.length, (t.rm.block 0).cause)) (exec .channelStop (s lossCh 52))
      = some (.idle, 1, some .stop) ∧
    after (fun t => (t.chans[(0 : ChannelId)]).state) (exec .channelStop (s { Channel.reset with state := .armed } 52)) = some .idle ∧
    after (fun t => t.mu.replies.map (fun x => x.status)) (exec .channelStop (s closingCh 52)) = some [.refused] := by
  refine ⟨⟨rfl, by decide, rfl⟩, lossCh_sound, activeCh_sound,
    collected_held .filling 0 0 (by decide) (by decide) rfl rfl ?_, by decide +kernel⟩
  intro c
  rw [withChannel_chans]
  split
  · rfl
  · exact up_noFilling c

theorem witness_FlushSealsTheBlock :
    let s := fun ch n => asking (chanAsk (byteOf 0) 3#8) (filling ch n)
    Serving (chanAsk (byteOf 0) 3#8) (s lossCh 52) ∧ ChannelSound ((s lossCh 52).chans[(0 : ChannelId)]) ∧
    ((s lossCh 52).chans[(0 : ChannelId)]).filling = some 0 ∧ ((s lossCh 52).rm.block 0).state = .filling ∧
    0 < ((s lossCh 1).rm.block 0).bytesUsed ∧ ((s lossCh 0).rm.block 0).bytesUsed = 0 ∧
    ((s closingCh 52).chans[(0 : ChannelId)]).state ≠ .active ∧
    after (fun t => ((t.chans[(0 : ChannelId)]).state, (t.rm.block 0).cause)) (exec .channelFlush (s lossCh 52))
      = some (.loss, some .flush) := by
  refine ⟨⟨rfl, by decide, rfl⟩, lossCh_sound, by decide +kernel⟩

/-! ## Witnesses: queries, form, stream reset -/

theorem witness_QueriesReadAndChangeOnlyTheirFlags :
    let r := fun (b0 b1 : Byte) => (⟨9#8, 5#8, [b0, b1, 0#8, 0#8]⟩ : Request)
    Serving (r 255#8 31#8) (asking (r 255#8 31#8) up) ∧ (255#8 : Byte).toNat + 256 * (31#8 : Byte).toNat = 8191 ∧
    after (fun t => t.mu.replies.map (fun x => (x.status, x.contents.length))) (exec .blockQuery (asking (r 255#8 31#8) up)) = some [(.ok, 64)] ∧
    after (fun t => t.mu.replies.map (fun x => x.status)) (exec .blockQuery (asking (r 0#8 32#8) up)) = some [.badArg] ∧
    Serving ⟨9#8, 6#8, []⟩ (asking ⟨9#8, 6#8, []⟩ up) ∧ Serving ⟨9#8, 7#8, []⟩ (asking ⟨9#8, 7#8, []⟩ up) ∧
    Serving ⟨9#8, 9#8, [1#8]⟩ (asking ⟨9#8, 9#8, [1#8]⟩ up) ∧ 8 < (⟨9#8, 9#8, [1#8]⟩ : Request).kind.toNat := by
  unfold Serving; decide +kernel

theorem witness_FormIsJudgedBeforeMeaning :
    let short : Request := ⟨9#8, 3#8, [1#8, 0#8, 0#8]⟩
    short.row = some .streamRun ∧ (asking short up).mu.inProgress = some short ∧ short.contents.length ≠ 4 ∧
    (asking (fourBytes 3#8 1#8) (streaming .init up)).mu.stream = .init ∧ (fourBytes 3#8 1#8).row = some .streamRun ∧
    after (fun t => t.mu.replies.map (fun x => x.status)) (exec .streamRun (asking short up)) = some [.badArg] ∧
    after (fun t => t.mu.replies.map (fun x => x.status)) (exec .streamRun (asking short (streaming .init up))) = some [.busy] := by
  decide +kernel

theorem witness_StreamResetEmptiesTheCapturePath :
    let r := fourBytes 8#8 1#8
    Serving r (asking r up) ∧ (waiting true).sl.state = .syncWait ∧ State.reset.sl.state = .training ∧
    (readGoing true).rp.slot = some (.read 0 0 4) ∧
    ({ up with rp := { ReviewPort.reset with slot := some (.locate 0 1#8 0#64 8191) } } : State).rp.slot
      = some (.locate 0 1#8 0#64 8191) ∧
    after (fun t => (t.sl.state, t.sl.reason, (t.rm.block 0).state, t.ds.committed)) (exec .resetStream (asking r (oneBlock (held .sent 4 3) up)))
      = some (.syncWait, .streamReset, .free, 1#32) := by unfold Serving; decide +kernel

/-! ## Witnesses: the Review Port -/

theorem witness_PinsAreCountedAndAnswered :
    let s := fun st pins => oneBlock (held st 4 pins) up
    ReviewIdle (s .sent 2) ∧ (0#16 : Word16).toNat < 8192 ∧ ((s .sent 2).rm.block 0).pins < 3 ∧ 3 ≤ ((s .sent 3).rm.block 0).pins ∧
    ((s .filling 0).rm.block 0).state = .filling ∧ BlocksCollected (s .retired 1) ∧ BlocksCollected (s .queued 0) ∧
    (((s .retired 1).rm.block 0).state = .retired ∧ ((s .retired 1).rm.block 0).pins = 1) ∧ ((s .retired 3).rm.block 0).pins ≠ 0 ∧
    8192 ≤ (8192#16 : Word16).toNat ∧ (readGoing true).rp.slot ≠ none ∧
    after (fun t => (t.rm.block 0).state) (exec (.unpin 0#16) (s .retired 1)) = some .free ∧
    after (fun t => (t.rm.block 0).state) (exec (.unpin 0#16) (s .sent 1)) = some .sent ∧
    after (fun t => t.rp.responses.map (fun x => (x.status, x.value))) (exec (.pin 0#16) (s .sent 2)) = some [(.ok, 3#16)] ∧
    after (fun t => t.rp.responses.map (fun x => x.status)) (exec (.pin 0#16) (s .sent 3)) = some [.pinLimit] ∧
    after (fun t => t.rp.responses.map (fun x => x.status)) (exec (.pin 0#16) (s .filling 0)) = some [.badState] ∧
    after (fun t => t.rp.responses.map (fun x => x.status)) (exec (.pin 8192#16) (readGoing true)) = some [.busy] := by
  refine ⟨⟨rfl, rfl, rfl⟩, by decide, by decide, by decide, by decide,
    collected_held .retired 4 1 (by decide) (by decide) rfl rfl up_noFilling,
    collected_held .queued 4 0 (by decide) (by decide) rfl rfl up_noFilling, by decide +kernel⟩

theorem witness_ReadsAreCheckedAndClaimed :
    let s := fun pins => oneBlock (held .sent 8192 pins) up
    ReviewIdle (s 1) ∧ ((s 1).rm.block 0).pins ≠ 0 ∧ ((s 1).rm.block 0).bytesUsed = 8192 ∧ ((s 0).rm.block 0).pins = 0 ∧
    ((s 1).planes[planeOf 0]).state = .ready ∧ ((s 1).planes[planeOf 0]).port = none ∧ intakeChoice (s 1) (planeOf 0) true = none ∧
    (readGoing true).rp.slot ≠ none ∧
    after (fun t => (t.planes[(0 : PlaneId)]).port) (exec (.read 0#16 8188#32 4096#16) (s 1)) = some (some (.reviewRead 0 8188 4 true)) ∧
    after (fun t => t.rp.responses.map (fun x => x.status)) (exec (.read 0#16 8192#32 4#16) (s 1)) = some [.badArg] ∧
    after (fun t => t.rp.responses.map (fun x => x.status)) (exec (.read 0#16 0#32 4100#16) (s 1)) = some [.badArg] ∧
    after (fun t => t.rp.responses.map (fun x => x.status)) (exec (.read 0#16 0#32 4#16) (s 0)) = some [.notPinned] := by
  unfold ReviewIdle; decide +kernel

/-- Block 0 SENT with indices 10 to 20. -/
def indexed (pins : Nat) : State :=
  oneBlock { held .sent 4 pins with firstIndex := some 10#64, lastIndex := some 20#64 } up

/-- `indexed` with a LOCATE at entry `b`. -/
def scanning (pins : Nat) (index : Word64) (b : BlockId) : State :=
  { indexed pins with rp := { ReviewPort.reset with slot := some (.locate 0 1#8 index b) } }

theorem witness_LocateDescribeAndUnknownKinds :
    up.rp.slot = none ∧ up.rp.hold = false ∧ (15#8 : Byte).toNat < 16 ∧ 16 ≤ (16#8 : Byte).toNat ∧ (readGoing true).rp.slot ≠ none ∧
    (scanning 0 20#64 0).rp.slot = some (.locate 0 1#8 20#64 0) ∧ 8191 < 8192 ∧
    (8191#16 : Word16).toNat < 8192 ∧ 8192 ≤ (8192#16 : Word16).toNat ∧ 5 < (6#8 : Byte).toNat ∧
    after (fun t => (t.rm.block 0).pins) (exec .locateScanStep (scanning 2 20#64 0)) = some 3 ∧
    after (fun t => (t.rm.block 0).pins) (exec .locateScanStep (scanning 2 10#64 0)) = some 3 ∧
    after (fun t => t.rp.slot) (exec .locateScanStep (scanning 2 21#64 0)) = some (some (.locate 0 1#8 21#64 1)) ∧
    after (fun t => t.rp.slot) (exec .locateScanStep (scanning 2 9#64 0)) = some (some (.locate 0 1#8 9#64 1)) ∧
    after (fun t => t.rp.responses.map (fun x => x.status)) (exec .locateScanStep (scanning 3 20#64 0)) = some [.pinLimit] ∧
    after (fun t => t.rp.responses.map (fun x => x.status)) (exec .locateScanStep (scanning 0 20#64 8191)) = some [.notFound] := by
  decide +kernel

theorem witness_LocateFindsTheLowestMatch :
    ReviewIdle (indexed 2) ∧ locateMatches 0 1#8 20#64 ((indexed 2).rm.block 0) = true ∧ ((indexed 2).rm.block 0).pins < 3 ∧
    (∀ b', b' < 0 → locateMatches 0 1#8 20#64 ((indexed 2).rm.block b') = false) ∧
    ∀ b, b < 8192 → locateMatches 1 1#8 20#64 (Ring.reset.block b) = false := by
  refine ⟨⟨rfl, rfl, rfl⟩, by decide +kernel, by decide +kernel, fun b' h => absurd h (Nat.not_lt_zero _), fun b _ => ?_⟩
  have h : Ring.reset.block b = .cleared .offline := by simp [Ring.block, Ring.reset, tableGet]
  rw [h]; decide

/-! ## Review requests: bytes written out from R187 -/

/-- LOCATE of channel 5, run 3, index 0x0807060504030201; READ of block 0x1234 at offset 0x01020304, length 0x0010; kind 9. -/
theorem test_review_requests :
    decodeReviewRequest [1#8, 0#8, 5#8, 3#8, 1#8, 2#8, 3#8, 4#8, 5#8, 6#8, 7#8, 8#8] = some (.locate 5#8 3#8 0x0807060504030201#64) ∧
    decodeReviewRequest [4#8, 0#8, 0x34#8, 0x12#8, 4#8, 3#8, 2#8, 1#8, 0x10#8, 0#8, 0#8, 0#8]
      = some (.read 0x1234#16 0x01020304#32 0x0010#16) ∧
    decodeReviewRequest [2#8, 0#8, 0xFF#8, 0x1F#8, 0#8, 0#8, 0#8, 0#8, 0#8, 0#8, 0#8, 0#8] = some (.pin 8191#16) ∧
    decodeReviewRequest [3#8, 0#8, 0xFF#8, 0x1F#8, 0#8, 0#8, 0#8, 0#8, 0#8, 0#8, 0#8, 0#8] = some (.unpin 8191#16) ∧
    decodeReviewRequest [5#8, 0#8, 0xFF#8, 0x1F#8, 0#8, 0#8, 0#8, 0#8, 0#8, 0#8, 0#8, 0#8] = some (.describe 8191#16) ∧
    decodeReviewRequest (9#8 :: List.replicate 11 0#8) = some (.unknown 9#8) ∧ decodeReviewRequest [1#8] = none ∧
    decodeReviewRequest (encodeReviewRequest (.read 1#16 2#32 4#16)) = some (.read 1#16 2#32 4#16) := by decide +kernel

/-! ## Witnesses: the clauses on arbitration, frames and records -/

/-- No port writes for a channel of a part that is up with one quiet plane. -/
theorem quiet_nothingGoing (ch : Channel) (c : ChannelId) :
    ¬ HeaderGoing (withPlane quiet (withChannel ch up)) c ∧ ¬ PayloadGoing (withPlane quiet (withChannel ch up)) c := by
  constructor <;> (rintro ⟨p, b, off, bs, live, h⟩; fin_cases p <;> cases h)

/-- Bytes of channel 0's only run in block 0. -/
def stagedCh (n : Nat) : Channel := { closingCh with runs := [⟨0, 64, 8, List.replicate n 1#8, true⟩] }

/-- R96 at 3071 and 3072 bytes and at one and two headers; R99 at 513 bytes, behind 8 written ones of a record at offset 64. -/
theorem witness_GrantsFollowTheOrder_offers :
    let s := fun ch => withPlane quiet (withChannel ch up)
    (∀ ch, ¬ HeaderGoing (s ch) 0 ∧ ¬ PayloadGoing (s ch) 0) ∧
    (stagedCh 3071).urgent = false ∧ (stagedCh 3072).urgent = true ∧ offeringCh.urgent = false ∧ urgentCh.urgent = true ∧
    (((s offeringCh).chans[(0 : ChannelId)]).waiting.map (fun w => planeOf w.block)) = [0] ∧
    (intakeAccess (s offeringCh) 0 0).isSome ∧ intakeAccess (s offeringCh) 1 0 = none ∧
    intakeAccess (s (stagedCh 513)) 0 0 = some (.payloadWrite 0 0 104 (List.replicate 512 1#8) true) ∧
    HeaderGoing (headerGoing true 32) 0 ∧ intakeAccess (headerGoing true 32) 0 0 = none ∧
    PayloadGoing (pieceGoing true 4) 0 ∧ intakeAccess (pieceGoing true 4) 0 0 = none ∧
    intakeChoice (s (stagedCh 3071)) 0 true = none ∧ (intakeChoice (s (stagedCh 3072)) 0 true).isSome := by
  refine ⟨fun ch => quiet_nothingGoing ch 0, ?_, ?_, ?_⟩
  · decide +kernel
  · decide +kernel
  · refine ⟨by decide +kernel, by decide +kernel, by decide +kernel, by decide +kernel, by decide +kernel, by decide +kernel,
      ⟨0, 0, 0, _, true, rfl⟩, by decide +kernel, ⟨0, 0, 32, _, true, rfl⟩, by decide +kernel, by decide +kernel, by decide +kernel⟩

/-- Width 32 in force, width 2 pending, and the Mark Queue as given. -/
def widening (queued skip : Nat) : State :=
  { tagged 100#16 false with
    ts := { TableStore.reset with settings := { Settings.default with slotCount := 32 }, pendingSlotCount := some 2 }
    marks := { queue := List.replicate queued (.sweep 0#32 0#64 0), headInTx := false, skip := skip } }

/-- A frame of the pending width is good at a boundary candidate, flagged or forced, and bad otherwise; the SWEEP mark carries the
skipped count, and a full queue counts up to 65535. -/
theorem witness_GoodFramesAdvanceTheCounters_pending :
    let view := fun (t : State) => (t.marks.queue.getLast?, t.marks.skip, t.ts.settings.slotCount)
    let forced := { widening 0 0 with ap := { (widening 0 0).ap with forcedBoundary := true } }
    (widening 63 7).ap.openFrame = none ∧ (widening 63 7).ts.pendingSlotCount = some [5#16, (6#16 : Word16)].length ∧
    ((1#16 : Word16).getLsbD 0 || (widening 63 7).ap.forcedBoundary) = true ∧ (widening 63 7).mu.stream = .run ∧
    after view (exec (frameOf 101#16 1#16) (widening 63 7)) = some (some (.sweep 1#32 1#64 7), 0, 2) ∧
    after view (exec (frameOf 100#16 1#16) (widening 64 65534)) = some (some (.sweep 0#32 0#64 0), 65535, 2) ∧
    after view (exec (frameOf 100#16 1#16) (widening 64 65535)) = some (some (.sweep 0#32 0#64 0), 65535, 2) ∧
    after view (exec (frameOf 100#16 1#16) (streaming .standby (widening 0 3))) = some (none, 3, 2) ∧
    after view (exec (frameOf 100#16 0#16) forced) = some (some (.sweep 1#32 0#64 0), 0, 2) ∧
    after view (exec (frameOf 100#16 0#16) (widening 0 3)) = some (none, 3, 32) := by decide +kernel

/-- `n` words of one burst, the first with a frame start and the last with a frame end. -/
def burst (n : Nat) : List PortWord := ⟨1#16, true, false⟩ :: ((List.replicate (n - 2) 2#16).map (fun x => ⟨x, false, false⟩) ++ [⟨3#16, false, true⟩])

/-- One bad frame of each kind: of the pending width without a boundary, of 1, 2 and 36 words, and cut. -/
theorem witness_BadFramesCountAsOneMissed_kinds :
    let s := widening 0 0
    let open' := { s with ap := { s.ap with openFrame := some ⟨[1#16], false⟩ } }
    BadBurst s (frameBurst 100#16 0#16 [5#16, 6#16] (frameCheck 100#16 0#16 [5#16, 6#16])) none ∧
    BadBurst s [⟨1#16, true, true⟩] none ∧ BadBurst s (burst 2) none ∧ BadBurst s (burst 36) none ∧
    BadBurst open' [⟨9#16, true, false⟩] (some ⟨[9#16], false⟩) ∧
    [[⟨1#16, true, true⟩], burst 2, burst 36].map (fun ws => after (fun t => (t.ap.frameCounter, t.ap.expected, t.ap.openFrame))
      (exec (.acquisitionFrame ws) s)) = List.replicate 3 (some (1#64, some 101#16, none)) ∧
    after (fun t => (t.ap.frameCounter, t.ap.openFrame)) (exec (.acquisitionFrame [⟨9#16, true, false⟩]) open')
      = some (1#64, some ⟨[9#16], false⟩) := by
  refine ⟨.inl ⟨rfl, rfl, .inl ⟨_, _, _, _, by decide, rfl, .inr ⟨by decide, by decide⟩⟩⟩, .inl ⟨rfl, rfl, .inr (.inl ⟨_, rfl⟩)⟩,
    .inl ⟨rfl, rfl, .inr (.inr (.inl ⟨_, _, rfl⟩))⟩, .inl ⟨rfl, rfl, .inr (.inr (.inr ⟨_, List.replicate 34 2#16, _, by decide, rfl⟩))⟩,
    .inr ⟨nofun, _, rfl, rfl⟩, ?_⟩
  decide +kernel

/-- What a closed record leaves: the WAITING header's end kind, SHORT and value count, and the block's bytes_used, records, unwritten. -/
def closedView (t : State) : List (EndKind × Bool × Nat) × List Nat :=
  ((t.chans[(0 : ChannelId)]).waiting.map (fun w => (w.header.endKind, w.header.short, w.header.valueCount)),
    [(t.rm.block 0).bytesUsed, (t.rm.block 0).records, (t.rm.block 0).unwritten])

/-- One value at W 12 in the pack register: 2 bytes and 2 of padding are emitted, and the record holds 36 bytes (R53, R54). -/
theorem witness_SealAgeTimerExpirySealsTheBlock_record :
    let s := filling activeCh 1568
    (s.chans[(0 : ChannelId)]).record = activeCh.record ∧ (s.chans[(0 : ChannelId)]).current = activeCh.current ∧
    activeCh.record.isSome ∧ activeCh.current.isSome ∧ (s.rm.block 0).records = 0 ∧
    after closedView (exec (.sealAgeTimerExpiry 0) s) = some ([(.split, true, 1)], [36, 1, 36]) ∧
    after closedView (exec .channelFlush (asking (chanAsk (byteOf 0) 3#8) s)) = some ([(.split, true, 1)], [36, 1, 36]) ∧
    after closedView (exec .channelFlush (asking (chanAsk (byteOf 0) 3#8) (filling lossCh 52))) = some ([], [52, 0, 0]) :=
  ⟨rfl, rfl, rfl, rfl, by decide, by decide +kernel, by decide +kernel, by decide +kernel⟩

/-- A write that outlived a stream reset finds the staging buffer empty. -/
theorem witness_PayloadWriteStoresThePiece_after_reset :
    let s := withChannel Channel.reset (pieceGoing false 4)
    (s.planes[(0 : PlaneId)]).port = some (.payloadWrite 0 0 32 [1#8, 2#8, 3#8, 4#8] false) ∧
    (s.chans[(0 : ChannelId)]).runs = [] ∧
    after (fun t => readBytes t.mem 32 4) (exec (.payloadWriteComplete 0) s) = some [1#8, 2#8, 3#8, 4#8] := by decide +kernel

/-- The port is free with nothing owed and no claim; owed 1 brings the next refresh, a waiting header comes before it. -/
theorem witness_RefreshIsCountedAndGranted_freed :
    let s := fun n ch => withPlane { quiet with port := some .refresh, owed := n } (withChannel ch up)
    ((s 0 Channel.reset).planes[(0 : PlaneId)]).state = .ready ∧ ((freed 0 (s 0 Channel.reset)).planes[(0 : PlaneId)]).drain = [] ∧
    (∀ c : ChannelId, intakeAccess (freed 0 (s 0 Channel.reset)) 0 c = none) ∧
    after (fun t => (t.planes[(0 : PlaneId)]).port) (exec (.refreshComplete 0) (s 0 Channel.reset)) = some none ∧
    after (fun t => ((t.planes[(0 : PlaneId)]).port, (t.planes[(0 : PlaneId)]).owed)) (exec (.refreshComplete 0) (s 1 Channel.reset))
      = some (some .refresh, 0) ∧
    after (fun t => ((t.planes[(0 : PlaneId)]).port == some .refresh, (t.planes[(0 : PlaneId)]).owed))
      (exec (.refreshComplete 0) (s 7 offeringCh)) = some (false, 7) ∧
    ((withPlane quiet up).planes[(0 : PlaneId)]).port = none ∧
    after (fun t => (t.planes[(0 : PlaneId)]).port) (exec (.refreshTick 0) (withPlane quiet up)) = some (some .refresh) := by
  decide +kernel

/-- An image of one Channel Table entry with autostart, for channel 0; and one of two entries, the first refused. -/
def autostartImage : List Byte :=
  withCheck (leBytes 4 1 ++ [3#8, 0#8, 0#8, 0#8] ++ ({ ChannelConfig.default with autostart := true } : ChannelConfig).bytes)
def twoEntries : List Byte :=
  withCheck (leBytes 4 2 ++ [1#8, 0#8, 0#8, 0#8, 20#8, 0#8, 0#8, 0#8] ++ [1#8, 1#8, 0#8, 0#8, 7#8, 0#8, 0#8, 0#8])

theorem witness_StartUpEndsInItsMode_images :
    (judgeImage autostartImage).isSome ∧ (judgeImage twoEntries).map List.length = some 2 ∧
    after (fun t => ((t.chans[(0 : ChannelId)]).state, (t.chans[(0 : ChannelId)]).run, (t.chans[(1 : ChannelId)]).state, t.mu.stream))
      (exec (.flashReadComplete (some autostartImage)) (loading .flashRun)) = some (.armed, 1#8, .idle, .run) ∧
    after (fun t => (t.su.configFault, (t.ts.slotMap[0]).current, (t.ts.slotMap[1]).current, t.mu.stream))
      (exec (.flashReadComplete (some twoEntries)) (loading .flash)) = some (true, none, some 7, .standby) := by decide +kernel

/-! ## Witnesses: the clauses on the link and the drain -/

theorem witness_LinkDownKeepsWhatWasNotCommitted_covered :
    let s := fun covered pins => draining .transmitting (some (.data 0)) (frame0 0 2) covered pins
    BlocksCollected (s true 0) ∧ BlocksCollected (s true 3) ∧ BlocksCollected (s false 0) ∧
    (s true 0).ds.slot.map (fun e => (e.block, e.covered)) = [(0, true)] ∧ ((s true 0).rm.block 0).pins = 0 ∧
    ((s true 3).rm.block 0).pins ≠ 0 ∧
    after (fun t => ((t.rm.block 0).state, t.rm.freeCount)) (exec .receiveSilenceTimeout (s true 0)) = some (.free, 2048) ∧
    after (fun t => ((t.rm.block 0).state, t.rm.freeCount)) (exec .receiveSilenceTimeout (s true 3)) = some (.retired, 2047) ∧
    after (fun t => ((t.rm.block 0).state, t.rm.freeCount)) (exec .receiveSilenceTimeout (s false 0)) = some (.redrain, 2047) :=
  ⟨draining_collected .., draining_collected .., draining_collected .., by decide +kernel⟩

theorem witness_FrameStartsFollowTheOrder_ready :
    let s := draining .loaded none (frame0 0 2) false 0
    s.sl.state = .ready ∧ s.mu.stream ≠ .halt ∧ s.ds.slot = [] ++ ⟨0, 1#32, false, false, 2, 0⟩ :: [] ∧
    0 < ((s.rm.block 0).bytesUsed + 4095) / 4096 ∧ s.ds.halves[(0 : Fin 2)] = ⟨.loaded, some (frame0 0 2)⟩ ∧
    (frame0 0 2).block = 0 ∧ (frame0 0 2).frame = 0 ∧ (s.ds.halves[(1 : Fin 2)]).frame = none ∧ dataReady s = some 0 := by
  decide +kernel

/-- Two CLOSING channels with gaps: with one place one of them keeps its gap, with two none does. -/
theorem witness_FrameEndsReachTheirSource_offers :
    let ch := { closingCh with runs := [], waiting := [] }
    let s := fun n => sending (.mark gapMark true) { withChannel ch up with
      chans := put (withChannel ch up).chans 5 ch
      marks := { MarkUnit.reset with queue := List.replicate n gapMark, headInTx := true } }
    ((s 62).chans[(0 : ChannelId)]).state = .closing ∧ ((s 62).chans[(5 : ChannelId)]).gap ≠ none ∧
    after (fun t => ((t.chans[(0 : ChannelId)]).state, (t.chans[(5 : ChannelId)]).gap, t.marks.queue.length)) (exec .markFrameEnd (s 62))
      = some (.idle, none, 63) ∧
    after (fun t => ((t.chans[(0 : ChannelId)]).state, (t.chans[(5 : ChannelId)]).state, t.marks.queue.length)) (exec .markFrameEnd (s 64))
      = some (.idle, .closing, 64) := by decide +kernel

theorem witness_DataFrameEndFinishesTheBlock_before_the_last :
    let mid := draining .transmitting (some (.data 0)) (frame0 0 2) false 0
    BlocksCollected mid ∧ (frame0 0 2).frame + 1 ≠ (frame0 0 2).frameCount ∧
    after (fun t => (t.ds.slot.map (fun e => (e.block, e.seq)), (t.rm.block 0).state)) (exec .dataFrameEnd mid)
      = some ([(0, 1#32)], .sending) := ⟨draining_collected .., by decide +kernel⟩

/-- An uncovered REDRAIN block stays while the link is not READY and is selected once it is; a covered SENDING block stays in the slot. -/
theorem witness_FlowGrantsCommitsAndMakesReady_redrain :
    let s := fun st sent => oneBlock (held st 4 0) (waiting sent)
    BlocksCollected (s .redrain true) ∧ BlocksCollected (s .sending true) ∧ DrainOrdered (s .redrain true).ds ∧
    (s .redrain true).ds.redrain = [⟨0, 1#32⟩] ∧ (s .sending true).ds.slot = [⟨0, 1#32, false, false, 0, 0⟩] ∧
    after (fun t => (t.ds.redrain, t.ds.slot.map (fun e => e.block), (t.rm.block 0).state)) (exec (.flowFrame 10#32 0#32) (s .redrain false))
      = some ([⟨0, 1#32⟩], [], .redrain) ∧
    after (fun t => (t.ds.redrain, t.ds.slot.map (fun e => e.block), (t.rm.block 0).state)) (exec (.flowFrame 10#32 0#32) (s .redrain true))
      = some ([], [0], .sending) ∧
    after (fun t => (t.ds.slot.map (fun e => (e.block, e.covered)), (t.rm.block 0).state)) (exec (.flowFrame 10#32 1#32) (s .sending true))
      = some ([(0, true)], .sending) := by
  refine ⟨collected_held .redrain 4 0 (by decide) (by decide) rfl rfl up_noFilling,
    collected_held .sending 4 0 (by decide) (by decide) rfl rfl up_noFilling, ?_, by decide +kernel⟩
  refine ⟨by decide, by decide, by decide, by decide, by decide, by decide, by decide, by decide, by decide, ?_⟩
  intro e h; cases h

/-! ## Witnesses: the clauses on requests -/

/-- R20: each field code at the last value that names something and at the first that does not. -/
theorem witness_SlotMapAndChannelWritesApplyOrWait_codes :
    let r := fun (i : Nat) (v : Byte) => (⟨9#8, 1#8, [3#8, 0#8, 0#8, 0#8] ++ (ChannelConfig.default.bytes).set i v⟩ : Request)
    let status := fun i v => after (fun t => t.mu.replies.map (fun x => x.status)) (exec .tableWriteChannel (asking (r i v) up))
    Serving (r 0 8#8) (asking (r 0 8#8) up) ∧ (r 0 8#8).contents.length = 16 ∧ 8 ≤ (8#8 : Byte).toNat ∧
    ([(0, 7#8), (1, 7#8), (2, 7#8), (3, 4#8), (4, 3#8), (5, 2#8), (8, 1#8), (9, 1#8), (10, 1#8)] : List (Nat × Byte)).map
      (fun x => (status x.1 x.2, status x.1 (x.2 + 1#8))) = List.replicate 9 (some [.ok], some [.badArg]) := by
  unfold Serving; decide +kernel

/-- STANDBY with block 0 SENT on plane 0, alone in plane_mask; plane 1 is READY and plane 2 FAULTY. -/
def masked : State :=
  streaming .standby (oneBlock (held .sent 4 0) { up with
    planes := put (put up.planes 1 quiet) 2 { quiet with state := .faulty }
    ts := { up.ts with settings := { Settings.default with planeMask := 1#4 } } })

theorem masked_collected : BlocksCollected masked :=
  collected_oneBlock _ _ (by decide) (by decide) rfl (by intro p hp; right; revert p; decide) (by decide) up_noFilling

/-- Plane 1 may be added; plane 2 may not, plane 0 may not be dropped, and some plane must stay. -/
theorem witness_SettingsTakeEffectByField_mask :
    let x := fun m : BitVec 4 => ({ Settings.default with planeMask := m } : Settings)
    let r := fun m => (⟨9#8, 1#8, [4#8, 0#8, 0#8, 0#8] ++ (x m).bytes⟩ : Request)
    let status := fun m => after (fun t => t.mu.replies.map (fun y => y.status)) (exec .tableWriteSettings (asking (r m) masked))
    BlocksCollected masked ∧ Serving (r 3#4) (asking (r 3#4) masked) ∧ SettingsInRange (x 3#4) ∧ masked.mu.stream = .standby ∧
    (x 3#4).planeMask ≠ masked.ts.settings.planeMask ∧ (masked.planes[(1 : PlaneId)]).state = .ready ∧
    [3#4, 9#4, 5#4, 2#4, 0#4].map status = [some [.ok], some [.ok], some [.refused], some [.refused], some [.refused]] ∧
    after (fun t => (t.rm.freeCount, (t.rm.block 2048).state, (t.rm.block 6144).state, t.rm.level)) (exec .tableWriteSettings (asking (r 3#4) masked))
      = some (4095, .free, .offline, .open_) := by
  refine ⟨masked_collected, ?_⟩
  unfold Serving SettingsInRange; decide +kernel

/-- R160, R184: the Slot Map and Settings with pending copies, and codes and numbers that name nothing. -/
theorem witness_ChannelReadsShowTheRuntimePart_tables :
    let r := fun code k : Byte => (⟨9#8, 2#8, [code, k, 0#8, 0#8]⟩ : Request)
    let s := { up with ts := { up.ts with slotMap := put up.ts.slotMap 31 ⟨some 3, some none⟩, pendingSlotCount := some 32 } }
    let contents := fun code k => after (fun t => t.mu.replies.map (fun x => x.contents)) (exec .tableRead (asking (r code k) s))
    let status := fun code k => after (fun t => t.mu.replies.map (fun x => x.status)) (exec .tableRead (asking (r code k) s))
    Serving (r 1#8 31#8) (asking (r 1#8 31#8) s) ∧
    contents 1#8 31#8 = some [[1#8, 31#8, 1#8, 0#8, 3#8, 0#8, 0#8, 0#8, 31#8, 0#8, 0#8, 0#8]] ∧
    contents 4#8 0#8 = some [[4#8, 0#8, 1#8, 0#8, 2#8, 15#8, 0#8, 4#8, 0#8, 1#8, 64#8, 0#8, 8#8, 4#8, 2#8, 1#8,
      32#8, 15#8, 0#8, 4#8, 0#8, 1#8, 64#8, 0#8, 8#8, 4#8, 2#8, 1#8]] ∧
    [status 1#8 32#8, status 2#8 8#8, status 4#8 1#8, status 0#8 0#8, status 5#8 0#8] = List.replicate 5 (some [.badArg]) := by
  unfold Serving; decide +kernel

/-- An ACTIVE channel 0 with block 0, of `used` bytes, among all the blocks of plane 0. -/
def stopping (ch : Channel) (used : Nat) : State :=
  asking (chanAsk (byteOf 0) 2#8) (oneBlock (held .filling used 0) (withChannel { ch with filling := none } up))

/-- No record, a group of one sample. -/
def groupOnly : Channel := { activeCh with record := none, pack := none, runs := [] }

/-- A record of 1024 values at W 12 takes 1568 bytes: with 1047008 used it still fits, with one more it does not. -/
theorem witness_StopClosesTheRun_active :
    let view := fun t : State => ((t.rm.block 0).state, (t.rm.block 0).cause, (t.chans[(0 : ChannelId)]).state)
    let noGroup := { activeCh with group := none }
    (∀ used, BlocksCollected (stopping activeCh used)) ∧ ChannelSound ((stopping activeCh 52).chans[(0 : ChannelId)]) ∧
    ((stopping activeCh 52).chans[(0 : ChannelId)]).filling = some 0 ∧ ((stopping activeCh 52).chans[(0 : ChannelId)]).state = .active ∧
    (∀ x, activeCh.record = some x → 0 < x.valueCount) ∧
    after view (exec .channelStop (stopping activeCh 1568)) = some (.sealing, some .stop, .closing) ∧
    after view (exec .channelStop (stopping groupOnly 1047008)) = some (.sealing, some .stop, .closing) ∧
    after (fun t => (t.rm.block 0).cause) (exec .channelStop (stopping groupOnly 1047009)) = some (some .full) ∧
    after closedView (exec .channelStop (stopping noGroup 1568)) = some ([(.break_, true, 1)], [36, 1, 36]) ∧
    after view (exec .channelStop (stopping { groupOnly with group := none } 0)) = some (.free, none, .idle) := by
  refine ⟨fun used => collected_held .filling used 0 (by decide) (by decide) rfl rfl ?_, activeCh_sound, by decide, by decide,
    fun x h => by cases h; decide, by decide +kernel, by decide +kernel, by decide +kernel, by decide +kernel, by decide +kernel⟩
  intro c
  rw [withChannel_chans]
  split
  · rfl
  · exact up_noFilling c

/-- Requests that arrive while the reset goes on are answered BUSY behind the ABORTED of the one in progress. -/
theorem witness_StreamResetEmptiesTheCapturePath_arrivals :
    let s := { readGoing true with resetArrivals := [.locate 0#8 1#8 0#64, .pin 0#16, .describe 9#16, .unknown 7#8] }
    Serving (fourBytes 8#8 1#8) (asking (fourBytes 8#8 1#8) s) ∧ s.rp.slot = some (.read 0 0 4) ∧
    after (fun t => t.rp.responses.map (fun x => (x.kind, x.status, x.block))) (exec .resetStream (asking (fourBytes 8#8 1#8) s))
      = some [(4#8, .aborted, 0#16), (1#8, .busy, 0xFFFF#16), (2#8, .busy, 0#16), (5#8, .busy, 9#16), (7#8, .busy, 0xFFFF#16)] ∧
    after (fun t => (t.rp.hold, t.resetArrivals)) (exec .resetStream (asking (fourBytes 8#8 1#8) s)) = some (false, []) := by
  unfold Serving; decide +kernel

theorem witness_LocateFindsTheLowestMatch_pinned :
    ReviewIdle (indexed 3) ∧ locateMatches 0 1#8 10#64 ((indexed 3).rm.block 0) = true ∧ 3 ≤ ((indexed 3).rm.block 0).pins ∧
    after (fun t => t.rp.responses.map (fun x => x.status)) (Sys2Proof.core.run 2
      { indexed 3 with pending := [.locate (byteOf 0) 1#8 10#64, .locateScanStep] }) = some [.pinLimit] :=
  ⟨⟨rfl, rfl, rfl⟩, by decide +kernel, by decide +kernel, by decide +kernel⟩

end Sys2Proof.Tests
end

section
/-! PROOFS. The Acquisition Port: which commands reach it, how a burst becomes a frame, what a frame does to its registers, and R6. -/

namespace Sys2Proof.Machine

open Sys2Proof.Safety

/-! ## What leaves the Acquisition Port alone -/

section
variable {s t : State}

/-- An event common to the channels leaves AP alone when every channel's share of it does. -/
theorem eachChannel_ap {f : ChannelId → State → State} (hf : ∀ c u, (f c u).ap = u.ap) : (eachChannel f s).ap = s.ap :=
  eachChannel_induct (P := fun u => u.ap = s.ap) f s rfl (fun c u hu => (hf c u).trans hu)

@[simp] theorem onChannel_ap (f : Env → Engine → Engine) (c : ChannelId) : (onChannel f c s).ap = s.ap := rfl

@[simp] theorem eachChannel_onChannel_ap (f : Env → Engine → Engine) : (eachChannel (onChannel f) s).ap = s.ap :=
  eachChannel_ap fun c _ => onChannel_ap f c

/-- A guarded event leaves AP alone when its effect does. -/
theorem released_ap {f : State → State} (h : released s f = .next t) (hf : (f s).ap = s.ap) : t.ap = s.ap := by
  obtain ⟨-, rfl⟩ | ⟨-, rfl⟩ := released_cases h
  · exact hf
  · rfl

theorem onlyWhen_ap {b : Bool} {f : State → State} (hf : (f s).ap = s.ap) : (onlyWhen b f s).ap = s.ap := by
  obtain ⟨-, h⟩ | ⟨-, h⟩ := onlyWhen_cases b f s
  · rw [h, hf]
  · rw [h]

theorem settle_ap_of {u : State} (hu : u.ap = s.ap) : (settle u).ap = s.ap :=
  (settle_ap u).trans hu

/-- A judged request leaves the part as it was or has its meaning (R157). -/
theorem judged_cases (row : RequestRow) (r : Request) (run : State → Served) (s : State) :
    (judged row r run s).1 = s ∨ judged row r run s = run s := by
  unfold judged
  split_ifs
  · exact .inl rfl
  · exact .inl rfl
  · exact .inr rfl
  · exact .inl rfl

/-- AP after a row is AP before it or after its meaning. -/
theorem serve_ap_cases (row : RequestRow) (run : Request → State → Served) (s : State) :
    (serve row run s).ap = s.ap ∨ ∃ r, (serve row run s).ap = (run r s).1.ap := by
  obtain ⟨-, h⟩ | ⟨r, -, h⟩ := serve_cases row run s
  · exact .inl (congrArg _ h)
  · rw [h, finish_ap]
    obtain hj | hj := judged_cases row r (run r) s
    · exact .inl (congrArg _ hj)
    · exact .inr ⟨r, by rw [hj]⟩

/-- A row leaves AP alone when its meaning does. -/
theorem serve_ap {row : RequestRow} {run : Request → State → Served} (hrun : ∀ r, (run r s).1.ap = s.ap) :
    (serve row run s).ap = s.ap := by
  obtain h | ⟨r, h⟩ := serve_ap_cases row run s
  · exact h
  · exact h.trans (hrun r)

/-- A row after which DS and the arbiters act leaves AP alone when its meaning does. -/
theorem released_settle_serve_ap {row : RequestRow} {run : Request → State → Served}
    (h : released s (fun u => settle (serve row run u)) = .next t) (hrun : ∀ r, (run r s).1.ap = s.ap) : t.ap = s.ap :=
  released_ap h (settle_ap_of (serve_ap hrun))

/-- The end of an access leaves AP alone when the report of it does. -/
theorem accessEnd_ap {u : State} {ok : Bool} {x : Fault}
    (h : (if s.su.resetLow then .next s else if ok then .next (settle u) else .fault x : Answer) = .next t)
    (hu : u.ap = s.ap) : t.ap = s.ap := by
  split_ifs at h
  · exact congrArg _ (Host.Outcome.next.inj h).symm
  · exact (congrArg _ (Host.Outcome.next.inj h).symm).trans (settle_ap_of hu)

/-! ### Table writes and start-up -/

@[simp] theorem writeSlotMap_ap (no : Byte) (bs : List Byte) : (writeSlotMap no bs s).1.ap = s.ap := by
  unfold writeSlotMap; split <;> rfl

@[simp] theorem writeProfile_ap (no : Byte) (bs : List Byte) : (writeProfile no bs s).1.ap = s.ap := by
  unfold writeProfile; split <;> rfl

@[simp] theorem writeChannel_ap (no : Byte) (bs : List Byte) : (writeChannel no bs s).1.ap = s.ap := by
  unfold writeChannel; split <;> rfl

@[simp] theorem writeSettings_ap (no : Byte) (bs : List Byte) : (writeSettings no bs s).1.ap = s.ap := by
  unfold writeSettings
  split
  · split <;> rfl
  · rfl

@[simp] theorem writeTable_ap (table : Nat) (no : Byte) (bs : List Byte) : (writeTable table no bs s).1.ap = s.ap := by
  unfold writeTable; split <;> simp

@[simp] theorem applyEntry_ap (e : FlashEntry) : (applyEntry s e).ap = s.ap := by
  unfold applyEntry
  dsimp only
  split <;> exact writeTable_ap e.table e.number e.payload

theorem foldl_applyEntry_ap (es : List FlashEntry) : (es.foldl applyEntry s).ap = s.ap := by
  induction es generalizing s with
  | nil => rfl
  | cons e es ih => rw [List.foldl_cons, ih, applyEntry_ap]

@[simp] theorem endStartUp_ap (valid : Bool) : (endStartUp valid s).ap = s.ap := by
  unfold endStartUp
  rw [startRequests_ap]
  split <;> rfl

@[simp] theorem settleEnds_ap : (settleEnds s).ap = s.ap := by
  unfold settleEnds
  split
  · rfl
  · exact endStartUp_ap false

@[simp] theorem loadImage_ap (image : Option (List Byte)) : (loadImage image s).ap = s.ap := by
  unfold loadImage
  split
  · rw [endStartUp_ap, foldl_applyEntry_ap]
  · exact endStartUp_ap false

@[simp] theorem noteReport_ap : (noteReport s).ap = s.ap := by
  unfold noteReport; split <;> rfl

/-! ### Requests and the stream reset -/

theorem tableWrite_ap {write : Byte → List Byte → State → State × ReplyStatus}
    (hwrite : ∀ no bs, (write no bs s).1.ap = s.ap) (r : Request) : (tableWrite write r s).1.ap = s.ap :=
  hwrite _ _

theorem tableRead_ap (r : Request) : (tableRead r s).1.ap = s.ap := by
  unfold tableRead; split <;> rfl

theorem blockQuery_ap (r : Request) : (blockQuery r s).1.ap = s.ap := by
  unfold blockQuery; dsimp only; split <;> rfl

theorem channelCommand_ap (f : Env → Engine → Engine × ReplyStatus) (r : Request) : (channelCommand f r s).1.ap = s.ap := by
  unfold channelCommand; split <;> rfl

theorem streamCommand_ap {sources : List StreamState} {target : StreamState} {pass : State → State}
    (hpass : ∀ u, (pass u).ap = u.ap) : (streamCommand sources target pass s).1.ap = s.ap := by
  unfold streamCommand
  split
  · exact hpass _
  · rfl

@[simp] theorem abortReview_ap : (abortReview s).ap = s.ap := by
  unfold abortReview; split <;> rfl

/-- A stream reset does not reach AP (R165). -/
@[simp] theorem streamReset_ap : (streamReset s).ap = s.ap := by
  obtain ⟨_, _, -, harrivals⟩ := takeArrivals_hold (resetChannels s) rfl
  calc (streamReset s).ap = (takeArrivals (resetChannels s)).ap := rfl
    _ = (resetChannels s).ap := by rw [harrivals]
    _ = s.ap := abortReview_ap

/-! ### The link and the Review Port -/

@[simp] theorem startFrameOf_ap : (startFrameOf s).ap = s.ap := by
  unfold startFrameOf startMarkOrLower startDataOrFill
  repeat' split
  all_goals rfl

@[simp] theorem markSent_ap : (markSent s).ap = s.ap := by
  unfold markSent
  rw [eachChannel_onChannel_ap]

@[simp] theorem answerRead_ap (b : BlockId) (bs : List Byte) : (answerRead b bs s).ap = s.ap := by
  unfold answerRead; split <;> rfl

@[simp] theorem locate_ap (channel run : Byte) (index : Word64) : (locate channel run index s).ap = s.ap := by
  unfold locate
  split
  · split <;> rfl
  · rfl

@[simp] theorem scanStep_ap : (scanStep s).ap = s.ap := by
  unfold scanStep
  split
  · split_ifs <;> rfl
  · rfl

@[simp] theorem pin_ap (b : Word16) : (pin b s).ap = s.ap := by
  unfold pin; split_ifs <;> rfl

@[simp] theorem unpin_ap (b : Word16) : (unpin b s).ap = s.ap := by
  unfold unpin; split_ifs <;> rfl

@[simp] theorem checkRead_ap (b : Word16) (off len : Nat) : (checkRead b off len s).ap = s.ap := by
  unfold checkRead
  dsimp only
  split_ifs
  · rfl
  · rfl
  · rw [grants_ap, claimReview_ap]

@[simp] theorem read_ap (b : Word16) (off : Word32) (len : Word16) : (read b off len s).ap = s.ap := by
  unfold read
  split_ifs
  · rfl
  · rfl
  · exact checkRead_ap b _ _

@[simp] theorem describe_ap (b : Word16) : (describe b s).ap = s.ap := by
  unfold describe; split_ifs <;> rfl

/-! ### The commands -/

theorem execHeaderWriteComplete_ap {p : PlaneId} (h : execHeaderWriteComplete p s = .next t) : t.ap = s.ap := by
  unfold execHeaderWriteComplete at h
  split at h
  · next live _ => exact accessEnd_ap h (by cases live <;> rfl)
  · cases h; rfl

theorem execPayloadWriteComplete_ap {p : PlaneId} (h : execPayloadWriteComplete p s = .next t) : t.ap = s.ap := by
  unfold execPayloadWriteComplete at h
  split at h
  · next live _ => exact accessEnd_ap h (by cases live <;> rfl)
  · cases h; rfl

theorem execHalfLoadComplete_ap {p : PlaneId} (h : execHalfLoadComplete p s = .next t) : t.ap = s.ap := by
  unfold execHalfLoadComplete at h
  split at h
  · exact accessEnd_ap h rfl
  · cases h; rfl

theorem execReviewReadComplete_ap {p : PlaneId} (h : execReviewReadComplete p s = .next t) : t.ap = s.ap := by
  unfold execReviewReadComplete at h
  split at h
  · next live _ =>
    refine accessEnd_ap h ?_
    cases live
    · rfl
    · exact answerRead_ap _ _
  · cases h; rfl

theorem execHelloFrameEnd_ap (h : execHelloFrameEnd s = .next t) : t.ap = s.ap := by
  unfold execHelloFrameEnd at h
  split at h
  · exact released_ap h rfl
  · cases h; rfl

theorem execReplyFrameEnd_ap (h : execReplyFrameEnd s = .next t) : t.ap = s.ap := by
  unfold execReplyFrameEnd at h
  split at h
  · exact released_ap h (startRequests_ap _)
  · cases h; rfl

theorem execMarkFrameEnd_ap (h : execMarkFrameEnd s = .next t) : t.ap = s.ap := by
  unfold execMarkFrameEnd at h
  split at h
  · next live _ =>
    refine released_ap h ?_
    cases live
    · rfl
    · exact markSent_ap
  · cases h; rfl

theorem execDataFrameEnd_ap (h : execDataFrameEnd s = .next t) : t.ap = s.ap := by
  unfold execDataFrameEnd at h
  split at h
  · exact released_ap h (settle_ap _)
  · cases h; rfl

theorem execFillFrameEnd_ap (h : execFillFrameEnd s = .next t) : t.ap = s.ap := by
  unfold execFillFrameEnd at h
  split at h
  · exact released_ap h rfl
  · cases h; rfl

theorem execPlaneInitEnd_ap {p : PlaneId} {ready : Bool} (h : execPlaneInitEnd p ready s = .next t) : t.ap = s.ap := by
  refine released_ap h (onlyWhen_ap ?_)
  rw [noteReport_ap]
  cases ready <;> rfl

theorem execTrainingAttemptComplete_ap {aligned : BitVec 4} (h : execTrainingAttemptComplete aligned s = .next t) :
    t.ap = s.ap := by
  refine released_ap h (onlyWhen_ap ?_)
  split <;> rfl

theorem execStreamHalt_ap (h : execStreamHalt s = .next t) : t.ap = s.ap := by
  refine released_settle_serve_ap h fun _ => ?_
  split
  · exact streamCommand_ap fun _ => rfl
  · exact streamCommand_ap fun _ => eachChannel_onChannel_ap _

/-- The commands that can reach AP at all: a frame, a status query, a forced boundary, the RESET pin and the two device resets. -/
theorem exec_ap {c : Instr} (h : exec c s = .next t) :
    t.ap = s.ap ∨ (∃ words, c = .acquisitionFrame words) ∨ c = .statusQuery ∨ c = .forceBoundary ∨ c = .resetPinLow ∨
      ∃ straps, c = .deviceReset straps ∨ c = .resetDevice straps := by
  cases c with
  | acquisitionFrame words => exact .inr (.inl ⟨words, rfl⟩)
  | statusQuery => exact .inr (.inr (.inl rfl))
  | forceBoundary => exact .inr (.inr (.inr (.inl rfl)))
  | resetPinLow => exact .inr (.inr (.inr (.inr (.inl rfl))))
  | deviceReset straps => exact .inr (.inr (.inr (.inr (.inr ⟨straps, .inl rfl⟩))))
  | resetDevice straps => exact .inr (.inr (.inr (.inr (.inr ⟨straps, .inr rfl⟩))))
  | sealAgeTimerExpiry c => exact .inl (released_ap h (onlyWhen_ap (settle_ap _)))
  | headerWriteComplete p => exact .inl (execHeaderWriteComplete_ap h)
  | payloadWriteComplete p => exact .inl (execPayloadWriteComplete_ap h)
  | halfLoadComplete p => exact .inl (execHalfLoadComplete_ap h)
  | reviewReadComplete p => exact .inl (execReviewReadComplete_ap h)
  | refreshComplete p => exact .inl (released_ap h (onlyWhen_ap (settle_ap _)))
  | refreshTick p => exact .inl (released_ap h (onlyWhen_ap (grants_ap _)))
  | planeInitEnd p ready => exact .inl (execPlaneInitEnd_ap h)
  | planeInitTimeout p => exact .inl (released_ap h (onlyWhen_ap noteReport_ap))
  | settleTimerExpiry => exact .inl (released_ap h (onlyWhen_ap settleEnds_ap))
  | flashReadComplete image => exact .inl (released_ap h (onlyWhen_ap (loadImage_ap image)))
  | laneAlignmentLoss lane => exact .inl (released_ap h (onlyWhen_ap rfl))
  | receiveSilenceTimeout => exact .inl (released_ap h (onlyWhen_ap rfl))
  | trainingAttemptComplete aligned => exact .inl (execTrainingAttemptComplete_ap h)
  | trainingAttemptFailed => exact .inl (released_ap h (onlyWhen_ap rfl))
  | trainingAttemptTimeout => exact .inl (released_ap h (onlyWhen_ap rfl))
  | helloTimerExpiry => exact .inl (released_ap h (onlyWhen_ap rfl))
  | forwardFrameStart => exact .inl (released_ap h (onlyWhen_ap startFrameOf_ap))
  | helloFrameEnd => exact .inl (execHelloFrameEnd_ap h)
  | replyFrameEnd => exact .inl (execReplyFrameEnd_ap h)
  | markFrameEnd => exact .inl (execMarkFrameEnd_ap h)
  | dataFrameEnd => exact .inl (execDataFrameEnd_ap h)
  | fillFrameEnd => exact .inl (execFillFrameEnd_ap h)
  | flowFrame granted committed => exact .inl (released_ap h (onlyWhen_ap (settle_ap _)))
  | requestFrame tag kind contents => exact .inl (released_ap h (onlyWhen_ap (arriveRequest_ap _ _)))
  | returnFillFrame => exact .inl (released_ap h (onlyWhen_ap rfl))
  | returnFrameRejected bytes => exact .inl (released_ap h (onlyWhen_ap rfl))
  | tableWriteSlotMap => exact .inl (released_ap h (serve_ap (tableWrite_ap writeSlotMap_ap)))
  | tableWriteProfile => exact .inl (released_ap h (serve_ap (tableWrite_ap writeProfile_ap)))
  | tableWriteChannel => exact .inl (released_ap h (serve_ap (tableWrite_ap writeChannel_ap)))
  | tableWriteSettings => exact .inl (released_settle_serve_ap h (tableWrite_ap writeSettings_ap))
  | tableRead => exact .inl (released_ap h (serve_ap tableRead_ap))
  | streamRun => exact .inl (released_ap h (serve_ap fun _ => streamCommand_ap fun _ => rfl))
  | streamPause =>
    exact .inl (released_settle_serve_ap h (fun _ => streamCommand_ap fun _ => eachChannel_onChannel_ap _))
  | streamHalt => exact .inl (execStreamHalt_ap h)
  | streamResume => exact .inl (released_settle_serve_ap h (fun _ => streamCommand_ap fun _ => rfl))
  | streamStandby =>
    exact .inl (released_settle_serve_ap h (fun _ => streamCommand_ap fun _ => eachChannel_onChannel_ap _))
  | channelStart => exact .inl (released_ap h (serve_ap (channelCommand_ap _)))
  | channelStop => exact .inl (released_settle_serve_ap h (channelCommand_ap _))
  | channelFlush => exact .inl (released_settle_serve_ap h (channelCommand_ap _))
  | blockQuery => exact .inl (released_ap h (serve_ap blockQuery_ap))
  | resetStream => exact .inl (released_ap h (serve_ap fun _ => streamReset_ap))
  | unknownRequestKind => exact .inl (released_ap h (serve_ap fun _ => rfl))
  | locate channel run index => exact .inl (released_ap h (locate_ap channel run index))
  | locateScanStep => exact .inl (released_ap h scanStep_ap)
  | pin b => exact .inl (released_ap h (pin_ap b))
  | unpin b => exact .inl (released_ap h (unpin_ap b))
  | read b off len => exact .inl (released_ap h (read_ap b off len))
  | describe b => exact .inl (released_ap h (describe_ap b))
  | unknownReviewKind kind => exact .inl (released_ap h rfl)

/-! ## What a frame does to the Acquisition Port -/

@[simp] theorem reportMissed_ap (missed : Nat) (first : Word64) : (reportMissed missed first s).ap = s.ap := by
  refine eachChannel_ap fun c u => ?_
  split <;> rfl

@[simp] theorem distribute_ap (f : FrameParts) (frame : Word64) (boundary : Bool) :
    (distribute f frame boundary s).ap = s.ap := by
  refine eachChannel_ap fun c u => ?_
  dsimp only
  split <;> rfl

/-- R3: a bad frame counts as one missed frame and moves the expected tag on. -/
theorem takeBad_ap : (takeBad s).ap =
    { s.ap with frameCounter := s.ap.frameCounter + 1#64, expected := s.ap.expected.map (fun e => e + 1#16) } := by
  unfold takeBad
  dsimp only
  split
  · rw [reportMissed_ap]
  · rfl

/-- R5, R10, R12: a good frame's tag comparison, and the sweep counter of a boundary. -/
theorem takeGood_ap (f : FrameParts) : (takeGood f s).ap =
    { compareTag f s.ap with
      sweepCounter := if boundaryFrame s f then s.ap.sweepCounter + 1#32 else s.ap.sweepCounter } := by
  have hmissed (u : State) (n : Nat) (first : Word64) : (if n = 0 then u else reportMissed n first u).ap = u.ap := by
    split
    · rfl
    · exact reportMissed_ap n first
  unfold takeGood
  rw [distribute_ap]
  split
  · simp only [takeBoundary, hmissed]; rfl
  · simp only [hmissed]; rfl

theorem takeFrame_of_bad {framed : Bool} {words : List Word16} (h : goodFrame s framed words = none) :
    takeFrame framed words s = settle (takeBad s) := by
  simp only [takeFrame, h]

theorem takeFrame_of_good {framed : Bool} {words : List Word16} {f : FrameParts} (h : goodFrame s framed words = some f) :
    takeFrame framed words s = settle (takeGood f s) := by
  simp only [takeFrame, h]

/-- A good frame sets TAG_RESYNC exactly when its tag resynchronises, and leaves it set if it was (R5, R6). -/
theorem takeFrame_tagResync_of_good {framed : Bool} {words : List Word16} {f : FrameParts}
    (h : goodFrame s framed words = some f) :
    (takeFrame framed words s).ap.tagResync = (s.ap.tagResync || resynchronises s.ap f.tag) := by
  rw [takeFrame_of_good h, settle_ap, takeGood_ap]; rfl

theorem takeFrame_tagResync_of_bad {framed : Bool} {words : List Word16} (h : goodFrame s framed words = none) :
    (takeFrame framed words s).ap.tagResync = s.ap.tagResync := by
  rw [takeFrame_of_bad h, settle_ap, takeBad_ap]

/-- No frame clears TAG_RESYNC (R6). -/
theorem takeFrame_keeps_tagResync (framed : Bool) (words : List Word16) (h : s.ap.tagResync = true) :
    (takeFrame framed words s).ap.tagResync = true := by
  cases hf : goodFrame s framed words with
  | none => rw [takeFrame_tagResync_of_bad hf, h]
  | some f => rw [takeFrame_tagResync_of_good hf, h, Bool.true_or]

theorem setOpen_tagResync (o : Option OpenFrame) (u : State) : (setOpen o u).ap.tagResync = u.ap.tagResync := rfl

theorem startFrame_keeps_tagResync (h : s.ap.tagResync = true) : (startFrame s).ap.tagResync = true := by
  unfold startFrame
  split
  · rw [setOpen_tagResync]
    exact takeFrame_keeps_tagResync _ _ h
  · exact h

theorem addWord_keeps_tagResync (w : PortWord) (h : s.ap.tagResync = true) : (addWord w s).ap.tagResync = true := by
  unfold addWord
  split
  · exact h
  · dsimp only
    split
    · exact takeFrame_keeps_tagResync (s := setOpen none s) _ _ h
    · exact h

theorem portWord_keeps_tagResync (w : PortWord) (h : s.ap.tagResync = true) : (portWord s w).ap.tagResync = true := by
  unfold portWord
  split
  · exact addWord_keeps_tagResync w (startFrame_keeps_tagResync h)
  · exact addWord_keeps_tagResync w h

theorem foldl_portWord_keeps_tagResync (words : List PortWord) (h : s.ap.tagResync = true) :
    (words.foldl portWord s).ap.tagResync = true := by
  induction words generalizing s with
  | nil => exact h
  | cons w words ih => exact ih (portWord_keeps_tagResync w h)

/-- A burst of words at the port never clears TAG_RESYNC (R6). -/
theorem execAcquisitionFrame_keeps_tagResync {words : List PortWord} (h : execAcquisitionFrame words s = .next t)
    (hs : s.ap.tagResync = true) : t.ap.tagResync = true := by
  obtain ⟨-, rfl⟩ | ⟨-, rfl⟩ := released_cases h
  · exact foldl_portWord_keeps_tagResync words hs
  · exact hs

end

/-! ## From words to a frame (R1, R2) -/

/-- A frame start with no frame open opens one with its first word. -/
theorem portWord_start {s : State} (w : Word16) (h : s.ap.openFrame = none) :
    portWord s ⟨w, true, false⟩ = setOpen (some ⟨[w], false⟩) s := by
  simp [portWord, startFrame, h, addWord, OpenFrame.add, setOpen]

/-- An unmarked word joins the open frame while that has fewer than 35. -/
theorem portWord_middle (s : State) {ws : List Word16} (w : Word16) (h : ws.length < 35) :
    portWord (setOpen (some ⟨ws, false⟩) s) ⟨w, false, false⟩ = setOpen (some ⟨ws ++ [w], false⟩) s := by
  simp [portWord, addWord, OpenFrame.add, setOpen, h]

/-- A frame end within 35 words has the frame taken whole. -/
theorem portWord_end (s : State) {ws : List Word16} (w : Word16) (h : ws.length < 35) :
    portWord (setOpen (some ⟨ws, false⟩) s) ⟨w, false, true⟩ = takeFrame true (ws ++ [w]) (setOpen none s) := by
  simp [portWord, addWord, OpenFrame.add, setOpen, h]

theorem foldl_portWord_middle (s : State) (vs : List Word16) {ws : List Word16} (h : ws.length + vs.length ≤ 35) :
    (vs.map (fun v => PortWord.mk v false false)).foldl portWord (setOpen (some ⟨ws, false⟩) s)
      = setOpen (some ⟨ws ++ vs, false⟩) s := by
  induction vs generalizing ws with
  | nil => simp
  | cons v vs ih =>
    rw [List.length_cons] at h
    rw [List.map_cons, List.foldl_cons, portWord_middle s v (by omega), ih (by simp; omega), List.append_assoc,
      List.singleton_append]

/-- A burst of 32 samples or fewer on a port with no frame open is taken as one frame of its words. -/
theorem foldl_portWord_frameBurst {s : State} (tag flags check : Word16) {xs : List Word16} (hopen : s.ap.openFrame = none)
    (hlen : xs.length ≤ 32) :
    (frameBurst tag flags xs check).foldl portWord s = takeFrame true (tag :: flags :: (xs ++ [check])) s := by
  have hs : setOpen none s = s := by unfold setOpen; rw [← hopen]
  rw [frameBurst, List.foldl_cons, List.foldl_cons, List.foldl_append, portWord_start tag hopen,
    portWord_middle s flags (by simp), foldl_portWord_middle s xs (by simp; omega), List.foldl_cons, List.foldl_nil,
    portWord_end s check (by simp; omega), hs]
  rfl

theorem frameParts_eq (tag flags check : Word16) (xs : List Word16) :
    frameParts (tag :: flags :: (xs ++ [check])) = some ⟨tag, flags, xs, check⟩ := by
  cases xs with
  | nil => rfl
  | cons x xs =>
    have hlast : (x :: (xs ++ [check])).dropLast = x :: xs := List.dropLast_concat (l₁ := x :: xs)
    simp [frameParts, hlast]

/-- A whole frame with slot_count samples and its right check is good (R2). -/
theorem goodFrame_of_check {s : State} (tag flags : Word16) {xs : List Word16}
    (hcount : xs.length = s.ts.settings.slotCount) :
    goodFrame s true (tag :: flags :: (xs ++ [frameCheck tag flags xs])) = some ⟨tag, flags, xs, frameCheck tag flags xs⟩ := by
  simp [goodFrame, frameParts_eq, FrameParts.sum, frameCheck, countAcceptable, hcount]

theorem resynchronises_iff {ap : AcquisitionPort} {e tag : Word16} (he : ap.expected = some e) :
    resynchronises ap tag = true ↔ 4096 ≤ (tag - e).toNat := by
  simp [resynchronises, he]

/-! ## Requests answered (R155, R156, R157) -/

/-- A test for a start places replies behind those there, keeps REQUEST_OVERFLOW clear and leaves the reply in transmission. -/
theorem startFrom_mu (q : List Request) (s : State) :
    (∃ more, (startFrom q s).mu.replies = s.mu.replies ++ more) ∧
      (s.mu.overflow = false → (startFrom q s).mu.overflow = false) ∧ (startFrom q s).mu.replyInTx = s.mu.replyInTx := by
  induction q generalizing s with
  | nil => exact ⟨⟨[], by simp [startFrom]⟩, id, rfl⟩
  | cons r rest ih =>
    have placed (st : ReplyStatus) :
        (∃ more, (startFrom rest (placeReply r st [] s)).mu.replies = s.mu.replies ++ more) ∧
          (s.mu.overflow = false → (startFrom rest (placeReply r st [] s)).mu.overflow = false) ∧
          (startFrom rest (placeReply r st [] s)).mu.replyInTx = s.mu.replyInTx := by
      obtain ⟨⟨more, hreplies⟩, hoverflow, htx⟩ := ih (placeReply r st [] s)
      exact ⟨⟨_ :: more, hreplies.trans (List.append_assoc ..)⟩, fun _ => hoverflow rfl, htx⟩
    unfold startFrom
    split_ifs
    · exact placed .busy
    · exact placed .badArg
    · exact ⟨⟨[], by simp⟩, id, rfl⟩
    · exact ⟨⟨[], by simp⟩, id, rfl⟩

/-- A request that ends has its reply placed behind those of the part that served it, and REQUEST_OVERFLOW cleared. -/
theorem finish_answered (r : Request) (x : Served) : Answered r x.2.1 x.2.2 x.1 (finish r x) := by
  obtain ⟨⟨more, hreplies⟩, hoverflow, htx⟩ := startFrom_mu x.1.mu.queue
    { (placeReply r x.2.1 x.2.2 x.1) with mu := { (placeReply r x.2.1 x.2.2 x.1).mu with inProgress := none } }
  exact ⟨⟨more, hreplies.trans (List.append_assoc ..)⟩, hoverflow rfl, htx⟩

/-- A request MU is executing, of the row's form, comes to its meaning and its reply. -/
theorem serve_of_serving {row : RequestRow} {r : Request} {run : Request → State → Served} {s : State} (h : Serving r s)
    (hrow : r.row = some row) (hknown : row ≠ .unknownRequestKind) (hfits : lengthFits row r = true) :
    serve row run s = finish r (run r s) := by
  obtain ⟨-, hstream, hprogress⟩ := h
  simp [serve, inProgressOf, hprogress, hrow, judged, hstream, hknown, hfits]

theorem execStatusQuery_of_serving {s : State} {tag : Byte} (h : Serving ⟨tag, 6#8, []⟩ s) :
    exec .statusQuery s = .next (finish ⟨tag, 6#8, []⟩ (statusQuery ⟨tag, 6#8, []⟩ s)) :=
  (released_eq _ h.1).trans (congrArg _ (serve_of_serving h rfl nofun rfl))

/-- The byte behind `pre`. -/
theorem byteAt_append {pre : List Byte} {n : Nat} (b : Byte) (post : List Byte) (h : pre.length = n) :
    byteAt (pre ++ b :: post) n = b := by
  simp [byteAt, ← h]

/-- The status record's byte of flags (R184). -/
theorem byteAt_statusRecord_60 (s : State) :
    byteAt (statusRecord s) 60 = byteOf ((if s.ap.tagResync then 1 else 0) + (if s.su.configFault then 2 else 0)) := by
  unfold statusRecord
  exact byteAt_append _ _ (by simp [count16, word32, word64])

/-! ## TAG_RESYNC (R6) -/

/-- A status query leaves TAG_RESYNC or clears it. -/
theorem execStatusQuery_tagResync {s t : State} (h : execStatusQuery s = .next t) (hs : s.ap.tagResync = false) :
    t.ap.tagResync = false := by
  obtain ⟨-, rfl⟩ | ⟨-, rfl⟩ := released_cases h
  · obtain hap | ⟨r, hap⟩ := serve_ap_cases .statusQuery statusQuery s
    · rw [hap, hs]
    · rw [hap]; rfl
  · exact hs

theorem execForceBoundary_tagResync {s t : State} (h : execForceBoundary s = .next t) : t.ap.tagResync = s.ap.tagResync := by
  obtain ⟨-, rfl⟩ | ⟨-, rfl⟩ := released_cases h
  · obtain hap | ⟨r, hap⟩ := serve_ap_cases .forceBoundary forceBoundary s
    · rw [hap]
    · rw [hap]; rfl
  · rfl

theorem execResetPinLow_tagResync {s t : State} (h : execResetPinLow s = .next t) : t.ap.tagResync = s.ap.tagResync := by
  cases h; rfl

theorem deviceReset_ap (straps : BitVec 2) (s : State) : (deviceReset straps s).ap = AcquisitionPort.reset := rfl

/-- A RESET request with scope DEVICE leaves TAG_RESYNC or clears it. -/
theorem execResetDevice_tagResync {s t : State} {straps : BitVec 2} (h : execResetDevice straps s = .next t)
    (hs : s.ap.tagResync = false) : t.ap.tagResync = false := by
  obtain ⟨-, rfl⟩ | ⟨-, rfl⟩ := released_cases h
  · unfold serveDeviceReset
    split
    · exact hs
    · split_ifs
      · rw [finish_ap, hs]
      · rfl
      · rw [finish_ap, hs]
  · exact hs

/-- Only a status query and a device reset clear TAG_RESYNC. -/
theorem exec_tagResync_cleared {c : Instr} {s t : State} (h : exec c s = .next t) (hs : s.ap.tagResync = true)
    (ht : t.ap.tagResync = false) : c = .statusQuery ∨ ∃ straps, c = .deviceReset straps ∨ c = .resetDevice straps := by
  have changed : t.ap.tagResync ≠ s.ap.tagResync := by rw [hs, ht]; decide
  obtain hap | ⟨words, rfl⟩ | hquery | rfl | rfl | hreset := exec_ap h
  · exact absurd (congrArg _ hap) changed
  · exact absurd ((execAcquisitionFrame_keeps_tagResync h hs).trans hs.symm) changed
  · exact .inl hquery
  · exact absurd (execForceBoundary_tagResync h) changed
  · exact absurd (execResetPinLow_tagResync h) changed
  · exact .inr hreset

/-- Only an acquisition frame sets TAG_RESYNC. -/
theorem exec_tagResync_set {c : Instr} {s t : State} (h : exec c s = .next t) (hs : s.ap.tagResync = false)
    (ht : t.ap.tagResync = true) : ∃ words, c = .acquisitionFrame words := by
  have changed : t.ap.tagResync ≠ s.ap.tagResync := by rw [hs, ht]; decide
  obtain hap | hframe | rfl | rfl | rfl | ⟨straps, rfl | rfl⟩ := exec_ap h
  · exact absurd (congrArg _ hap) changed
  · exact hframe
  · exact absurd ((execStatusQuery_tagResync h hs).trans hs.symm) changed
  · exact absurd (execForceBoundary_tagResync h) changed
  · exact absurd (execResetPinLow_tagResync h) changed
  · cases h; cases ht
  · exact absurd ((execResetDevice_tagResync h hs).trans hs.symm) changed

/-- A status query reports TAG_RESYNC as it stood and clears it. -/
theorem statusQuery_reads_tagResync {s : State} {tag : Byte} (h : Serving ⟨tag, 6#8, []⟩ s) :
    ∃ t bs, exec .statusQuery s = .next t ∧ Answered ⟨tag, 6#8, []⟩ .ok bs s t ∧
      (byteAt bs 60).getLsbD 0 = s.ap.tagResync ∧ t.ap.tagResync = false := by
  refine ⟨_, statusRecord s, execStatusQuery_of_serving h, finish_answered _ (statusQuery ⟨tag, 6#8, []⟩ s), ?_, ?_⟩
  · rw [byteAt_statusRecord_60]
    cases s.ap.tagResync <;> cases s.su.configFault <;> rfl
  · rw [finish_ap]; rfl

/-- A good frame whose tag is 4096 or more ahead of the expected one sets TAG_RESYNC. -/
theorem resynchronisingFrame_sets_tagResync {s : State} {tag flags e : Word16} {xs : List Word16}
    (hpin : s.su.resetLow = false) (hopen : s.ap.openFrame = none) (he : s.ap.expected = some e)
    (hcount : xs.length = s.ts.settings.slotCount) (hlen : xs.length ≤ 32) (hahead : 4096 ≤ (tag - e).toNat) :
    ∃ t, exec (.acquisitionFrame (frameBurst tag flags xs (frameCheck tag flags xs))) s = .next t ∧
      t.ap.tagResync = true := by
  refine ⟨(frameBurst tag flags xs (frameCheck tag flags xs)).foldl portWord s,
    released_eq (fun u => (frameBurst tag flags xs (frameCheck tag flags xs)).foldl portWord u) hpin, ?_⟩
  rw [foldl_portWord_frameBurst tag flags _ hopen hlen, takeFrame_tagResync_of_good (goodFrame_of_check tag flags hcount),
    (resynchronises_iff he).2 hahead, Bool.or_true]

/-- Settles O11: each of its six clauses is a lemma above. -/
theorem tagResyncStaysUntilRead : Obligations.TagResyncStaysUntilRead := by
  unfold Obligations.TagResyncStaysUntilRead
  refine ⟨fun _ _ _ => exec_tagResync_cleared, fun _ _ _ => exec_tagResync_set, fun _ _ => statusQuery_reads_tagResync,
    fun _ _ _ _ _ => resynchronisingFrame_sets_tagResync,
    fun s straps => ⟨_, rfl, congrArg (·.tagResync) (deviceReset_ap straps s)⟩, fun s t h => ?_⟩
  have hap : t.ap = s.ap := released_ap h (serve_ap fun _ => streamReset_ap)
  rw [hap]

end Sys2Proof.Machine
end

section
/-! PROOFS. From samples to stored values: stage 2 and stage 3, and what stage 1 makes of a group of one sample (R47, R50). -/

namespace Sys2Proof.Machine

open Sys2Proof.Safety

/-! ## A group of one sample (R47) -/

theorem stage1_pick_single (x : Int) (index frame : Word64) : stage1 .pick (groupOf x [] index frame) = [x] := rfl

/-- The mean of one sample is the sample: its double with the half added is odd. -/
theorem stage1_mean_single (x : Int) (index frame : Word64) : stage1 .mean (groupOf x [] index frame) = [x] := by
  have hmean : (2 * x + 1) / 2 = x := by omega
  exact congrArg (fun v => [v]) hmean

theorem stage1_peak_single (x : Int) (index frame : Word64) : stage1 .peak (groupOf x [] index frame) = [x, x] := rfl

/-! ## Requantization (R50) -/

/-- W 16 keeps the value. -/
@[simp] theorem requantize_w16 (d : Int) : requantize .w16 d = d := rfl

/-- W 12 and W 8 give the floor of the value plus half a step, in steps of 2^(16 − W). -/
theorem requantize_eq_floor {w : Width} (hw : w ≠ .w16) (d : Int) :
    requantize w d = (d + 2 ^ (16 - w.bits - 1)) / 2 ^ (16 - w.bits) := by
  cases w with
  | w16 => exact absurd rfl hw
  | w12 => rfl
  | w8 => rfl

/-- The value at W 12 is the floor: the step it stands for holds the value with its half added. -/
theorem requantize_w12_floor (d : Int) : 16 * requantize .w12 d ≤ d + 8 ∧ d + 8 < 16 * (requantize .w12 d + 1) := by
  rw [requantize]; omega

theorem requantize_w8_floor (d : Int) : 256 * requantize .w8 d ≤ d + 128 ∧ d + 128 < 256 * (requantize .w8 d + 1) := by
  rw [requantize]; omega

/-- An exact half goes up (R50). -/
theorem requantize_w12_half (q : Int) : requantize .w12 (16 * q + 8) = q + 1 := by
  rw [requantize]; omega

theorem requantize_w8_half (q : Int) : requantize .w8 (256 * q + 128) = q + 1 := by
  rw [requantize]; omega

/-- A sample less an offset. -/
theorem sub_range_of_samples {v offset : Int} (hv : SampleRange v) (ho : SampleRange offset) :
    -65535 ≤ v - offset ∧ v - offset ≤ 65535 := by
  unfold SampleRange at hv ho; omega

theorem groupValues_value (p : Profile) (g : Group) : (groupValues p g).map (fun x => x.value) =
    (stage1 p.mode g).map (fun v => (clampTo p.width (requantize p.width (v - p.offset))).value) :=
  List.map_map

/-- Settles O19: the ranges follow from the floor property of each width. -/
theorem requantizeRoundsHalfUp : Obligations.RequantizeRoundsHalfUp := by
  unfold Obligations.RequantizeRoundsHalfUp
  refine ⟨fun v offset hv ho => ?_, fun q => ⟨requantize_w12_half q, requantize_w8_half q⟩, rfl, rfl,
    fun w => requantize_eq_floor, groupValues_value⟩
  obtain ⟨hlo, hhi⟩ := sub_range_of_samples hv ho
  have h12 := requantize_w12_floor (v - offset)
  have h8 := requantize_w8_floor (v - offset)
  exact ⟨hlo, hhi, requantize_w16 _, h12, by omega, h8, by omega⟩

end Sys2Proof.Machine
end

section
/-! PROOFS. What MU's serving of a request leaves unchanged, and the reply it comes to (R155, R156, R157). -/

namespace Sys2Proof.Safety

open Sys2Proof.Machine

/-! ## Frames -/

theorem changesOnly_trans {ps : List Part} {s t u : State} (hst : ChangesOnly ps s t) (htu : ChangesOnly ps t u) :
    ChangesOnly ps s u := by
  intro p hp
  have hs := hst p hp
  have ht := htu p hp
  cases p <;> exact ht.trans hs

theorem changesOnly_mono {ps qs : List Part} {s t : State} (hsub : ps ⊆ qs) (h : ChangesOnly ps s t) : ChangesOnly qs s t :=
  fun p hp => h p fun hmem => hp (hsub hmem)

/-- Replacing TS reaches nothing else. -/
theorem changesOnly_ts (s : State) (ts : TableStore) : ChangesOnly [.ts] s { s with ts := ts } := by
  intro p hp
  cases p with
  | ts => exact absurd (List.mem_singleton_self _) hp
  | _ => rfl

/-- Replacing MU reaches nothing else. -/
theorem changesOnly_mu (s : State) (mu : Management) : ChangesOnly [.mu] s { s with mu := mu } := by
  intro p hp
  cases p with
  | mu => exact absurd (List.mem_singleton_self _) hp
  | _ => rfl

end Sys2Proof.Safety

namespace Sys2Proof.Machine

open Sys2Proof.Safety

/-! ## Serving -/

/-- A test for a start does not touch the stream state. -/
@[simp] theorem startFrom_stream (q : List Request) (s : State) : (startFrom q s).mu.stream = s.mu.stream := by
  induction q generalizing s with
  | nil => rfl
  | cons r rest ih =>
    unfold startFrom
    split_ifs
    · exact ih (placeReply r .busy [] s)
    · exact ih (placeReply r .badArg [] s)
    · rfl
    · rfl

@[simp] theorem finish_stream (r : Request) (x : Served) : (finish r x).mu.stream = x.1.mu.stream :=
  startFrom_stream _ _

theorem finish_changesOnly (r : Request) (x : Served) : ChangesOnly [.mu] x.1 (finish r x) := by
  rw [finish_eq]; exact changesOnly_mu _ _

/-- A request in progress, released from the pin's guard, comes to its meaning and its reply. -/
theorem released_serve_of_serving {row : RequestRow} {r : Request} {run : Request → State → Served} {s : State}
    (h : Serving r s) (hrow : r.row = some row) (hknown : row ≠ .unknownRequestKind) (hfits : lengthFits row r = true) :
    released s (serve row run) = .next (finish r (run r s)) :=
  (released_eq _ h.1).trans (congrArg _ (serve_of_serving h hrow hknown hfits))

/-- A meaning that leaves MU alone keeps the stream state and is answered behind the replies placed before it. -/
theorem finish_of_mu_eq {r : Request} {x : Served} {s : State} (hmu : x.1.mu = s.mu) :
    (finish r x).mu.stream = s.mu.stream ∧ Answered r x.2.1 x.2.2 s (finish r x) := by
  refine ⟨(finish_stream r x).trans (congrArg _ hmu), ?_⟩
  have h := finish_answered r x
  unfold Answered at h ⊢
  rwa [hmu] at h

end Sys2Proof.Machine
end

section
/-! PROOFS. The Profile Table: what the bytes of an entry stand for, a write (R43, R44), a read (R160), and the resets (R45). -/

namespace Sys2Proof.Machine

open Sys2Proof.Safety

/-! ## Codes (R181) -/

theorem finOfByte_of_lt {n : Nat} {b : Byte} (h : b.toNat < n) : finOfByte n b = some ⟨b.toNat, h⟩ := dif_pos h

theorem finOfByte_of_le {n : Nat} {b : Byte} (h : n ≤ b.toNat) : finOfByte n b = none := dif_neg (by omega)

/-- The byte of a number below `n` names it. -/
theorem finOfByte_byteOf {n : Nat} (hn : n ≤ 256) (k : Fin n) : finOfByte n (byteOf k.val) = some k := by
  have hk : (byteOf k.val).toNat = k.val := Nat.mod_eq_of_lt (by omega)
  rw [finOfByte_of_lt (hk.trans_lt k.isLt)]
  exact congrArg some (Fin.ext hk)

/-- A mode is decoded from its own code alone. -/
theorem decodeMode_eq_some {b : Byte} {mode : Mode} : decodeMode b = some mode ↔ b = BitVec.ofNat 8 mode.code := by
  rw [BitVec.toNat_inj.symm]
  unfold decodeMode
  split <;> cases mode <;> simp_all [Mode.code]

theorem decodeMode_eq_none {b : Byte} : decodeMode b = none ↔ 4 ≤ b.toNat := by
  unfold decodeMode
  split <;> simp_all
  omega

theorem decodeWidth_eq_some {b : Byte} {width : Width} : decodeWidth b = some width ↔ b.toNat = width.bits := by
  unfold decodeWidth
  split <;> cases width <;> simp_all [Width.bits]

theorem decodeWidth_eq_none {b : Byte} : decodeWidth b = none ↔ b ≠ 8#8 ∧ b ≠ 12#8 ∧ b ≠ 16#8 := by
  unfold decodeWidth
  split <;> simp_all [BitVec.toNat_inj.symm]

/-! ## An entry's bytes (R43, R185) -/

section
variable {f0 f1 r0 r1 o0 o1 m w : Byte} {mode : Mode} {width : Width}

/-- An entry whose codes name a mode and a width. -/
theorem decodeProfile_of_codes (hm : decodeMode m = some mode) (hw : decodeWidth w = some width) :
    decodeProfile [f0, f1, r0, r1, o0, o1, m, w] =
      if mode = .pass ∧ f0.toNat + 256 * f1.toNat + 1 ≠ 1 then none
      else some { factor := f0.toNat + 256 * f1.toNat + 1, mode := mode, width := width,
                  offset := (BitVec.ofNat 16 (o0.toNat + 256 * o1.toNat)).toInt,
                  recordLen := clampRecordLen mode (r0.toNat + 256 * r1.toNat + 1) } := by
  have hm' : decodeMode (byteAt [f0, f1, r0, r1, o0, o1, m, w] 6) = some mode := hm
  have hw' : decodeWidth (byteAt [f0, f1, r0, r1, o0, o1, m, w] 7) = some width := hw
  rw [decodeProfile, hm', hw']
  rfl

/-- An unnamed mode or width, and PASS with a factor other than 1, are no entry (R43). -/
theorem decodeProfile_eq_none
    (h : 4 ≤ m.toNat ∨ (w ≠ 8#8 ∧ w ≠ 12#8 ∧ w ≠ 16#8) ∨ (m = 0#8 ∧ f0.toNat + 256 * f1.toNat + 1 ≠ 1)) :
    decodeProfile [f0, f1, r0, r1, o0, o1, m, w] = none := by
  cases hm : decodeMode m with
  | none => simp [decodeProfile, byteAt, hm]
  | some mode =>
    cases hw : decodeWidth w with
    | none => simp [decodeProfile, byteAt, hw]
    | some width =>
      obtain hmode | hwidth | ⟨hpass, hfactor⟩ := h
      · simp [decodeMode_eq_none.2 hmode] at hm
      · simp [decodeWidth_eq_none.2 hwidth] at hw
      · have hmode : mode = .pass := by subst hpass; cases hm; rfl
        rw [decodeProfile_of_codes hm hw, if_pos ⟨hmode, hfactor⟩]

/-- The clamp of R43, told from the mode's code. -/
theorem clampRecordLen_of_code (hm : decodeMode m = some mode) (n : Nat) :
    clampRecordLen mode n =
      let raised := if n < 16 then 16 else n
      if m = 3#8 ∧ raised % 2 = 1 then raised + 1 else raised := by
  have hpeak : m = 3#8 ↔ mode = .peak := by
    rw [decodeMode_eq_some.1 hm]; cases mode <;> simp [Mode.code]
  simp only [hpeak, clampRecordLen]

theorem clampRecordLen_one (mode : Mode) : clampRecordLen mode 1 = 16 := by cases mode <;> rfl

/-- Every other entry is taken whole, its record_len clamped (R43). -/
theorem decodeProfile_eq_some (hm : m.toNat < 4) (hw : w = 8#8 ∨ w = 12#8 ∨ w = 16#8)
    (hpass : m = 0#8 → f0.toNat + 256 * f1.toNat + 1 = 1) :
    ∃ p, decodeProfile [f0, f1, r0, r1, o0, o1, m, w] = some p ∧ p.factor = f0.toNat + 256 * f1.toNat + 1 ∧
      decodeMode m = some p.mode ∧ decodeWidth w = some p.width ∧
      p.offset = (BitVec.ofNat 16 (o0.toNat + 256 * o1.toNat)).toInt ∧
      p.recordLen = clampRecordLen p.mode (r0.toNat + 256 * r1.toNat + 1) := by
  obtain ⟨mode, hmode⟩ := Option.ne_none_iff_exists'.1 (mt decodeMode_eq_none.1 (not_le.2 hm))
  obtain ⟨width, hwidth⟩ := Option.ne_none_iff_exists'.1 (mt decodeWidth_eq_none.1 (by tauto))
  have hfactor : ¬ (mode = .pass ∧ f0.toNat + 256 * f1.toNat + 1 ≠ 1) := by
    rintro ⟨rfl, hne⟩
    exact hne (hpass (decodeMode_eq_some.1 hmode))
  rw [decodeProfile_of_codes hmode hwidth, if_neg hfactor]
  exact ⟨_, rfl, rfl, hmode, hwidth, rfl, rfl⟩

end

/-! ## A write (R43, R44) -/

theorem writeProfile_of_bad {no : Byte} {bs : List Byte} (s : State) (h : 8 ≤ no.toNat ∨ decodeProfile bs = none) :
    writeProfile no bs s = (s, .badArg) := by
  obtain hno | hbs := h
  · simp [writeProfile, entryNumber, finOfByte_of_le hno]
  · simp [writeProfile, hbs]

theorem writeProfile_of_good {no : Byte} {bs : List Byte} {p : Profile} (s : State) (hno : no.toNat < 8)
    (hp : decodeProfile bs = some p) :
    writeProfile no bs s =
      ({ s with ts := { s.ts with
          profiles := put s.ts.profiles ⟨no.toNat, hno⟩
            ((s.ts.profiles[(⟨no.toNat, hno⟩ : Fin 8)]).write (!profileReferenced s ⟨no.toNat, hno⟩) p) } }, .ok) := by
  simp [writeProfile, entryNumber, finOfByte_of_lt hno, hp]

/-- A write reaches TS alone. -/
theorem writeProfile_eq (no : Byte) (bs : List Byte) (s : State) :
    (writeProfile no bs s).1 = { s with ts := (writeProfile no bs s).1.ts } := by
  unfold writeProfile; split <;> rfl

/-- A staged write becomes the pending copy; an immediate one the entry (R158). -/
theorem Entry.write_not {α : Type} (e : Entry α) (staged : Bool) (x : α) :
    e.write (!staged) x = if staged then { e with pending := some x } else ⟨x, none⟩ := by
  cases staged <;> rfl

/-- A TABLE_WRITE served through a meaning that reaches TS alone: its reply, and what it leaves. -/
theorem finish_tableWrite {write : Byte → List Byte → State → State × ReplyStatus} {r : Request} {s : State}
    {x : State × ReplyStatus} (hx : write (byteAt r.contents 1) (r.contents.drop 4) s = x)
    (hreach : x.1 = { s with ts := x.1.ts }) :
    (finish r (tableWrite write r s)).mu.stream = s.mu.stream ∧ ChangesOnly [.ts, .mu] s (finish r (tableWrite write r s)) ∧
      Answered r x.2 [] s (finish r (tableWrite write r s)) ∧ (finish r (tableWrite write r s)).ts = x.1.ts := by
  subst hx
  have hmu : (tableWrite write r s).1.mu = s.mu := by rw [tableWrite, hreach]
  obtain ⟨hstream, hanswer⟩ := finish_of_mu_eq (r := r) hmu
  have hmeaning : ChangesOnly [.ts] s (tableWrite write r s).1 := by
    rw [tableWrite, hreach]; exact changesOnly_ts _ _
  exact ⟨hstream, changesOnly_trans (changesOnly_mono (by simp) hmeaning)
    (changesOnly_mono (by simp) (finish_changesOnly r _)), hanswer, finish_ts r _⟩

/-- Settles O44: the reply and the table follow from what the entry's bytes decode to. -/
theorem profileWritesAreCheckedAndClamped : Obligations.ProfileWritesAreCheckedAndClamped := by
  unfold Obligations.ProfileWritesAreCheckedAndClamped
  refine ⟨?_, fun x index frame => ⟨stage1_pick_single x index frame, stage1_mean_single x index frame,
    stage1_peak_single x index frame⟩, rfl, rfl, rfl, clampRecordLen_one⟩
  intro s tag k z1 z2 f0 f1 r0 r1 o0 o1 m w r factor asked raised kept hserving
  obtain ⟨hstream, hframe, -, -⟩ := finish_tableWrite (r := r) rfl (writeProfile_eq _ _ s)
  refine ⟨_, released_serve_of_serving hserving rfl nofun rfl, hstream, hframe, fun hbad => ?_, fun hk hm hw hpass => ?_⟩
  · obtain ⟨-, -, hanswer, hts⟩ :=
      finish_tableWrite (r := r) (writeProfile_of_bad s (hbad.imp_right decodeProfile_eq_none)) rfl
    exact ⟨hanswer, hts⟩
  · obtain ⟨p, hp, hfactor, hmode, hwidth, hoffset, hlen⟩ := decodeProfile_eq_some hm hw hpass
    obtain ⟨-, -, hanswer, hts⟩ := finish_tableWrite (r := r) (writeProfile_of_good s hk hp) rfl
    refine ⟨hanswer, fun j hj => ?_, by rw [hts], p, hfactor, hlen.trans (clampRecordLen_of_code hmode asked), hoffset,
      (decodeMode_eq_some.1 hmode).symm, (decodeWidth_eq_some.1 hwidth).symm, ?_⟩
    · rw [hts]; exact get_put_ne _ _ hj.symm
    · rw [hts, ← Entry.write_not]; exact get_put_self _ _ _

/-! ## A read (R45, R160) -/

/-- What a read of the Profile Table answers. -/
theorem readTable_profile (k : Fin 8) (s : State) : readTable 2#8 (byteOf k.val) s =
    some ((s.ts.profiles[k]).readContents Profile.bytes 2#8 (byteOf k.val)) := by
  simp [readTable, entryNumber, finOfByte_byteOf (by decide : 8 ≤ 256)]

/-- A TABLE_READ whose entry exists: it is answered with the entry, and MU alone changes. -/
theorem finish_tableRead {r : Request} {s : State} {bs : List Byte}
    (h : readTable (byteAt r.contents 0) (byteAt r.contents 1) s = some bs) :
    (finish r (tableRead r s)).mu.stream = s.mu.stream ∧ ChangesOnly [.mu] s (finish r (tableRead r s)) ∧
      Answered r .ok bs s (finish r (tableRead r s)) := by
  have hx : tableRead r s = (s, .ok, bs) := by rw [tableRead, h]
  rw [hx]
  obtain ⟨hstream, hanswer⟩ := finish_of_mu_eq (r := r) (x := (s, .ok, bs)) rfl
  exact ⟨hstream, finish_changesOnly r (s, .ok, bs), hanswer⟩

theorem execTableRead_profile {s : State} {tag z1 z2 : Byte} {k : Fin 8}
    (h : Serving ⟨tag, 2#8, [2#8, byteOf k.val, z1, z2]⟩ s) :
    ∃ t, exec .tableRead s = .next t ∧ t.mu.stream = s.mu.stream ∧ ChangesOnly [.mu] s t ∧
      Answered ⟨tag, 2#8, [2#8, byteOf k.val, z1, z2]⟩ .ok
        ((s.ts.profiles[k]).readContents Profile.bytes 2#8 (byteOf k.val)) s t :=
  ⟨_, released_serve_of_serving h rfl nofun rfl, finish_tableRead (readTable_profile k s)⟩

/-! ## The resets (R45) -/

theorem deviceReset_profiles (straps : BitVec 2) (s : State) (k : Fin 8) :
    (deviceReset straps s).ts.profiles[k] = ⟨Profile.default, none⟩ := by
  fin_cases k <;> rfl

theorem Entry.commit_pending {α : Type} (e : Entry α) : e.commit.pending = none := by
  obtain ⟨x, _ | y⟩ := e <;> rfl

theorem Entry.commit_current {α : Type} (e : Entry α) : e.commit.current = e.pending.getD e.current := by
  obtain ⟨x, _ | y⟩ := e <;> rfl

section
variable (s : State)

@[simp] theorem abortReview_ts : (abortReview s).ts = s.ts := by
  unfold abortReview; split <;> rfl

@[simp] theorem abortReview_chans : (abortReview s).chans = s.chans := by
  unfold abortReview; split <;> rfl

/-- A stream reset applies every pending copy of TS (R13, R165). -/
theorem streamReset_ts : (streamReset s).ts = s.ts.commit := by
  obtain ⟨_, _, -, harrivals⟩ := takeArrivals_hold (resetChannels s) rfl
  calc (streamReset s).ts = (takeArrivals (resetChannels s)).ts.commit := rfl
    _ = (abortReview s).ts.commit := by rw [harrivals]; rfl
    _ = s.ts.commit := by rw [abortReview_ts]

/-- A stream reset resets every channel (R42, R165). -/
theorem streamReset_chans : (streamReset s).chans = mapV Channel.streamReset s.chans := by
  obtain ⟨_, _, -, harrivals⟩ := takeArrivals_hold (resetChannels s) rfl
  calc (streamReset s).chans = (takeArrivals (resetChannels s)).chans := rfl
    _ = mapV Channel.streamReset (abortReview s).chans := by rw [harrivals]; rfl
    _ = mapV Channel.streamReset s.chans := by rw [abortReview_chans]

end

/-- Settles O47: the read gives the entry's contents, and the resets give TS its reset values or commit it. -/
theorem profileReadsAndResets : Obligations.ProfileReadsAndResets := by
  unfold Obligations.ProfileReadsAndResets
  refine ⟨?_, fun straps s => ⟨_, rfl, deviceReset_profiles s straps⟩, ?_⟩
  · intro s tag z1 z2 k r hserving
    obtain ⟨t, ht, hstream, hframe, hanswer⟩ := execTableRead_profile hserving
    refine ⟨t, ht, hstream, hframe, fun p hp => ?_, fun p q hpq => ?_⟩
    · simpa [hp, Entry.readContents, readContents, yesNo] using hanswer
    · simpa [hpq, Entry.readContents, readContents, yesNo] using hanswer
  · intro s tag z1 z2 z3 hserving
    refine ⟨_, released_serve_of_serving hserving rfl nofun rfl, fun c => ?_, fun k => ?_⟩
    · simp [streamReset_chans, Channel.streamReset, Channel.reset]
    · simp [streamReset_ts, TableStore.commit, Entry.commit_pending, Entry.commit_current]

end Sys2Proof.Machine
end

section
/-! PROOFS. The return of a block to FREE (R69, R71), and the UNPIN that brings it about (R88). -/

namespace Sys2Proof.Machine

/-! ## Tables with rising keys -/

theorem mem_of_tableGet {α : Type} {a : Nat} {v : α} : ∀ {l : List (Nat × α)}, tableGet l a = some v → (a, v) ∈ l
  | (k, w) :: t, h => by
    simp only [tableGet] at h
    split at h
    · next hk => cases h; simp [hk]
    · exact List.mem_cons_of_mem _ (mem_of_tableGet h)

theorem Ring.rising_modify {rm : Ring} (b : BlockId) (f : Descriptor → Descriptor) (h : tableRising rm.blocks = true) :
    tableRising (rm.modify b f).blocks = true := by
  unfold Ring.modify
  split
  · exact rising_tablePut _ _ h
  · exact h

/-! ## Return to FREE (R69, R71) -/

theorem Ring.free_toFree_of_some {rm : Ring} {b : BlockId} {l : List BlockId} (h : rm.free[planeOf b] = some l) :
    (rm.toFree b).free[planeOf b] = some (l ++ [b]) := by rw [Ring.free_toFree, h]; rfl

theorem Ring.free_toFree_ne (rm : Ring) (b : BlockId) {p : PlaneId} (h : p ≠ planeOf b) :
    (rm.toFree b).free[p] = rm.free[p] := get_put_ne _ _ h.symm

/-- A return to FREE neither makes a free list nor ends one. -/
@[simp] theorem Ring.isSome_free_toFree (rm : Ring) (b : BlockId) (p : PlaneId) :
    ((rm.toFree b).free[p]).isSome = (rm.free[p]).isSome := by
  by_cases h : p = planeOf b
  · subst h; rw [Ring.free_toFree, Option.isSome_map]
  · rw [Ring.free_toFree_ne rm b h]

theorem Ring.block_toFree_ne {rm : Ring} {b b' : BlockId} (hr : tableRising rm.blocks = true) (h : b' ≠ b) :
    (rm.toFree b).block b' = rm.block b' := by
  simp only [Ring.block, Ring.get_toFree b b' hr, if_neg h, Ring.isSome_free_toFree]

theorem Ring.block_toFree {rm : Ring} {b : BlockId} (hr : tableRising rm.blocks = true) (hb : b < 8192)
    (hp : (rm.free[planeOf b]).isSome) : (rm.toFree b).block b = .cleared .free := by
  simp only [Ring.block, Ring.get_toFree b b hr, if_true, Ring.isSome_free_toFree, hp, Config.blockCount, hb, and_self]

theorem Ring.freeOf_of_some {rm : Ring} {p : PlaneId} {l : List BlockId} (h : rm.free[p] = some l) : rm.freeOf p = l.length := by
  rw [Ring.freeOf, h]

theorem Ring.freeOf_toFree {rm : Ring} {b : BlockId} (hp : (rm.free[planeOf b]).isSome) (p : PlaneId) :
    (rm.toFree b).freeOf p = rm.freeOf p + if p = planeOf b then 1 else 0 := by
  by_cases h : p = planeOf b
  · subst h
    obtain ⟨l, hl⟩ := Option.isSome_iff_exists.mp hp
    simp [Ring.freeOf_of_some hl, Ring.freeOf_of_some (Ring.free_toFree_of_some hl)]
  · simp only [Ring.freeOf, Ring.free_toFree_ne rm b h, if_neg h, Nat.add_zero]

/-- The free count goes up by one: the block's plane is one of the four (R73). -/
theorem Ring.freeCount_toFree {rm : Ring} {b : BlockId} (hp : (rm.free[planeOf b]).isSome) :
    (rm.toFree b).freeCount = rm.freeCount + 1 := by
  have hone : ∀ q : PlaneId, (if 0 = q then 1 else 0) + (if 1 = q then 1 else 0) + (if 2 = q then 1 else 0) +
      (if 3 = q then 1 else 0) = 1 := by decide
  have := hone (planeOf b)
  simp only [Ring.freeCount, Ring.freeOf_toFree hp]
  omega

/-- R82: without pins a release is a return to FREE. -/
theorem Ring.release_of_no_pins {rm : Ring} {b : BlockId} (h : (rm.block b).pins = 0) : rm.release b = rm.toFree b := if_pos h

/-! ## UNPIN (R88) -/

/-- RM with one pin of the block taken away. -/
def Ring.dropPin (rm : Ring) (b : BlockId) : Ring := rm.modify b (fun d => { d with pins := d.pins - 1 })

theorem Ring.unpin_of_no_pins (st : Settings) {rm : Ring} {b : BlockId} (h : (rm.block b).pins = 0) :
    rm.unpin st b = (.notPinned, rm) := if_pos h

section
variable {rm : Ring} {b : BlockId} (h : (rm.block b).pins ≠ 0)
include h

theorem Ring.block_dropPin : (rm.dropPin b).block b = { rm.block b with pins := (rm.block b).pins - 1 } :=
  Ring.block_modify _ (Ring.holds_of_pins h)

/-- The pin that leaves is the last of a RETIRED block: the block becomes FREE. -/
theorem Ring.unpin_of_last (st : Settings) (hlast : (rm.block b).state = .retired ∧ (rm.block b).pins = 1) :
    rm.unpin st b = (.ok, ((rm.dropPin b).toFree b).evaluate st) := by
  have hcond : ((rm.dropPin b).block b).state = .retired ∧ ((rm.dropPin b).block b).pins = 0 := by
    rw [Ring.block_dropPin h]; exact ⟨hlast.1, by simp [hlast.2]⟩
  exact (if_neg h).trans (if_pos hcond)

/-- Any other pin that leaves: the block stays in its state. -/
theorem Ring.unpin_of_not_last (st : Settings) (hlast : ¬ ((rm.block b).state = .retired ∧ (rm.block b).pins = 1)) :
    rm.unpin st b = (.ok, rm.dropPin b) := by
  have hcond : ¬ (((rm.dropPin b).block b).state = .retired ∧ ((rm.dropPin b).block b).pins = 0) := by
    rw [Ring.block_dropPin h]
    rintro ⟨hstate, hpins⟩
    exact hlast ⟨hstate, by simp only at hpins; omega⟩
  exact (if_neg h).trans (if_neg hcond)

end

/-- Settles O23, by the two outcomes of an UNPIN that finds a pin, each read off what `dropPin` and `toFree` do. -/
theorem unpinFreesARetiredBlock : Obligations.UnpinFreesARetiredBlock := by
  unfold Obligations.UnpinFreesARetiredBlock
  intro x rm b hrising hblocks
  refine ⟨Ring.unpin_of_no_pins x, fun hpins => ?_⟩
  obtain ⟨hb, hplane⟩ := hblocks _ (mem_of_tableGet (Ring.get_of_holds (Ring.holds_of_pins hpins)))
  have hrising' : tableRising (rm.dropPin b).blocks = true := Ring.rising_modify b _ hrising
  have hfree : (rm.dropPin b).free = rm.free := Ring.modify_free ..
  have hplane' : ((rm.dropPin b).free[planeOf b]).isSome := hfree ▸ hplane
  have hother : ∀ b', b' ≠ b → (rm.dropPin b).block b' = rm.block b' := fun _ => Ring.block_modify_ne _
  have hself : ((rm.dropPin b).toFree b).block b = .cleared .free := Ring.block_toFree hrising' hb hplane'
  by_cases hlast : (rm.block b).state = .retired ∧ (rm.block b).pins = 1
  · have hqueues : ((rm.dropPin b).toFree b).queues = rm.queues := Ring.modify_queues ..
    have hlevel : ((rm.dropPin b).toFree b).level = rm.level := Ring.modify_level ..
    have hcount : ((rm.dropPin b).toFree b).freeCount = rm.freeCount + 1 := by
      rw [Ring.freeCount_toFree hplane', Ring.dropPin, Ring.freeCount_modify]
    obtain ⟨l, hl⟩ := Option.isSome_iff_exists.mp hplane
    have htail : ((rm.dropPin b).toFree b).free[planeOf b] = some (l ++ [b]) := Ring.free_toFree_of_some (hfree ▸ hl)
    refine ⟨_, Ring.unpin_of_last hpins x hlast, fun b' hne => ?_, fun _ => ⟨hself, ⟨l, hl, htail⟩, hcount, ?_⟩,
      fun hnot => absurd hlast hnot, hqueues⟩
    · exact (Ring.block_toFree_ne hrising' hne).trans (hother b' hne)
    · rw [Ring.evaluate_level, hlevel, Ring.freeCount_evaluate]
  · refine ⟨_, Ring.unpin_of_not_last hpins x hlast, hother, fun h => absurd h hlast, fun _ =>
      ⟨Ring.block_dropPin hpins, hfree, Ring.modify_level .., fun hone => ?_⟩, Ring.modify_queues ..⟩
    have hgone : ((rm.dropPin b).block b).pins = 0 := by simp [Ring.block_dropPin hpins, hone]
    rw [Ring.release_of_no_pins hgone, hself]

end Sys2Proof.Machine
end

section
/-! PROOFS. The loss of a lane's alignment (R141). -/

namespace Sys2Proof.Machine

/-! ## Which lanes are watched (R141) -/

theorem Link.up_iff (l : Link) : l.up = true ↔ l.state = .syncWait ∨ l.state = .ready := decide_eq_true_iff

/-- R141: SL watches a lane while its link is up and the lane is in use. -/
def Link.watches (l : Link) (lane : Fin 4) : Bool := l.up && decide (lane.val < l.lanes)

theorem Link.watches_iff (l : Link) (lane : Fin 4) : l.watches lane = true ↔ l.up = true ∧ lane.val < l.lanes := by
  rw [Link.watches, Bool.and_eq_true, decide_eq_true_iff]

theorem Link.not_watches_of_unused {l : Link} {lane : Fin 4} (h : l.lanes ≤ lane.val) : l.watches lane = false :=
  Bool.eq_false_iff.mpr fun hw => absurd ((Link.watches_iff l lane).mp hw).2 (Nat.not_lt.mpr h)

theorem Link.not_watches_of_training {l : Link} {lane : Fin 4} (h : l.state = .training) : l.watches lane = false := by
  refine Bool.eq_false_iff.mpr fun hw => ?_
  have hup := (Link.up_iff l).mp ((Link.watches_iff l lane).mp hw).1
  simp [h] at hup

/-! ## LANE_ALIGNMENT_LOSS -/

section
variable {s : State} {lane : Fin 4} (hpin : s.su.resetLow = false)
include hpin

theorem exec_laneAlignmentLoss_eq :
    exec (.laneAlignmentLoss lane) s = .next (onlyWhen (s.sl.watches lane) linkDown s) :=
  released_eq _ hpin

theorem exec_laneAlignmentLoss_of_watched (h : s.sl.watches lane = true) :
    exec (.laneAlignmentLoss lane) s = .next (linkDown s) := by
  rw [exec_laneAlignmentLoss_eq hpin, h, onlyWhen_true]

theorem exec_laneAlignmentLoss_of_unwatched (h : s.sl.watches lane = false) :
    exec (.laneAlignmentLoss lane) s = .next s := by
  rw [exec_laneAlignmentLoss_eq hpin, h, onlyWhen_false]

end

theorem linkDown_state (s : State) : (linkDown s).sl.state = .training := rfl
theorem linkDown_lanes (s : State) : (linkDown s).sl.lanes = 0 := rfl

/-- Settles O36, by whether SL watches the lane: a watched lane's loss is `linkDown`, any other leaves the state. -/
theorem oneUsedLaneTakesTheLinkDown : Obligations.OneUsedLaneTakesTheLinkDown := by
  unfold Obligations.OneUsedLaneTakesTheLinkDown
  intro s lane hpin
  refine ⟨fun hstate hused => ?_, fun hunused => ?_, fun htraining => ?_⟩
  · have hwatched : s.sl.watches lane = true := (Link.watches_iff _ _).mpr ⟨(Link.up_iff _).mpr hstate, hused⟩
    exact ⟨_, exec_laneAlignmentLoss_of_watched hpin hwatched, linkDown_state s, linkDown_lanes s⟩
  · exact exec_laneAlignmentLoss_of_unwatched hpin (Link.not_watches_of_unused hunused)
  · exact exec_laneAlignmentLoss_of_unwatched hpin (Link.not_watches_of_training htraining)

end Sys2Proof.Machine
end

section
/-! PROOFS. What DS and the arbiters can do to RM's blocks of their own: select them (R83, R112). -/

namespace Sys2Proof.Safety

open Sys2Proof.Machine

theorem keptOrSelected_trans {d d' d'' : Descriptor} (h : KeptOrSelected d d') (h' : KeptOrSelected d' d'') :
    KeptOrSelected d d'' := by
  obtain rfl | h' := h'
  · exact h
  · obtain rfl | h := h
    · exact .inr h'
    · exact .inr (h'.trans (congrArg (fun x : Descriptor => { x with state := .sending, seq := d''.seq }) h))

/-- DS and the arbiters reach DS, RM and the planes. -/
theorem settle_changesOnly (s : State) : ChangesOnly [.rm, .ds, .planes] s (settle s) := by
  intro p hp
  rw [settle_eq]
  cases p with
  | rm | ds | planes => simp at hp
  | _ => rfl

end Sys2Proof.Safety

namespace Sys2Proof.Machine

open Sys2Proof.Safety

/-- RM with the free lists as they were, and no block changed but by a selection. -/
def Ring.OnlySelects (rm rm' : Ring) : Prop := rm'.free = rm.free ∧ ∀ b, KeptOrSelected (rm.block b) (rm'.block b)

theorem Ring.OnlySelects.refl (rm : Ring) : rm.OnlySelects rm := ⟨rfl, fun _ => .inl rfl⟩

theorem Ring.OnlySelects.trans {rm rm' rm'' : Ring} (h : rm.OnlySelects rm') (h' : rm'.OnlySelects rm'') :
    rm.OnlySelects rm'' :=
  ⟨h'.1.trans h.1, fun b => keptOrSelected_trans (h.2 b) (h'.2 b)⟩

/-- A change of a block RM holds no descriptor for is none. -/
theorem Ring.modify_of_not_holds {rm : Ring} {b : BlockId} (f : Descriptor → Descriptor) (h : ¬ rm.holds b) :
    rm.modify b f = rm := by
  rw [Ring.holds, Option.not_isSome_iff_eq_none] at h
  simp only [Ring.modify, h]

/-- A change that puts one block in SENDING. -/
theorem Ring.onlySelects_modify (rm : Ring) (b : BlockId) {f : Descriptor → Descriptor} (hf : ∀ d, KeptOrSelected d (f d)) :
    rm.OnlySelects (rm.modify b f) := by
  refine ⟨Ring.modify_free .., fun b' => ?_⟩
  by_cases hb : b' = b
  · subst hb
    by_cases hheld : rm.holds b'
    · rw [Ring.block_modify f hheld]; exact hf _
    · rw [Ring.modify_of_not_holds f hheld]; exact .inl rfl
  · rw [Ring.block_modify_ne f hb]; exact .inl rfl

theorem selectNew_onlySelects (w : Vector Nat 4) (x : Drain × Ring) : x.2.OnlySelects (selectNew w x).2 := by
  obtain h | ⟨k, _, _, b, rest, -, -, -, h⟩ := selectNew_cases w x
  · rw [h]; exact .refl _
  · rw [h]; exact Ring.onlySelects_modify { x.2 with queues := put x.2.queues k rest } b fun _ => .inr rfl

theorem selectOnce_onlySelects (allowed : Bool) (w : Vector Nat 4) (x : Drain × Ring) :
    x.2.OnlySelects (selectOnce allowed w x).2 := by
  obtain h | ⟨-, -, ⟨m, rest, -, h⟩ | ⟨-, -, h⟩⟩ := selectOnce_cases allowed w x
  · rw [h]; exact .refl _
  · rw [h]; exact Ring.onlySelects_modify _ _ fun _ => .inr rfl
  · rw [h]; exact selectNew_onlySelects w x

/-- What DS does of its own is two selections at RM; load claims and grants do not reach it. -/
theorem settle_onlySelects (s : State) : s.rm.OnlySelects (settle s).rm := by
  have hrm : (settle s).rm = (selectBlocks s).rm := (grants_rm _).trans (claimLoads_rm _)
  rw [hrm]
  exact (selectOnce_onlySelects _ _ (s.ds, s.rm)).trans (selectOnce_onlySelects _ _ _)

end Sys2Proof.Machine
end

section
/-! PROOFS. The stream state: what leaves MU alone, which commands can enter INIT or leave it (R161, R167, R179). -/

namespace Sys2Proof.Machine

open Sys2Proof.Safety

/-! ## What leaves the Management Unit alone -/

section
variable {s : State}

theorem eachChannel_mu {f : ChannelId → State → State} (hf : ∀ c u, (f c u).mu = u.mu) : (eachChannel f s).mu = s.mu :=
  eachChannel_induct (P := fun u => u.mu = s.mu) f s rfl (fun c u hu => (hf c u).trans hu)

@[simp] theorem onChannel_mu (f : Env → Engine → Engine) (c : ChannelId) : (onChannel f c s).mu = s.mu := rfl

@[simp] theorem eachChannel_onChannel_mu (f : Env → Engine → Engine) : (eachChannel (onChannel f) s).mu = s.mu :=
  eachChannel_mu fun c _ => onChannel_mu f c

/-! ### Frames of the Acquisition Port -/

@[simp] theorem reportMissed_mu (missed : Nat) (first : Word64) : (reportMissed missed first s).mu = s.mu := by
  refine eachChannel_mu fun c u => ?_
  split <;> rfl

@[simp] theorem distribute_mu (f : FrameParts) (frame : Word64) (boundary : Bool) :
    (distribute f frame boundary s).mu = s.mu := by
  refine eachChannel_mu fun c u => ?_
  dsimp only
  split <;> rfl

@[simp] theorem takeBad_mu : (takeBad s).mu = s.mu := by
  unfold takeBad
  dsimp only
  split
  · exact reportMissed_mu _ _
  · rfl

@[simp] theorem takeBoundary_mu (frame : Word64) : (takeBoundary frame s).mu = s.mu := rfl

@[simp] theorem takeGood_mu (f : FrameParts) : (takeGood f s).mu = s.mu := by
  unfold takeGood
  simp only [distribute_mu]
  split_ifs <;> simp

@[simp] theorem takeFrame_mu (framed : Bool) (words : List Word16) : (takeFrame framed words s).mu = s.mu := by
  unfold takeFrame
  rw [settle_mu]
  split
  · exact takeGood_mu _
  · exact takeBad_mu

@[simp] theorem startFrame_mu : (startFrame s).mu = s.mu := by
  unfold startFrame
  split <;> simp

@[simp] theorem addWord_mu (w : PortWord) : (addWord w s).mu = s.mu := by
  unfold addWord
  split
  · rfl
  · dsimp only
    split <;> simp

@[simp] theorem portWord_mu (w : PortWord) : (portWord s w).mu = s.mu := by
  unfold portWord
  rw [addWord_mu]
  split
  · exact startFrame_mu
  · rfl

theorem foldl_portWord_mu (words : List PortWord) : (words.foldl portWord s).mu = s.mu := by
  induction words generalizing s with
  | nil => rfl
  | cons w words ih => rw [List.foldl_cons, ih, portWord_mu]

/-! ### Table writes and the planes -/

@[simp] theorem writeSlotMap_mu (no : Byte) (bs : List Byte) : (writeSlotMap no bs s).1.mu = s.mu := by
  unfold writeSlotMap; split <;> rfl

@[simp] theorem writeProfile_mu (no : Byte) (bs : List Byte) : (writeProfile no bs s).1.mu = s.mu := by
  rw [writeProfile_eq]

@[simp] theorem writeChannel_mu (no : Byte) (bs : List Byte) : (writeChannel no bs s).1.mu = s.mu := by
  unfold writeChannel; split <;> rfl

@[simp] theorem writeSettings_mu (no : Byte) (bs : List Byte) : (writeSettings no bs s).1.mu = s.mu := by
  unfold writeSettings
  split
  · split <;> rfl
  · rfl

@[simp] theorem noteReport_mu : (noteReport s).mu = s.mu := by
  unfold noteReport; split <;> rfl

/-! ### Requests and the stream reset -/

@[simp] theorem tableRead_mu (r : Request) : (tableRead r s).1.mu = s.mu := by
  unfold tableRead; split <;> rfl

@[simp] theorem blockQuery_mu (r : Request) : (blockQuery r s).1.mu = s.mu := by
  unfold blockQuery; dsimp only; split <;> rfl

@[simp] theorem channelCommand_mu (f : Env → Engine → Engine × ReplyStatus) (r : Request) :
    (channelCommand f r s).1.mu = s.mu := by
  unfold channelCommand; split <;> rfl

@[simp] theorem abortReview_mu : (abortReview s).mu = s.mu := by
  unfold abortReview; split <;> rfl

/-- Step 6 of a stream reset is all that reaches MU before its reply (R165). -/
theorem streamReset_mu (s : State) : (streamReset s).mu = { s.mu with stream := .standby } := by
  obtain ⟨_, _, -, harrivals⟩ := takeArrivals_hold (resetChannels s) rfl
  calc (streamReset s).mu = { (takeArrivals (resetChannels s)).mu with stream := .standby } := rfl
    _ = { (abortReview s).mu with stream := .standby } := by rw [harrivals]; rfl
    _ = { s.mu with stream := .standby } := by rw [abortReview_mu]

/-! ### The link and the Review Port -/

@[simp] theorem markSent_mu : (markSent s).mu = s.mu := by
  unfold markSent
  rw [eachChannel_onChannel_mu]

@[simp] theorem answerRead_mu (b : BlockId) (bs : List Byte) : (answerRead b bs s).mu = s.mu := by
  unfold answerRead; split <;> rfl

@[simp] theorem locate_mu (channel run : Byte) (index : Word64) : (locate channel run index s).mu = s.mu := by
  unfold locate
  split
  · split <;> rfl
  · rfl

@[simp] theorem scanStep_mu : (scanStep s).mu = s.mu := by
  unfold scanStep
  split
  · split_ifs <;> rfl
  · rfl

@[simp] theorem pin_mu (b : Word16) : (pin b s).mu = s.mu := by
  unfold pin; split_ifs <;> rfl

@[simp] theorem unpin_mu (b : Word16) : (unpin b s).mu = s.mu := by
  unfold unpin; split_ifs <;> rfl

@[simp] theorem checkRead_mu (b : Word16) (off len : Nat) : (checkRead b off len s).mu = s.mu := by
  unfold checkRead
  dsimp only
  split_ifs
  · rfl
  · rfl
  · rw [grants_mu, claimReview_mu]

@[simp] theorem read_mu (b : Word16) (off : Word32) (len : Word16) : (read b off len s).mu = s.mu := by
  unfold read
  split_ifs
  · rfl
  · rfl
  · exact checkRead_mu b _ _

@[simp] theorem describe_mu (b : Word16) : (describe b s).mu = s.mu := by
  unfold describe; split_ifs <;> rfl

end

/-! ## What leaves the stream state alone -/

section
variable {s : State}

@[simp] theorem startRequests_stream : (startRequests s).mu.stream = s.mu.stream := startFrom_stream _ s

@[simp] theorem arriveRequest_stream (r : Request) : (arriveRequest r s).mu.stream = s.mu.stream := by
  unfold arriveRequest
  split
  · exact startRequests_stream
  · rfl

/-- A frame's start at most puts a reply in transmission. -/
@[simp] theorem startFrameOf_stream : (startFrameOf s).mu.stream = s.mu.stream := by
  unfold startFrameOf startMarkOrLower startDataOrFill
  repeat' split
  all_goals rfl

end

/-! ## INIT is neither entered nor left -/

/-- The stream state is INIT after a command exactly when it was INIT before. -/
def InitKept (s t : State) : Prop := t.mu.stream = .init ↔ s.mu.stream = .init

section
variable {s t : State}

theorem initKept_of_stream (h : t.mu.stream = s.mu.stream) : InitKept s t := by rw [InitKept, h]

theorem initKept_of_mu (h : t.mu = s.mu) : InitKept s t := initKept_of_stream (congrArg _ h)

theorem initKept_of_ne (hs : s.mu.stream ≠ .init) (ht : t.mu.stream ≠ .init) : InitKept s t := iff_of_false ht hs

theorem initKept_settle {u : State} (h : InitKept s u) : InitKept s (settle u) := by rwa [InitKept, settle_mu]

theorem initKept_finish {r : Request} {x : Served} (h : InitKept s x.1) : InitKept s (finish r x) := by
  rwa [InitKept, finish_stream]

theorem released_initKept {f : State → State} (h : released s f = .next t) (hf : InitKept s (f s)) : InitKept s t := by
  obtain ⟨-, rfl⟩ | ⟨-, rfl⟩ := released_cases h
  · exact hf
  · exact .rfl

theorem initKept_onlyWhen {b : Bool} {f : State → State} (hf : InitKept s (f s)) : InitKept s (onlyWhen b f s) := by
  obtain ⟨-, h⟩ | ⟨-, h⟩ := onlyWhen_cases b f s
  · rwa [h]
  · rw [h]; exact .rfl

/-- In INIT a row's request is answered BUSY; so a row keeps INIT when its meaning does outside INIT (R157). -/
theorem initKept_serve {row : RequestRow} {run : Request → State → Served}
    (hrun : s.mu.stream ≠ .init → ∀ r, InitKept s (run r s).1) : InitKept s (serve row run s) := by
  obtain ⟨-, h⟩ | ⟨r, -, h⟩ := serve_cases row run s
  · rw [h]; exact .rfl
  · rw [h]
    refine initKept_finish ?_
    by_cases hinit : s.mu.stream = .init
    · rw [judged, if_pos hinit]; exact .rfl
    · obtain hj | hj := judged_cases row r (run r) s
      · rw [hj]; exact .rfl
      · rw [hj]; exact hrun hinit r

/-- A row whose meaning leaves MU alone keeps INIT. -/
theorem initKept_serve_of_mu {row : RequestRow} {run : Request → State → Served} (hrun : ∀ r, (run r s).1.mu = s.mu) :
    InitKept s (serve row run s) :=
  initKept_serve fun _ r => initKept_of_mu (hrun r)

/-- A row after which DS and the arbiters act. -/
theorem released_settle_serve_initKept {row : RequestRow} {run : Request → State → Served}
    (h : released s (fun u => settle (serve row run u)) = .next t) (hrun : s.mu.stream ≠ .init → ∀ r, InitKept s (run r s).1) :
    InitKept s t :=
  released_initKept h (initKept_settle (initKept_serve hrun))

/-- A guarded event that leaves MU alone keeps INIT. -/
theorem released_initKept_of_mu {f : State → State} (h : released s f = .next t) (hf : (f s).mu = s.mu) : InitKept s t :=
  released_initKept h (initKept_of_mu hf)

theorem released_onlyWhen_initKept_of_mu {b : Bool} {f : State → State} (h : released s (onlyWhen b f) = .next t)
    (hf : (f s).mu = s.mu) : InitKept s t :=
  released_initKept h (initKept_onlyWhen (initKept_of_mu hf))

/-- A stream command outside INIT keeps out of it: its target is another state. -/
theorem initKept_streamCommand {sources : List StreamState} {target : StreamState} {pass : State → State}
    (hs : s.mu.stream ≠ .init) (htarget : target ≠ .init) (hpass : ∀ u, (pass u).mu = u.mu) :
    InitKept s (streamCommand sources target pass s).1 := by
  unfold streamCommand
  split
  · exact initKept_of_ne hs (by rwa [hpass])
  · exact .rfl

/-- The end of an access is the report of it, or nothing while the pin is low. -/
theorem accessEnd_cases {u : State} {ok : Bool} {x : Fault}
    (h : (if s.su.resetLow then .next s else if ok then .next (settle u) else .fault x : Answer) = .next t) :
    t = s ∨ t = settle u := by
  split_ifs at h
  · exact .inl (Host.Outcome.next.inj h).symm
  · exact .inr (Host.Outcome.next.inj h).symm

theorem accessEnd_initKept {u : State} {ok : Bool} {x : Fault}
    (h : (if s.su.resetLow then .next s else if ok then .next (settle u) else .fault x : Answer) = .next t)
    (hu : u.mu = s.mu) : InitKept s t := by
  obtain ht | ht := accessEnd_cases h
  · rw [ht]; exact .rfl
  · rw [ht]; exact initKept_settle (initKept_of_mu hu)

theorem execAcquisitionFrame_initKept {words : List PortWord} (h : execAcquisitionFrame words s = .next t) : InitKept s t :=
  released_initKept_of_mu (f := fun u => words.foldl portWord u) h (foldl_portWord_mu words)

/-! ### The commands that look at a port or the frame in transmission first -/

theorem execHeaderWriteComplete_initKept {p : PlaneId} (h : execHeaderWriteComplete p s = .next t) : InitKept s t := by
  unfold execHeaderWriteComplete at h
  split at h
  · next live _ => exact accessEnd_initKept h (by cases live <;> rfl)
  · cases h; exact .rfl

theorem execPayloadWriteComplete_initKept {p : PlaneId} (h : execPayloadWriteComplete p s = .next t) : InitKept s t := by
  unfold execPayloadWriteComplete at h
  split at h
  · next live _ => exact accessEnd_initKept h (by cases live <;> rfl)
  · cases h; exact .rfl

theorem execHalfLoadComplete_initKept {p : PlaneId} (h : execHalfLoadComplete p s = .next t) : InitKept s t := by
  unfold execHalfLoadComplete at h
  split at h
  · exact accessEnd_initKept h rfl
  · cases h; exact .rfl

theorem execReviewReadComplete_initKept {p : PlaneId} (h : execReviewReadComplete p s = .next t) : InitKept s t := by
  unfold execReviewReadComplete at h
  split at h
  · next live _ =>
    refine accessEnd_initKept h ?_
    cases live
    · rfl
    · exact answerRead_mu _ _
  · cases h; exact .rfl

theorem execHelloFrameEnd_initKept (h : execHelloFrameEnd s = .next t) : InitKept s t := by
  unfold execHelloFrameEnd at h
  split at h
  · exact released_initKept_of_mu h rfl
  · cases h; exact .rfl

theorem execReplyFrameEnd_initKept (h : execReplyFrameEnd s = .next t) : InitKept s t := by
  unfold execReplyFrameEnd at h
  split at h
  · exact released_initKept h (initKept_of_stream startRequests_stream)
  · cases h; exact .rfl

theorem execMarkFrameEnd_initKept (h : execMarkFrameEnd s = .next t) : InitKept s t := by
  unfold execMarkFrameEnd at h
  split at h
  · next live _ =>
    refine released_initKept_of_mu h ?_
    cases live
    · rfl
    · exact markSent_mu
  · cases h; exact .rfl

theorem execDataFrameEnd_initKept (h : execDataFrameEnd s = .next t) : InitKept s t := by
  unfold execDataFrameEnd at h
  split at h
  · exact released_initKept_of_mu h (settle_mu _)
  · cases h; exact .rfl

theorem execFillFrameEnd_initKept (h : execFillFrameEnd s = .next t) : InitKept s t := by
  unfold execFillFrameEnd at h
  split at h
  · exact released_initKept_of_mu h rfl
  · cases h; exact .rfl

theorem execPlaneInitEnd_initKept {p : PlaneId} {ready : Bool} (h : execPlaneInitEnd p ready s = .next t) : InitKept s t := by
  refine released_onlyWhen_initKept_of_mu h ?_
  rw [noteReport_mu]
  cases ready <;> rfl

theorem execTrainingAttemptComplete_initKept {aligned : BitVec 4} (h : execTrainingAttemptComplete aligned s = .next t) :
    InitKept s t := by
  refine released_onlyWhen_initKept_of_mu h ?_
  split <;> rfl

end

/-! ## The stream commands' meanings -/

@[simp] theorem passLeaveRun_mu (s : State) : (passLeaveRun s).mu = s.mu := eachChannel_onChannel_mu _

@[simp] theorem passStandby_mu (s : State) : (passStandby s).mu = s.mu := eachChannel_onChannel_mu _

/-- HALT from PAUSE changes no channel (R41). -/
def passHalt (st : StreamState) : State → State := if st = .pause then id else passLeaveRun

@[simp] theorem passHalt_mu (st : StreamState) (s : State) : (passHalt st s).mu = s.mu := by
  unfold passHalt
  split
  · rfl
  · exact passLeaveRun_mu s

/-- The two meanings of HALT are one command, from RUN and PAUSE (R161). -/
theorem streamHalt_eq (s : State) :
    (if s.mu.stream = .pause then streamCommand [.pause] .halt id s else streamCommand [.run] .halt passLeaveRun s)
      = streamCommand [.run, .pause] .halt (passHalt s.mu.stream) s := by
  by_cases h : s.mu.stream = .pause <;> simp [streamCommand, passHalt, h]

theorem execStreamHalt_eq (s : State) : execStreamHalt s =
    released s (fun t => settle (serve .streamHalt
      (fun _ u => streamCommand [.run, .pause] .halt (passHalt u.mu.stream) u) t)) := by
  simp only [execStreamHalt, streamHalt_eq]

/-! ## Into INIT and out of it -/

/-- Start-up has ended: INIT is left (R179). -/
def StartUpEnded (t : State) : Prop := t.su.phase = .done ∧ (t.mu.stream = .standby ∨ t.mu.stream = .run)

theorem endStartUp_ended (valid : Bool) (s : State) : StartUpEnded (endStartUp valid s) := by
  unfold endStartUp
  dsimp only
  split
  · exact ⟨by rw [startRequests_su], .inr startRequests_stream⟩
  · exact ⟨by rw [startRequests_su], .inl startRequests_stream⟩

theorem deviceReset_stream (straps : BitVec 2) (s : State) : (deviceReset straps s).mu.stream = .init := rfl

section
variable {s t : State}

theorem execSettleTimerExpiry_init (h : execSettleTimerExpiry s = .next t) : InitKept s t ∨ StartUpEnded t := by
  obtain ⟨-, rfl⟩ | ⟨-, rfl⟩ := released_cases h
  · obtain ⟨-, hf⟩ | ⟨-, hf⟩ := onlyWhen_cases (decide (s.su.phase = .settle) && s.su.settleTimer.isSome) settleEnds s
    · rw [hf, settleEnds]
      split
      · exact .inl .rfl
      · exact .inr (endStartUp_ended _ _)
    · rw [hf]; exact .inl .rfl
  · exact .inl .rfl

theorem loadImage_ended (image : Option (List Byte)) (s : State) : StartUpEnded (loadImage image s) := by
  unfold loadImage
  split
  · exact endStartUp_ended _ _
  · exact endStartUp_ended _ _

theorem execFlashReadComplete_init {image : Option (List Byte)} (h : execFlashReadComplete image s = .next t) :
    InitKept s t ∨ StartUpEnded t := by
  obtain ⟨-, rfl⟩ | ⟨-, rfl⟩ := released_cases h
  · obtain ⟨-, hf⟩ | ⟨-, hf⟩ := onlyWhen_cases (decide (s.su.phase = .flashLoad)) (loadImage image) s
    · rw [hf]; exact .inr (loadImage_ended image s)
    · rw [hf]; exact .inl .rfl
  · exact .inl .rfl

/-- A RESET request with scope DEVICE gives INIT, or is answered. -/
theorem execResetDevice_init {straps : BitVec 2} (h : execResetDevice straps s = .next t) :
    InitKept s t ∨ t.mu.stream = .init := by
  obtain ⟨-, rfl⟩ | ⟨-, rfl⟩ := released_cases h
  · unfold serveDeviceReset
    split
    · exact .inl .rfl
    · split_ifs
      · exact .inl (initKept_finish .rfl)
      · exact .inr (deviceReset_stream straps s)
      · exact .inl (initKept_finish .rfl)
  · exact .inl .rfl

/-- Only a device reset can enter INIT, and only the end of start-up leave it (R161). -/
theorem exec_init_cases {c : Instr} (h : exec c s = .next t) :
    InitKept s t ∨
    (t.mu.stream = .init ∧ ∃ straps, c = .deviceReset straps ∨ c = .resetDevice straps) ∨
    (StartUpEnded t ∧ (c = .settleTimerExpiry ∨ ∃ image, c = .flashReadComplete image)) := by
  cases c with
  | deviceReset straps =>
    cases h; exact .inr (.inl ⟨deviceReset_stream straps s, straps, .inl rfl⟩)
  | resetDevice straps => exact (execResetDevice_init h).imp_right fun ht => .inl ⟨ht, straps, .inr rfl⟩
  | settleTimerExpiry => exact (execSettleTimerExpiry_init h).imp_right fun ht => .inr ⟨ht, .inl rfl⟩
  | flashReadComplete image => exact (execFlashReadComplete_init h).imp_right fun ht => .inr ⟨ht, .inr ⟨image, rfl⟩⟩
  | acquisitionFrame words => exact .inl (execAcquisitionFrame_initKept h)
  | sealAgeTimerExpiry c => exact .inl (released_onlyWhen_initKept_of_mu h (settle_mu _))
  | headerWriteComplete p => exact .inl (execHeaderWriteComplete_initKept h)
  | payloadWriteComplete p => exact .inl (execPayloadWriteComplete_initKept h)
  | halfLoadComplete p => exact .inl (execHalfLoadComplete_initKept h)
  | reviewReadComplete p => exact .inl (execReviewReadComplete_initKept h)
  | refreshComplete p => exact .inl (released_onlyWhen_initKept_of_mu h (settle_mu _))
  | refreshTick p => exact .inl (released_onlyWhen_initKept_of_mu h (grants_mu _))
  | planeInitEnd p ready => exact .inl (execPlaneInitEnd_initKept h)
  | planeInitTimeout p => exact .inl (released_onlyWhen_initKept_of_mu h noteReport_mu)
  | laneAlignmentLoss lane => exact .inl (released_initKept h (initKept_onlyWhen (initKept_of_stream rfl)))
  | receiveSilenceTimeout => exact .inl (released_initKept h (initKept_onlyWhen (initKept_of_stream rfl)))
  | trainingAttemptComplete aligned => exact .inl (execTrainingAttemptComplete_initKept h)
  | trainingAttemptFailed => exact .inl (released_onlyWhen_initKept_of_mu h rfl)
  | trainingAttemptTimeout => exact .inl (released_onlyWhen_initKept_of_mu h rfl)
  | helloTimerExpiry => exact .inl (released_onlyWhen_initKept_of_mu h rfl)
  | forwardFrameStart => exact .inl (released_initKept h (initKept_onlyWhen (initKept_of_stream startFrameOf_stream)))
  | helloFrameEnd => exact .inl (execHelloFrameEnd_initKept h)
  | replyFrameEnd => exact .inl (execReplyFrameEnd_initKept h)
  | markFrameEnd => exact .inl (execMarkFrameEnd_initKept h)
  | dataFrameEnd => exact .inl (execDataFrameEnd_initKept h)
  | fillFrameEnd => exact .inl (execFillFrameEnd_initKept h)
  | flowFrame granted committed => exact .inl (released_onlyWhen_initKept_of_mu h (settle_mu _))
  | requestFrame tag kind contents =>
    exact .inl (released_initKept h (initKept_onlyWhen (initKept_of_stream (arriveRequest_stream _))))
  | returnFillFrame => exact .inl (released_onlyWhen_initKept_of_mu h rfl)
  | returnFrameRejected bytes => exact .inl (released_onlyWhen_initKept_of_mu h rfl)
  | tableWriteSlotMap => exact .inl (released_initKept h (initKept_serve_of_mu fun _ => writeSlotMap_mu _ _))
  | tableWriteProfile => exact .inl (released_initKept h (initKept_serve_of_mu fun _ => writeProfile_mu _ _))
  | tableWriteChannel => exact .inl (released_initKept h (initKept_serve_of_mu fun _ => writeChannel_mu _ _))
  | tableWriteSettings =>
    exact .inl (released_settle_serve_initKept h fun _ _ => initKept_of_mu (writeSettings_mu _ _))
  | tableRead => exact .inl (released_initKept h (initKept_serve_of_mu tableRead_mu))
  | streamRun =>
    exact .inl (released_initKept h (initKept_serve fun hs _ => initKept_streamCommand hs nofun fun _ => rfl))
  | streamPause =>
    exact .inl (released_settle_serve_initKept h fun hs _ => initKept_streamCommand hs nofun passLeaveRun_mu)
  | streamHalt =>
    exact .inl (released_settle_serve_initKept ((execStreamHalt_eq s).symm.trans h)
      fun hs _ => initKept_streamCommand hs nofun (passHalt_mu _))
  | streamResume =>
    exact .inl (released_settle_serve_initKept h fun hs _ => initKept_streamCommand hs nofun fun _ => rfl)
  | streamStandby =>
    exact .inl (released_settle_serve_initKept h fun hs _ => initKept_streamCommand hs nofun passStandby_mu)
  | channelStart => exact .inl (released_initKept h (initKept_serve_of_mu (channelCommand_mu _)))
  | channelStop => exact .inl (released_settle_serve_initKept h fun _ r => initKept_of_mu (channelCommand_mu _ r))
  | channelFlush => exact .inl (released_settle_serve_initKept h fun _ r => initKept_of_mu (channelCommand_mu _ r))
  | blockQuery => exact .inl (released_initKept h (initKept_serve_of_mu blockQuery_mu))
  | statusQuery => exact .inl (released_initKept h (initKept_serve_of_mu fun _ => rfl))
  | forceBoundary => exact .inl (released_initKept h (initKept_serve_of_mu fun _ => rfl))
  | resetStream =>
    exact .inl (released_initKept h
      (initKept_serve fun hs _ => initKept_of_ne hs (by rw [streamReset_mu]; nofun)))
  | unknownRequestKind => exact .inl (released_initKept h (initKept_serve_of_mu fun _ => rfl))
  | locate channel run index => exact .inl (released_initKept_of_mu h (locate_mu channel run index))
  | locateScanStep => exact .inl (released_initKept_of_mu h scanStep_mu)
  | pin b => exact .inl (released_initKept_of_mu h (pin_mu b))
  | unpin b => exact .inl (released_initKept_of_mu h (unpin_mu b))
  | read b off len => exact .inl (released_initKept_of_mu h (read_mu b off len))
  | describe b => exact .inl (released_initKept_of_mu h (describe_mu b))
  | unknownReviewKind kind => exact .inl (released_initKept_of_mu h rfl)
  | resetPinLow => cases h; exact .inl .rfl

/-- INIT is reached by a device reset alone. -/
theorem exec_enters_init {c : Instr} (h : exec c s = .next t) (hs : s.mu.stream ≠ .init) (ht : t.mu.stream = .init) :
    ∃ straps, c = .deviceReset straps ∨ c = .resetDevice straps := by
  obtain hkept | ⟨-, hreset⟩ | ⟨⟨-, hended⟩, -⟩ := exec_init_cases h
  · exact absurd (hkept.1 ht) hs
  · exact hreset
  · simp [ht] at hended

/-- INIT is left at the end of start-up alone. -/
theorem exec_leaves_init {c : Instr} (h : exec c s = .next t) (hs : s.mu.stream = .init) (ht : t.mu.stream ≠ .init) :
    StartUpEnded t ∧ (c = .settleTimerExpiry ∨ ∃ image, c = .flashReadComplete image) := by
  obtain hkept | ⟨hinit, -⟩ | hended := exec_init_cases h
  · exact absurd (hkept.2 hs) ht
  · exact absurd hinit ht
  · exact hended

end

end Sys2Proof.Machine
end

section
/-! PROOFS. The table of the stream commands (R161): each taken from its states and refused in the others; unnamed codes. -/

namespace Sys2Proof.Machine

open Sys2Proof.Safety

/-- A stream command's row of the table of R161: OK and the target from one of the sources, otherwise REFUSED with the stream state
kept, and nothing else reached but by what DS and the arbiters do of their own. -/
def FollowsTable (r : Request) (sources : List StreamState) (target : StreamState) (s t : State) : Prop :=
  (s.mu.stream ∈ sources → t.mu.stream = target ∧ Answered r .ok [] s t) ∧
  (s.mu.stream ∉ sources → t.mu.stream = s.mu.stream ∧ Answered r .refused [] s t ∧
    ChangesOnly [.mu, .rm, .ds, .planes] s t ∧ s.rm.OnlySelects t.rm)

section
variable {r : Request} {sources : List StreamState} {target : StreamState} {s t : State}

/-- MU's change and its reply follow the table, when the channels' part leaves MU alone. -/
theorem followsTable_finish {pass : State → State} (hpass : ∀ u, (pass u).mu = u.mu) :
    FollowsTable r sources target s (finish r (streamCommand sources target pass s)) := by
  refine ⟨fun hin => ?_, fun hout => ?_⟩
  · have hmu : (pass (setStream target s)).mu = { s.mu with stream := target } := hpass _
    rw [streamCommand, if_pos hin]
    refine ⟨by rw [finish_stream, hmu], ?_⟩
    have hanswer := finish_answered r (pass (setStream target s), .ok, [])
    unfold Answered at hanswer ⊢
    rwa [hmu] at hanswer
  · rw [streamCommand, if_neg hout]
    obtain ⟨hstream, hanswer⟩ := finish_of_mu_eq (r := r) (x := (s, .refused, [])) rfl
    refine ⟨hstream, hanswer, changesOnly_mono (by simp) (finish_changesOnly r (s, .refused, [])), ?_⟩
    rw [finish_rm]; exact .refl _

/-- What DS and the arbiters do after a stream command keeps to the table. -/
theorem followsTable_settle (h : FollowsTable r sources target s t) : FollowsTable r sources target s (settle t) := by
  refine ⟨fun hin => ?_, fun hout => ?_⟩
  · simpa only [Answered, settle_mu] using h.1 hin
  · obtain ⟨hstream, hanswer, hframe, hselects⟩ := h.2 hout
    refine ⟨by rwa [settle_mu], by simpa only [Answered, settle_mu] using hanswer, ?_, hselects.trans (settle_onlySelects t)⟩
    exact changesOnly_trans hframe (changesOnly_mono (by simp) (settle_changesOnly t))

/-- A stream command after which nothing else acts, served. -/
theorem released_serve_followsTable {row : RequestRow} {pass : State → State} (hserving : Serving r s)
    (hrow : r.row = some row) (hknown : row ≠ .unknownRequestKind) (hfits : lengthFits row r = true)
    (hpass : ∀ u, (pass u).mu = u.mu) :
    ∃ t, released s (serve row (fun _ u => streamCommand sources target pass u)) = .next t ∧
      FollowsTable r sources target s t :=
  ⟨_, released_serve_of_serving hserving hrow hknown hfits, followsTable_finish hpass⟩

/-- A stream command after which DS and the arbiters act, served; what the channels take may hang on the stream state. -/
theorem released_settle_serve_followsTable {row : RequestRow} {pass : StreamState → State → State} (hserving : Serving r s)
    (hrow : r.row = some row) (hknown : row ≠ .unknownRequestKind) (hfits : lengthFits row r = true)
    (hpass : ∀ st u, (pass st u).mu = u.mu) :
    ∃ t, released s (fun v => settle (serve row (fun _ u => streamCommand sources target (pass u.mu.stream) u) v)) = .next t ∧
      FollowsTable r sources target s t := by
  refine ⟨_, released_eq _ hserving.1, followsTable_settle ?_⟩
  rw [serve_of_serving hserving hrow hknown hfits]
  exact followsTable_finish (hpass _)

end

/-- The table of R161: command, code, the states it is taken from, the new state. -/
def streamCommandTable : List (Instr × Byte × List StreamState × StreamState) :=
  [(.streamRun, 1#8, [.standby], .run), (.streamPause, 2#8, [.run], .pause),
   (.streamHalt, 3#8, [.run, .pause], .halt), (.streamResume, 4#8, [.pause, .halt], .run),
   (.streamStandby, 5#8, [.run, .pause, .halt], .standby)]

/-- Each row's command, served, follows its row (R161). -/
theorem exec_followsTable {cmd : Instr} {code : Byte} {sources : List StreamState} {target : StreamState}
    (hcmd : (cmd, code, sources, target) ∈ streamCommandTable) {s : State} {tag z1 z2 z3 : Byte}
    (hserving : Serving ⟨tag, 3#8, [code, z1, z2, z3]⟩ s) :
    ∃ t, exec cmd s = .next t ∧ FollowsTable ⟨tag, 3#8, [code, z1, z2, z3]⟩ sources target s t := by
  simp only [streamCommandTable, List.mem_cons, List.not_mem_nil, or_false, Prod.mk.injEq] at hcmd
  obtain ⟨rfl, rfl, rfl, rfl⟩ | ⟨rfl, rfl, rfl, rfl⟩ | ⟨rfl, rfl, rfl, rfl⟩ | ⟨rfl, rfl, rfl, rfl⟩ |
    ⟨rfl, rfl, rfl, rfl⟩ := hcmd
  · exact released_serve_followsTable (pass := id) hserving rfl nofun rfl fun _ => rfl
  · exact released_settle_serve_followsTable (pass := fun _ => passLeaveRun) hserving rfl nofun rfl
      fun _ => passLeaveRun_mu
  · obtain ⟨t, ht, htable⟩ := released_settle_serve_followsTable (row := .streamHalt) (sources := [.run, .pause])
      (target := .halt) hserving rfl nofun rfl passHalt_mu
    exact ⟨t, (execStreamHalt_eq s).trans ht, htable⟩
  · exact released_settle_serve_followsTable (pass := fun _ => id) hserving rfl nofun rfl fun _ _ => rfl
  · exact released_settle_serve_followsTable (pass := fun _ => passStandby) hserving rfl nofun rfl
      fun _ => passStandby_mu

/-! ## A code that names none of the five -/

theorem streamRow_eq_none {n : Nat} (h : n = 0 ∨ 5 < n) : streamRow n = none := by
  unfold streamRow
  split
  case h_6 => rfl
  all_goals omega

/-- A request whose code names nothing, arriving with nothing before it, is answered BAD_ARG at once (R155, R157). -/
theorem arriveRequest_of_row_none {r : Request} {s : State} (hrow : r.row = none) (hqueue : s.mu.queue = [])
    (hprogress : s.mu.inProgress = none) (hreplies : s.mu.replies.length < 4) (hstream : s.mu.stream ≠ .init) :
    arriveRequest r s = setQueue [] (placeReply r .badArg [] (setQueue [r] s)) := by
  have hroom : s.mu.queue.length < Config.requestQueueMax := by rw [hqueue]; decide
  have hstart : canStart (setQueue [r] s) = true := by simp [canStart, hprogress, Config.requestQueueMax, hreplies]
  have hstream' : (setQueue [r] s).mu.stream ≠ .init := hstream
  rw [arriveRequest, if_pos hroom, hqueue, startRequests, setQueue_mu]
  simp only [List.nil_append, startFrom, hstart, if_pos, if_neg hstream', hrow]

theorem receiving_of_up {s : State} (h : s.sl.state = .syncWait ∨ s.sl.state = .ready) : receiving s = true := by
  rw [receiving, (Link.up_iff s.sl).2 h, Bool.true_or]

/-- A request frame on a link that is up reaches MU (R150, R154). -/
theorem exec_requestFrame_of_up {s : State} (tag kind : Byte) (contents : List Byte) (hpin : s.su.resetLow = false)
    (hlink : s.sl.state = .syncWait ∨ s.sl.state = .ready) :
    exec (.requestFrame tag kind contents) s = .next (arriveRequest ⟨tag, kind, contents⟩ { s with sl := s.sl.heard }) := by
  refine (released_eq _ hpin).trans (congrArg _ ?_)
  rw [receiving_of_up hlink, onlyWhen_true]

/-- Settles O49: the commands' rows of the table, an unnamed code, the two ways between INIT and the other states, and step 6 of a
stream reset. -/
theorem streamCommandsFollowTheirTable : Obligations.StreamCommandsFollowTheirTable := by
  unfold Obligations.StreamCommandsFollowTheirTable
  refine ⟨fun _ _ _ _ hcmd _ _ _ _ _ => exec_followsTable hcmd, ?_, fun _ _ _ => exec_enters_init, ?_, ?_⟩
  · intro s tag code rest hpin hlink hqueue hprogress hreplies hstream hcode
    have hrow : Request.row ⟨tag, 3#8, code :: rest⟩ = none := streamRow_eq_none hcode
    refine ⟨_, exec_requestFrame_of_up tag _ _ hpin hlink, ?_⟩
    rw [arriveRequest_of_row_none (s := { s with sl := s.sl.heard }) hrow hqueue hprogress hreplies hstream]
    exact ⟨rfl, rfl, hprogress⟩
  · intro c s t h hs ht
    obtain ⟨⟨hphase, hstream⟩, hcmd⟩ := exec_leaves_init h hs ht
    exact ⟨hphase, hstream, hcmd⟩
  · intro s tag z1 z2 z3 hserving
    refine ⟨_, released_serve_of_serving hserving rfl nofun rfl, ?_⟩
    rw [finish_stream, streamReset_mu]

end Sys2Proof.Machine
end

section
/-! PROOFS. The start-up logic: which commands reach it and what each can do to it (R167, R176 to R179), and CONFIG_FAULT (R180). -/

namespace Sys2Proof.Machine

open Sys2Proof.Safety

/-! ## What leaves the start-up logic alone -/

section
variable {s t : State}

theorem eachChannel_su {f : ChannelId → State → State} (hf : ∀ c u, (f c u).su = u.su) : (eachChannel f s).su = s.su :=
  eachChannel_induct (P := fun u => u.su = s.su) f s rfl (fun c u hu => (hf c u).trans hu)

@[simp] theorem onChannel_su (f : Env → Engine → Engine) (c : ChannelId) : (onChannel f c s).su = s.su := rfl

@[simp] theorem eachChannel_onChannel_su (f : Env → Engine → Engine) : (eachChannel (onChannel f) s).su = s.su :=
  eachChannel_su fun c _ => onChannel_su f c

/-! ### Frames of the Acquisition Port -/

@[simp] theorem reportMissed_su (missed : Nat) (first : Word64) : (reportMissed missed first s).su = s.su := by
  refine eachChannel_su fun c u => ?_
  split <;> rfl

@[simp] theorem distribute_su (f : FrameParts) (frame : Word64) (boundary : Bool) :
    (distribute f frame boundary s).su = s.su := by
  refine eachChannel_su fun c u => ?_
  dsimp only
  split <;> rfl

@[simp] theorem takeBoundary_su (frame : Word64) : (takeBoundary frame s).su = s.su := rfl

/-- A frame reaches AP, TS, the channels and MK, and by what DS and the arbiters then do RM, DS and the planes. -/
@[simp] theorem takeFrame_su (framed : Bool) (words : List Word16) : (takeFrame framed words s).su = s.su := by
  cases hf : goodFrame s framed words with
  | none =>
    rw [takeFrame_of_bad hf, settle_su, takeBad]
    split
    · exact reportMissed_su _ _
    · rfl
  | some f =>
    rw [takeFrame_of_good hf, settle_su, takeGood, distribute_su]
    split_ifs <;> simp

@[simp] theorem portWord_su (w : PortWord) : (portWord s w).su = s.su := by
  have hstart : (startFrame s).su = s.su := by unfold startFrame; split <;> simp
  have hadd (u : State) : (addWord w u).su = u.su := by
    unfold addWord
    split
    · rfl
    · dsimp only
      split <;> simp
  rw [portWord, hadd]
  split
  · exact hstart
  · rfl

@[simp] theorem foldl_portWord_su (words : List PortWord) : (words.foldl portWord s).su = s.su := by
  induction words generalizing s with
  | nil => rfl
  | cons w words ih => rw [List.foldl_cons, ih, portWord_su]

/-! ### Table writes -/

@[simp] theorem writeSlotMap_su (no : Byte) (bs : List Byte) : (writeSlotMap no bs s).1.su = s.su := by
  unfold writeSlotMap; split <;> rfl

@[simp] theorem writeProfile_su (no : Byte) (bs : List Byte) : (writeProfile no bs s).1.su = s.su := by
  rw [writeProfile_eq]

@[simp] theorem writeChannel_su (no : Byte) (bs : List Byte) : (writeChannel no bs s).1.su = s.su := by
  unfold writeChannel; split <;> rfl

@[simp] theorem writeSettings_su (no : Byte) (bs : List Byte) : (writeSettings no bs s).1.su = s.su := by
  unfold writeSettings
  split
  · split <;> rfl
  · rfl

@[simp] theorem writeTable_su (table : Nat) (no : Byte) (bs : List Byte) : (writeTable table no bs s).1.su = s.su := by
  unfold writeTable; split <;> simp

/-! ### Requests and the stream reset -/

@[simp] theorem tableRead_su (r : Request) : (tableRead r s).1.su = s.su := by
  unfold tableRead; split <;> rfl

@[simp] theorem blockQuery_su (r : Request) : (blockQuery r s).1.su = s.su := by
  unfold blockQuery; dsimp only; split <;> rfl

@[simp] theorem channelCommand_su (f : Env → Engine → Engine × ReplyStatus) (r : Request) :
    (channelCommand f r s).1.su = s.su := by
  unfold channelCommand; split <;> rfl

/-- A stream command leaves the start-up logic alone when what it passes to the channels does. -/
theorem streamCommand_su {sources : List StreamState} {target : StreamState} {pass : State → State}
    (hpass : ∀ u, (pass u).su = u.su) : (streamCommand sources target pass s).1.su = s.su := by
  unfold streamCommand
  split
  · exact hpass _
  · rfl

@[simp] theorem passLeaveRun_su : (passLeaveRun s).su = s.su := eachChannel_onChannel_su _

@[simp] theorem passStandby_su : (passStandby s).su = s.su := eachChannel_onChannel_su _

@[simp] theorem passHalt_su (st : StreamState) : (passHalt st s).su = s.su := by
  unfold passHalt
  split
  · rfl
  · exact passLeaveRun_su

@[simp] theorem abortReview_su : (abortReview s).su = s.su := by
  unfold abortReview; split <;> rfl

/-- A stream reset does not reach the start-up logic (R165). -/
@[simp] theorem streamReset_su : (streamReset s).su = s.su := by
  obtain ⟨_, _, -, harrivals⟩ := takeArrivals_hold (resetChannels s) rfl
  calc (streamReset s).su = (takeArrivals (resetChannels s)).su := rfl
    _ = (resetChannels s).su := by rw [harrivals]
    _ = s.su := abortReview_su

/-! ### The link and the Review Port -/

@[simp] theorem linkDown_su : (linkDown s).su = s.su := rfl

@[simp] theorem startFrameOf_su : (startFrameOf s).su = s.su := by
  unfold startFrameOf startMarkOrLower startDataOrFill
  repeat' split
  all_goals rfl

@[simp] theorem replySent_su : (replySent s).su = s.su := startRequests_su _

@[simp] theorem markSent_su : (markSent s).su = s.su := by
  rw [markSent, eachChannel_onChannel_su]

@[simp] theorem answerRead_su (b : BlockId) (bs : List Byte) : (answerRead b bs s).su = s.su := by
  unfold answerRead; split <;> rfl

@[simp] theorem locate_su (channel run : Byte) (index : Word64) : (locate channel run index s).su = s.su := by
  unfold locate
  split
  · split <;> rfl
  · rfl

@[simp] theorem scanStep_su : (scanStep s).su = s.su := by
  unfold scanStep
  split
  · split_ifs <;> rfl
  · rfl

@[simp] theorem pin_su (b : Word16) : (pin b s).su = s.su := by
  unfold pin; split_ifs <;> rfl

@[simp] theorem unpin_su (b : Word16) : (unpin b s).su = s.su := by
  unfold unpin; split_ifs <;> rfl

@[simp] theorem read_su (b : Word16) (off : Word32) (len : Word16) : (read b off len s).su = s.su := by
  have hcheck (off len : Nat) : (checkRead b off len s).su = s.su := by
    unfold checkRead
    dsimp only
    split_ifs
    · rfl
    · rfl
    · rw [grants_su, claimReview_su]
  unfold read
  split_ifs
  · rfl
  · rfl
  · exact hcheck _ _

@[simp] theorem describe_su (b : Word16) : (describe b s).su = s.su := by
  unfold describe; split_ifs <;> rfl

/-! ### Guards -/

theorem released_su {f : State → State} (h : released s f = .next t) (hf : (f s).su = s.su) : t.su = s.su := by
  obtain ⟨-, rfl⟩ | ⟨-, rfl⟩ := released_cases h
  · exact hf
  · rfl

/-- A guarded event that occurs in some states only. -/
theorem released_onlyWhen_su {b : Bool} {f : State → State} (h : released s (onlyWhen b f) = .next t)
    (hf : (f s).su = s.su) : t.su = s.su := by
  refine released_su h ?_
  obtain ⟨-, hw⟩ | ⟨-, hw⟩ := onlyWhen_cases b f s
  · rw [hw, hf]
  · rw [hw]

/-- A row leaves the start-up logic alone when its meaning does. -/
theorem serve_su {row : RequestRow} {run : Request → State → Served} (hrun : ∀ r, (run r s).1.su = s.su) :
    (serve row run s).su = s.su := by
  obtain ⟨-, h⟩ | ⟨r, -, h⟩ := serve_cases row run s
  · rw [h]
  · rw [h, finish_su]
    obtain hj | hj := judged_cases row r (run r) s
    · rw [hj]
    · rw [hj, hrun r]

theorem released_serve_su {row : RequestRow} {run : Request → State → Served} (h : released s (serve row run) = .next t)
    (hrun : ∀ r, (run r s).1.su = s.su) : t.su = s.su :=
  released_su h (serve_su hrun)

/-- A row after which DS and the arbiters act. -/
theorem released_settle_serve_su {row : RequestRow} {run : Request → State → Served}
    (h : released s (fun u => settle (serve row run u)) = .next t) (hrun : ∀ r, (run r s).1.su = s.su) : t.su = s.su :=
  released_su h ((settle_su _).trans (serve_su hrun))

/-- The end of an access leaves the start-up logic alone when the report of it does. -/
theorem accessEnd_su {u : State} {ok : Bool} {x : Fault}
    (h : (if s.su.resetLow then .next s else if ok then .next (settle u) else .fault x : Answer) = .next t)
    (hu : u.su = s.su) : t.su = s.su := by
  obtain ht | ht := accessEnd_cases h
  · rw [ht]
  · rw [ht, settle_su, hu]

end

/-! ## What a command can do to the start-up logic -/

/-- The moves of the start-up logic: a command leaves it, or is one of the events of chapter 11. -/
inductive StartUpMove (c : Instr) (s t : State) : Prop where
  | kept (h : t.su = s.su)
  | pinFalls (hc : c = .resetPinLow) (h : t.su = { s.su with resetLow := true })
  /-- The fourth plane has reported, and the settle timer starts (R176). -/
  | lastReport (hphase : s.su.phase = .planeWait) (hplanes : allReported t.planes = true)
      (h : t.su = { s.su with phase := .settle, settleTimer := some Config.settleMs })
  /-- The settle timer expires: the flash read begins when the straps have it, otherwise start-up ends (R176). -/
  | settled (hc : c = .settleTimerExpiry) (hphase : s.su.phase = .settle)
      (h : t.su = { s.su with phase := if readsFlash s.su.mode then .flashLoad else .done, settleTimer := none })
  /-- The flash read ends, with a failed image, a skipped entry or neither (R177, R178, R179). -/
  | loaded (image : Option (List Byte)) (hc : c = .flashReadComplete image) (hphase : s.su.phase = .flashLoad) (bad : Bool)
      (h : t.su = { s.su with phase := .done, settleTimer := none, configFault := s.su.configFault || bad })
  | reset (straps : BitVec 2) (hc : c = .deviceReset straps ∨ c = .resetDevice straps)
      (h : t.su = StartUp.reset (modeOf straps))

/-! ### The end of start-up and the flash image -/

@[simp] theorem endStartUp_su (valid : Bool) (s : State) :
    (endStartUp valid s).su = { s.su with phase := .done, settleTimer := none } := by
  unfold endStartUp
  rw [startRequests_su]
  split <;> rfl

theorem settleEnds_su (s : State) :
    (settleEnds s).su = { s.su with phase := if readsFlash s.su.mode then .flashLoad else .done, settleTimer := none } := by
  unfold settleEnds
  split
  · rfl
  · exact endStartUp_su false s

/-- A refused entry sets CONFIG_FAULT, and that is all an entry does to the start-up logic (R178). -/
theorem applyEntry_su (s : State) (e : FlashEntry) : (applyEntry s e).su =
    { s.su with configFault := s.su.configFault || decide ((writeTable e.table e.number e.payload s).2 ≠ .ok) } := by
  unfold applyEntry
  dsimp only
  split
  · next hok => simp [hok]
  · next hskip => simp [hskip]

/-- Entries applied one after another only ever set CONFIG_FAULT (R178). -/
theorem foldl_applyEntry_su (es : List FlashEntry) (s : State) :
    ∃ skipped, (es.foldl applyEntry s).su = { s.su with configFault := s.su.configFault || skipped } := by
  induction es generalizing s with
  | nil => exact ⟨false, by simp⟩
  | cons e es ih =>
    obtain ⟨skipped, h⟩ := ih (applyEntry s e)
    refine ⟨decide ((writeTable e.table e.number e.payload s).2 ≠ .ok) || skipped, h.trans ?_⟩
    rw [applyEntry_su, Bool.or_assoc]

/-- An image with a refused entry leaves CONFIG_FAULT set, whatever stands before and behind that entry (R178). -/
theorem foldl_applyEntry_of_refused {done rest : List FlashEntry} {e : FlashEntry} {s : State}
    (h : (writeTable e.table e.number e.payload (done.foldl applyEntry s)).2 ≠ .ok) :
    ((done ++ e :: rest).foldl applyEntry s).su.configFault = true := by
  obtain ⟨skipped, hrest⟩ := foldl_applyEntry_su rest (applyEntry (done.foldl applyEntry s) e)
  rw [List.foldl_append, List.foldl_cons, hrest, applyEntry_su]
  simp [h]

theorem loadImage_of_failed {image : Option (List Byte)} (h : image.bind judgeImage = none) (s : State) :
    loadImage image s = imageFails s := by
  simp only [loadImage, h]

theorem loadImage_of_judged {image : Option (List Byte)} {es : List FlashEntry} (h : image.bind judgeImage = some es)
    (s : State) : loadImage image s = endStartUp true (es.foldl applyEntry s) := by
  simp only [loadImage, h]

theorem loadImage_su (image : Option (List Byte)) (s : State) : ∃ bad, (loadImage image s).su =
    { s.su with phase := .done, settleTimer := none, configFault := s.su.configFault || bad } := by
  cases himage : image.bind judgeImage with
  | none => exact ⟨true, by rw [loadImage_of_failed himage, imageFails, endStartUp_su, Bool.or_true]⟩
  | some es =>
    obtain ⟨skipped, h⟩ := foldl_applyEntry_su es s
    exact ⟨skipped, by rw [loadImage_of_judged himage, endStartUp_su, h]⟩

/-! ### Each command's move -/

section
variable {c : Instr} {s t : State}

/-- A plane's report is noted: the settle timer starts or nothing happens (R176). -/
theorem startUpMove_noteReport {u : State} (hu : u.su = s.su) : StartUpMove c s (noteReport u) := by
  unfold noteReport
  split
  · next hlast =>
    obtain ⟨hphase, hplanes⟩ := hlast
    exact .lastReport (by rw [← hu, hphase]) hplanes (by rw [hu])
  · exact .kept hu

/-- A guarded event that occurs in some states only moves the start-up logic as its effect does there. -/
theorem released_onlyWhen_startUpMove {b : Bool} {f : State → State} (h : released s (onlyWhen b f) = .next t)
    (hf : b = true → StartUpMove c s (f s)) : StartUpMove c s t := by
  obtain ⟨-, rfl⟩ | ⟨-, rfl⟩ := released_cases h
  · obtain ⟨hb, hw⟩ | ⟨-, hw⟩ := onlyWhen_cases b f s
    · rw [hw]; exact hf hb
    · rw [hw]; exact .kept rfl
  · exact .kept rfl

theorem execPlaneInitEnd_startUpMove {p : PlaneId} {ready : Bool} (h : execPlaneInitEnd p ready s = .next t) :
    StartUpMove c s t :=
  released_onlyWhen_startUpMove h fun _ => startUpMove_noteReport (by cases ready <;> rfl)

theorem execSettleTimerExpiry_startUpMove (h : execSettleTimerExpiry s = .next t) : StartUpMove .settleTimerExpiry s t := by
  refine released_onlyWhen_startUpMove h fun hsettling => ?_
  rw [Bool.and_eq_true, decide_eq_true_iff] at hsettling
  obtain ⟨hphase, -⟩ := hsettling
  exact .settled rfl hphase (settleEnds_su s)

theorem execFlashReadComplete_startUpMove {image : Option (List Byte)} (h : execFlashReadComplete image s = .next t) :
    StartUpMove (.flashReadComplete image) s t := by
  refine released_onlyWhen_startUpMove h fun hphase => ?_
  obtain ⟨bad, hsu⟩ := loadImage_su image s
  exact .loaded image rfl (of_decide_eq_true hphase) bad hsu

theorem deviceReset_su (straps : BitVec 2) (s : State) : (deviceReset straps s).su = StartUp.reset (modeOf straps) := rfl

/-- A RESET request with scope DEVICE resets the part, or is answered (R157, R167). -/
theorem execResetDevice_startUpMove {straps : BitVec 2} (h : execResetDevice straps s = .next t) :
    StartUpMove (.resetDevice straps) s t := by
  obtain ⟨-, rfl⟩ | ⟨-, rfl⟩ := released_cases h
  · unfold serveDeviceReset
    split
    · exact .kept rfl
    · split_ifs
      · exact .kept (finish_su ..)
      · exact .reset straps (.inr rfl) (deviceReset_su straps s)
      · exact .kept (finish_su ..)
  · exact .kept rfl

theorem execHalfLoadComplete_su {p : PlaneId} (h : execHalfLoadComplete p s = .next t) : t.su = s.su := by
  unfold execHalfLoadComplete at h
  split at h
  · exact accessEnd_su h rfl
  · cases h; rfl

theorem execTrainingAttemptComplete_su {aligned : BitVec 4} (h : execTrainingAttemptComplete aligned s = .next t) :
    t.su = s.su := by
  refine released_onlyWhen_su h ?_
  split <;> rfl

theorem execStreamHalt_su (h : execStreamHalt s = .next t) : t.su = s.su :=
  released_settle_serve_su ((execStreamHalt_eq s).symm.trans h) fun _ => streamCommand_su fun _ => passHalt_su _

/-- Every command moves the start-up logic in one of these ways. -/
theorem exec_startUpMove (h : exec c s = .next t) : StartUpMove c s t := by
  cases c with
  | planeInitEnd p ready => exact execPlaneInitEnd_startUpMove h
  | planeInitTimeout p => exact released_onlyWhen_startUpMove h fun _ => startUpMove_noteReport rfl
  | settleTimerExpiry => exact execSettleTimerExpiry_startUpMove h
  | flashReadComplete image => exact execFlashReadComplete_startUpMove h
  | deviceReset straps => cases h; exact .reset straps (.inl rfl) (deviceReset_su straps s)
  | resetDevice straps => exact execResetDevice_startUpMove h
  | resetPinLow => cases h; exact .pinFalls rfl rfl
  | headerWriteComplete | payloadWriteComplete | reviewReadComplete =>
    simp only [exec, execHeaderWriteComplete, execPayloadWriteComplete, execReviewReadComplete] at h
    split at h
    · exact .kept (accessEnd_su h (by split <;> simp))
    · cases h; exact .kept rfl
  | halfLoadComplete p => exact .kept (execHalfLoadComplete_su h)
  | helloFrameEnd | replyFrameEnd | dataFrameEnd | fillFrameEnd =>
    simp only [exec, execHelloFrameEnd, execReplyFrameEnd, execDataFrameEnd, execFillFrameEnd] at h
    split at h
    · exact .kept (released_su h (by simp))
    · cases h; exact .kept rfl
  | markFrameEnd =>
    simp only [exec, execMarkFrameEnd] at h
    split at h
    · exact .kept (released_su h (by split <;> simp))
    · cases h; exact .kept rfl
  | trainingAttemptComplete => exact .kept (execTrainingAttemptComplete_su h)
  | sealAgeTimerExpiry | refreshComplete | refreshTick | laneAlignmentLoss | receiveSilenceTimeout | trainingAttemptFailed
  | trainingAttemptTimeout | helloTimerExpiry | forwardFrameStart | flowFrame | requestFrame | returnFillFrame
  | returnFrameRejected => exact .kept (released_onlyWhen_su h (by simp))
  | tableWriteSlotMap | tableWriteProfile | tableWriteChannel => exact .kept (released_serve_su h fun _ => by simp [tableWrite])
  | tableWriteSettings => exact .kept (released_settle_serve_su h fun _ => writeSettings_su _ _)
  | streamRun => exact .kept (released_serve_su h fun _ => streamCommand_su fun _ => rfl)
  | streamPause => exact .kept (released_settle_serve_su h fun _ => streamCommand_su fun _ => passLeaveRun_su)
  | streamHalt => exact .kept (execStreamHalt_su h)
  | streamResume => exact .kept (released_settle_serve_su h fun _ => streamCommand_su fun _ => rfl)
  | streamStandby => exact .kept (released_settle_serve_su h fun _ => streamCommand_su fun _ => passStandby_su)
  | channelStop | channelFlush => exact .kept (released_settle_serve_su h (channelCommand_su _))
  | channelStart => exact .kept (released_serve_su h (channelCommand_su _))
  | tableRead | blockQuery | statusQuery | forceBoundary | resetStream | unknownRequestKind =>
    exact .kept (released_serve_su h fun _ => by simp [statusQuery, forceBoundary])
  | acquisitionFrame words => exact .kept (released_su (f := fun u => words.foldl portWord u) h (foldl_portWord_su words))
  | locate | locateScanStep | pin | unpin | read | describe | unknownReviewKind =>
    exact .kept (released_su h (by simp [unknownReview]))

end

/-! ## CONFIG_FAULT and the start-up logic's values (R180) -/

section
variable {c : Instr} {s t : State}

/-- Only a device reset clears CONFIG_FAULT. -/
theorem exec_configFault_cleared (h : exec c s = .next t) (hs : s.su.configFault = true) (ht : t.su.configFault = false) :
    ∃ straps, c = .deviceReset straps ∨ c = .resetDevice straps := by
  cases exec_startUpMove h with
  | reset straps hc => exact ⟨straps, hc⟩
  | kept hsu | pinFalls _ hsu | lastReport _ _ hsu | settled _ _ hsu | loaded _ _ _ _ hsu => simp [hsu, hs] at ht

/-- Only the end of the flash read sets CONFIG_FAULT. -/
theorem exec_configFault_set (h : exec c s = .next t) (hs : s.su.configFault = false) (ht : t.su.configFault = true) :
    s.su.phase = .flashLoad ∧ ∃ image, c = .flashReadComplete image := by
  cases exec_startUpMove h with
  | loaded image hc hphase => exact ⟨hphase, image, hc⟩
  | kept hsu | pinFalls _ hsu | lastReport _ _ hsu | settled _ _ hsu | reset _ _ hsu => simp [hsu, hs, StartUp.reset] at ht

/-- The settle timer starts only as the last plane reports (R176). -/
theorem exec_settleTimer_started (h : exec c s = .next t) (hs : s.su.settleTimer = none) (ht : t.su.settleTimer ≠ none) :
    t.su.settleTimer = some 1 ∧ t.su.phase = .settle ∧ ∀ p : PlaneId, (t.planes[p]).state ≠ .initialising := by
  cases exec_startUpMove h with
  | lastReport _ hplanes hsu =>
    refine ⟨by rw [hsu]; rfl, by rw [hsu], fun p => ?_⟩
    exact of_decide_eq_true (List.all_eq_true.mp hplanes p (by fin_cases p <;> simp))
  | kept hsu | pinFalls _ hsu | settled _ _ hsu | loaded _ _ _ _ hsu | reset _ _ hsu => simp [hsu, hs, StartUp.reset] at ht

/-- In LINK and HOLD the flash read does not begin (R176). -/
theorem exec_flashLoad_not_begun (h : exec c s = .next t) (hmode : s.su.mode = .link ∨ s.su.mode = .hold)
    (hs : s.su.phase ≠ .flashLoad) : t.su.phase ≠ .flashLoad := by
  have hflash : readsFlash s.su.mode = false := by obtain hm | hm := hmode <;> rw [hm] <;> rfl
  cases exec_startUpMove h with
  | kept hsu | pinFalls _ hsu | lastReport _ _ hsu | settled _ _ hsu | loaded _ _ _ _ hsu | reset _ _ hsu =>
    simp [hsu, hs, hflash, StartUp.reset]

theorem exec_flashReadComplete_eq (image : Option (List Byte)) (hpin : s.su.resetLow = false)
    (hphase : s.su.phase = .flashLoad) : exec (.flashReadComplete image) s = .next (loadImage image s) := by
  refine (released_eq _ hpin).trans (congrArg _ ?_)
  rw [decide_eq_true hphase, onlyWhen_true]

/-- A status query reports CONFIG_FAULT and does not reach the start-up logic. -/
theorem statusQuery_reads_configFault {tag : Byte} (h : Serving ⟨tag, 6#8, []⟩ s) :
    ∃ t bs, exec .statusQuery s = .next t ∧ Answered ⟨tag, 6#8, []⟩ .ok bs s t ∧
      (byteAt bs 60).getLsbD 1 = s.su.configFault ∧ t.su = s.su := by
  refine ⟨_, statusRecord s, execStatusQuery_of_serving h, finish_answered _ (statusQuery ⟨tag, 6#8, []⟩ s), ?_,
    finish_su ..⟩
  rw [byteAt_statusRecord_60]
  cases s.ap.tagResync <;> cases s.su.configFault <;> rfl

end

/-- The four strap values and the modes they name (R176). -/
theorem modeOf_eq (straps : BitVec 2) : modeOf straps =
    if straps = 0#2 then .link else if straps = 1#2 then .flash else if straps = 2#2 then .flashRun else .hold := by
  revert straps; decide

/-- Settles O12: what only some commands can do by the moves of the start-up logic, and what a command does by its meaning. -/
theorem configFaultStaysUntilDeviceReset : Obligations.ConfigFaultStaysUntilDeviceReset := by
  unfold Obligations.ConfigFaultStaysUntilDeviceReset
  refine ⟨fun _ _ _ => exec_configFault_cleared, fun _ _ _ => exec_configFault_set, fun s hpin hphase => ⟨?_, ?_⟩,
    fun _ _ => statusQuery_reads_configFault, fun s t h => released_serve_su h fun _ => streamReset_su,
    fun s straps => ⟨_, rfl, rfl, rfl, rfl, modeOf_eq straps⟩, fun _ _ _ => exec_settleTimer_started,
    fun _ _ _ => exec_flashLoad_not_begun⟩
  · intro image hfailed
    refine ⟨_, exec_flashReadComplete_eq image hpin hphase, ?_⟩
    rw [loadImage_of_failed hfailed, imageFails, endStartUp_su]
  · intro image done rest e hjudged hrefused
    refine ⟨_, exec_flashReadComplete_eq (some image) hpin hphase, ?_⟩
    rw [loadImage_of_judged (image := some image) hjudged, endStartUp_su]
    exact foldl_applyEntry_of_refused hrefused

end Sys2Proof.Machine
end

section
/-! PROOFS. What a step can do: every command's meaning is a chain of a few moves, so that a property every move keeps is kept
by every step. -/

namespace Sys2Proof.Machine

open Sys2Proof.Safety

/-! ## The moves -/

/-- The events a channel takes, with the command and the stream state they come under: a START comes by its command, outside INIT. -/
inductive ChannelEvent (c : Instr) (st : StreamState) : (Env → Engine → Engine) → Prop where
  | deliver (d : Delivery) : ChannelEvent c st (fun v e => deliver v d e)
  | missed (n frame : Word64) : ChannelEvent c st (fun v e => missedReport v n frame e)
  | leaveRun : ChannelEvent c st leaveRun
  | standby : ChannelEvent c st takeStandby
  | start (hc : c = .channelStart) (hst : st ≠ .init) : ChannelEvent c st (fun v e => (startChannel v e).1)
  | stop : ChannelEvent c st (fun v e => (stopChannel v e).1)
  | flush : ChannelEvent c st (fun v e => (flushChannel v e).1)
  | sealAge : ChannelEvent c st (fun v e => sealAgeExpiry v e)
  | offerAgain : ChannelEvent c st offerAgain

/-- The commands that write capture memory (R99, R105). -/
def WritesMemory (c : Instr) : Prop :=
  (∃ p, c = .headerWriteComplete p) ∨ (∃ p, c = .payloadWriteComplete p) ∨ ∃ p ready, c = .planeInitEnd p ready

/-- The commands that take the link from one state to another without a device reset (R137 to R142, R151, R152). -/
def ChangesLink (c : Instr) : Prop :=
  (∃ aligned, c = .trainingAttemptComplete aligned) ∨ (∃ lane, c = .laneAlignmentLoss lane) ∨ c = .receiveSilenceTimeout ∨
  (∃ g m, c = .flowFrame g m) ∨ c = .resetPinLow ∨ c = .resetStream

/-- A change of a plane that leaves its state and PLANE_FAULT, the owed count in its range, and REFRESH_LAPSE but for a query. -/
def PlaneKept (c : Instr) (a b : Plane) : Prop :=
  b.state = a.state ∧ b.fault = a.fault ∧ (a.owed ≤ 8 → b.owed ≤ 8) ∧ (a.lapse = true → b.lapse = true ∨ c = .statusQuery)

/-- MU's queues within their ranges (R154, R155). -/
def Management.within (m : Management) : Prop :=
  m.queue.length ≤ 4 ∧ m.replies.length ≤ 4 ∧ (m.inProgress.isSome → m.replies.length ≤ 3)

/-- The Mark Queue and the skipped count within their ranges (R128, R131). -/
def MarkUnit.within (m : MarkUnit) : Prop := m.queue.length ≤ 64 ∧ m.skip ≤ 65535

/-- What a claim or a frame start keeps of a slot entry. -/
def SlotEntry.identity (e : SlotEntry) : BlockId × Word32 × Bool × Bool := (e.block, e.seq, e.covered, e.resend)

/-- The channels, RM and DS at a stream reset, in one action (R42, R93, R127). -/
def captureReset (ps : Vector Plane 4) (s : State) : State :=
  { s with chans := mapV Channel.streamReset s.chans, rm := s.rm.streamReset s.ts.settings, ds := s.ds.streamReset ps }

/-- The end of start-up before MU tests for a start (R179). -/
def startUpOver (run : Bool) (s : State) : State :=
  { s with su := { s.su with phase := .done, settleTimer := none }
           chans := if run then autostart s.ts s.chans else s.chans
           mu := { s.mu with stream := if run then .run else .standby } }

/-- One move of the part under command `c`. -/
inductive Move (c : Instr) : State → State → Prop where
  | port (s : State) (a : AcquisitionPort) : Move c s { s with ap := a }
  | order (s : State) : Move c s (dropOrder s)
  | event (s : State) (k : ChannelId) (f : Env → Engine → Engine) (hf : ChannelEvent c s.mu.stream f) : Move c s (onChannel f k s)
  | tables (s : State) (x : TableStore) (h : x.settings.planeMask = s.ts.settings.planeMask) : Move c s { s with ts := x }
  | settings (s : State) (new : Settings)
      (h : new.planeMask = s.ts.settings.planeMask ∨ maskAllowed new.planeMask s = true) : Move c s (applySettings new s)
  | select (s : State) (allowed : Bool) (w : Vector Nat 4) :
      Move c s { s with ds := (selectOnce allowed w (s.ds, s.rm)).1, rm := (selectOnce allowed w (s.ds, s.rm)).2 }
  | slot (s : State) (l : List SlotEntry) (hs : Vector Half 2)
      (h : l.map SlotEntry.identity = s.ds.slot.map SlotEntry.identity) :
      Move c s { s with ds := { s.ds with slot := l, halves := hs } }
  | planes (s : State) (ps : Vector Plane 4) (h : ∀ p : PlaneId, PlaneKept c s.planes[p] ps[p]) : Move c s { s with planes := ps }
  | memory (s : State) (m : List Host.Cell) (hc : WritesMemory c) (h : Memory.wf s.mem = true → Memory.wf m = true) :
      Move c s { s with mem := m }
  | headerWritten (s : State) (k : ChannelId) (b : BlockId) : Move c s (headerWritten k b s)
  | payloadWritten (s : State) (k : ChannelId) (b : BlockId) (n : Nat) : Move c s (payloadWritten k b n s)
  | planeReady (s : State) (p : PlaneId) (hc : WritesMemory c) (h : (s.planes[p]).state = .initialising) :
      Move c s (planeReady p s)
  | planeFaulty (s : State) (p : PlaneId) (h : (s.planes[p]).state = .initialising) : Move c s (planeFaulty p s)
  | startUp (s : State) (u : StartUp) (h : u.phase = .done ↔ s.su.phase = .done) : Move c s { s with su := u }
  | requests (s : State) (m : Management) (h : s.mu.within → m.within) (hi : m.stream = .init ↔ s.mu.stream = .init) :
      Move c s { s with mu := m }
  | link (s : State) (l : Link) (h : s.sl.rejected ≤ 65535 → l.rejected ≤ 65535) (hs : l.state = s.sl.state ∨ ChangesLink c) :
      Move c s { s with sl := l }
  | marks (s : State) (m : MarkUnit) (h : s.marks.within → m.within) : Move c s { s with marks := m }
  | review (s : State) (r : ReviewPort) (n : Nat) (l : List ReviewCall) :
      Move c s { s with rp := r, fresh := n, resetArrivals := l }
  | pin (s : State) (b : BlockId) : Move c s { s with rm := (s.rm.pin b).2 }
  | unpin (s : State) (b : BlockId) : Move c s { s with rm := (s.rm.unpin s.ts.settings b).2 }
  | flow (s : State) (g a : Word32) : Move c s (flowTaken g a s)
  | dataSent (s : State) (h : Fin 2) : Move c s (dataSent h s)
  | drainDown (s : State) : Move c s s.drainDown
  | startUpOver (s : State) (run : Bool) (h : s.su.phase ≠ .done) (hr : run = true → ∃ image, c = .flashReadComplete image) :
      Move c s (startUpOver run s)
  | deviceReset (s : State) (straps : BitVec 2) (hc : c = .deviceReset straps ∨ c = .resetDevice straps) :
      Move c s (deviceReset straps s)
  | captureReset (s : State) (ps : Vector Plane 4) (h : s.mu.stream ≠ .init) : Move c s (captureReset ps s)

/-- A chain of moves. -/
abbrev Moves (c : Instr) : State → State → Prop := Relation.ReflTransGen (Move c)

/-- A property every move keeps is kept by a chain. -/
theorem Moves.keep {c : Instr} {P : State → Prop} (hP : ∀ s t, Move c s t → P s → P t) {s t : State} (h : Moves c s t)
    (hs : P s) : P t := by
  induction h with
  | refl => exact hs
  | tail _ hm ih => exact hP _ _ hm ih

/-- A reflexive and transitive relation that holds of every move holds of a chain. -/
theorem Moves.rel {c : Instr} {R : State → State → Prop} (hrefl : ∀ s, R s s) (htrans : ∀ s t u, R s t → R t u → R s u)
    (hR : ∀ s t, Move c s t → R s t) {s t : State} (h : Moves c s t) : R s t := by
  induction h with
  | refl => exact hrefl s
  | tail _ hm ih => exact htrans _ _ _ ih (hR _ _ hm)

theorem Move.moves {c : Instr} {s t : State} (h : Move c s t) : Moves c s t := .single h

end Sys2Proof.Machine
end

section
/-! PROOFS. Every command's meaning is a chain of moves. -/

namespace Sys2Proof.Machine

open Sys2Proof.Safety

section
variable {c : Instr} {s t u : State}

/-! ## Planes -/

theorem PlaneKept.refl (pl : Plane) : PlaneKept c pl pl := ⟨rfl, rfl, id, .inl⟩

theorem planeKept_put {p : PlaneId} {ps : Vector Plane 4} {pl : Plane} (h : PlaneKept c ps[p] pl) (q : PlaneId) :
    PlaneKept c ps[q] (put ps p pl)[q] := by
  by_cases hq : p = q
  · subst hq; rwa [get_put_self]
  · rw [get_put_ne _ _ hq]; exact .refl _

/-- A change of one plane's port, claims, pointer or owed count. -/
theorem moves_plane {p : PlaneId} {pl : Plane} (h : PlaneKept c s.planes[p] pl) :
    Moves c s { s with planes := put s.planes p pl } :=
  (Move.planes s _ (planeKept_put h)).moves

theorem moves_freePort (p : PlaneId) : Moves c s (freePort p s) := moves_plane ⟨rfl, rfl, id, .inl⟩

theorem planeKept_grantIntake (x : ChannelId × Access) (pl : Plane) : PlaneKept c pl (pl.grantIntake x) := ⟨rfl, rfl, id, .inl⟩

theorem planeKept_grantRefresh (pl : Plane) : PlaneKept c pl pl.grantRefresh :=
  ⟨rfl, rfl, fun h => (Nat.sub_le _ _).trans h, .inl⟩

theorem planeKept_grantLow (s : State) (p : PlaneId) : PlaneKept c s.planes[p] (grantLow s p) := by
  unfold grantLow
  split
  · exact planeKept_grantIntake _ _
  · split
    · exact planeKept_grantRefresh _
    · exact .refl _

theorem planeKept_grantOrder (s : State) (p : PlaneId) : PlaneKept c s.planes[p] (grantOrder s p) := by
  unfold grantOrder grantReads
  split
  · exact planeKept_grantRefresh _
  · split
    · exact planeKept_grantIntake _ _
    · dsimp only
      split
      · exact ⟨rfl, rfl, id, .inl⟩
      · split
        · exact ⟨rfl, rfl, id, .inl⟩
        · exact planeKept_grantLow s p

theorem moves_grant (p : PlaneId) : Moves c s (grant p s) := by
  unfold grant
  split
  · exact moves_plane (planeKept_grantOrder s p)
  · exact .refl

theorem moves_grants : Moves c s (grants s) :=
  (((moves_grant 0).trans (moves_grant 1)).trans (moves_grant 2)).trans (moves_grant 3)

theorem planeKept_tickPlane (pl : Plane) : PlaneKept c pl (tickPlane pl) := by
  unfold tickPlane
  split
  · next h => exact ⟨rfl, rfl, fun _ => h, .inl⟩
  · exact ⟨rfl, rfl, id, fun _ => .inl rfl⟩

/-- The same change of every plane. -/
theorem moves_mapPlanes (f : Plane → Plane) (hf : ∀ pl, PlaneKept c pl (f pl)) :
    Moves c s { s with planes := mapV f s.planes } := by
  refine (Move.planes s _ fun p => ?_).moves
  have hget : (mapV f s.planes)[p] = f s.planes[p] := get_mapV f s.planes p p.isLt
  rw [hget]
  exact hf _

theorem moves_withdrawLoads : Moves c s { s with planes := withdrawLoads s.planes } :=
  moves_mapPlanes _ fun _ => ⟨rfl, rfl, id, .inl⟩

/-! ## What DS and the arbiters do of their own -/

theorem identity_claimNext {rm : Ring} {l l' : List SlotEntry} {e : SlotEntry} (h : claimNext rm l = some (e, l')) :
    l'.map SlotEntry.identity = l.map SlotEntry.identity := by
  have := congrArg (List.map (fun x : BlockId × Word32 × Bool × Bool × Nat => (x.1, x.2.1, x.2.2.1, x.2.2.2.1))) (claimNext_map h)
  rw [List.map_map, List.map_map] at this
  exact this

theorem moves_slot (l : List SlotEntry) (hs : Vector Half 2) (h : l.map SlotEntry.identity = s.ds.slot.map SlotEntry.identity) :
    Moves c s { s with ds := { s.ds with slot := l, halves := hs } } := (Move.slot s l hs h).moves

theorem moves_claimLoad (h : Fin 2) : Moves c s (claimLoad h s) := by
  unfold claimLoad
  split
  · split
    · exact .refl
    · next e l he =>
      exact (moves_slot l _ (identity_claimNext he)).trans (moves_plane ⟨rfl, rfl, id, .inl⟩)
  · exact .refl

theorem moves_selectBlocks : Moves c s (selectBlocks s) :=
  Relation.ReflTransGen.trans (Move.select s s.selectionAllowed s.ts.settings.weights).moves
    (Move.select { s with ds := _, rm := _ } s.selectionAllowed s.ts.settings.weights).moves

theorem moves_settle : Moves c s (settle s) :=
  ((moves_selectBlocks.trans (moves_claimLoad 0)).trans (moves_claimLoad 1)).trans moves_grants

theorem moves_settle_of (h : Moves c s t) : Moves c s (settle t) := h.trans moves_settle

/-! ## Events of the channels -/

theorem moves_eachChannel {f : ChannelId → State → State} (hf : ∀ k t, Moves c t (f k t)) : Moves c s (eachChannel f s) :=
  eachChannel_induct (P := Moves c s) f s (Move.order s).moves fun k t ht => ht.trans (hf k t)

theorem moves_event {f : Env → Engine → Engine} (hf : ChannelEvent c s.mu.stream f) (k : ChannelId) :
    Moves c s (onChannel f k s) := (Move.event s k f hf).moves

theorem moves_reportMissed (missed : Nat) (first : Word64) : Moves c s (reportMissed missed first s) :=
  moves_eachChannel fun k t => by
    split
    · exact .refl
    · exact moves_event (.missed _ _) k

theorem moves_distribute (f : FrameParts) (frame : Word64) (boundary : Bool) : Moves c s (distribute f frame boundary s) :=
  moves_eachChannel fun k t => by
    dsimp only
    split
    · exact .refl
    · exact moves_event (.deliver _) k

/-! ## The Acquisition Port -/

theorem moves_tables {x : TableStore} (h : x.settings.planeMask = s.ts.settings.planeMask) : Moves c s { s with ts := x } :=
  (Move.tables s x h).moves

theorem moves_ap (a : AcquisitionPort) : Moves c s { s with ap := a } := (Move.port s a).moves

theorem within_sweepRequest (sweep : Word32) (frame : Word64) {m : MarkUnit} (h : m.within) :
    (m.sweepRequest sweep frame).within := by
  obtain ⟨hq, hs⟩ := h
  unfold MarkUnit.sweepRequest countUp
  split
  · next hroom => exact ⟨by simpa [Config.markQueueMax] using hroom, Nat.zero_le _⟩
  · refine ⟨hq, ?_⟩
    change (if m.skip < 65535 then m.skip + 1 else m.skip) ≤ 65535
    split_ifs <;> omega

theorem moves_takeBoundary (frame : Word64) : Moves c s (takeBoundary frame s) := by
  refine (moves_ap { s.ap with sweepCounter := s.ap.sweepCounter + 1#32 }).trans ?_
  refine Relation.ReflTransGen.trans (Move.tables _ s.ts.commit (by rfl)).moves ?_
  refine (Move.marks _ (if configuring s.mu.stream then s.marks else s.marks.sweepRequest (s.ap.sweepCounter + 1#32) frame)
    fun h => ?_).moves
  split
  · exact h
  · exact within_sweepRequest _ _ h

theorem moves_takeBad : Moves c s (takeBad s) := by
  unfold takeBad
  dsimp only
  split
  · exact (moves_ap _).trans (moves_reportMissed 1 _)
  · exact moves_ap _

theorem moves_takeGood (f : FrameParts) : Moves c s (takeGood f s) := by
  have h1 : Moves c s { s with ap := compareTag f s.ap } := moves_ap _
  have h2 : Moves c s (if missedFrames s.ap f.tag = 0 then { s with ap := compareTag f s.ap }
      else reportMissed (missedFrames s.ap f.tag) s.ap.frameCounter { s with ap := compareTag f s.ap }) := by
    split
    · exact h1
    · exact h1.trans (moves_reportMissed _ _)
  unfold takeGood
  dsimp only
  refine Relation.ReflTransGen.trans ?_ (moves_distribute _ _ _)
  split
  · exact h2.trans (moves_takeBoundary _)
  · exact h2

theorem moves_takeFrame (framed : Bool) (words : List Word16) : Moves c s (takeFrame framed words s) := by
  unfold takeFrame
  refine moves_settle_of ?_
  split
  · exact moves_takeGood _
  · exact moves_takeBad

theorem moves_setOpen (o : Option OpenFrame) : Moves c s (setOpen o s) := moves_ap _

theorem moves_startFrame : Moves c s (startFrame s) := by
  unfold startFrame
  split
  · exact ((moves_setOpen _).trans (moves_takeFrame _ _)).trans (moves_setOpen _)
  · exact moves_setOpen _

theorem moves_addWord (w : PortWord) : Moves c s (addWord w s) := by
  unfold addWord
  split
  · exact .refl
  · dsimp only
    split
    · exact (moves_setOpen _).trans (moves_takeFrame _ _)
    · exact moves_setOpen _

theorem moves_portWord (w : PortWord) : Moves c s (portWord s w) := by
  unfold portWord
  split
  · exact moves_startFrame.trans (moves_addWord w)
  · exact moves_addWord w

theorem moves_portWords (words : List PortWord) : Moves c s (words.foldl portWord s) := by
  induction words generalizing s with
  | nil => exact .refl
  | cons w ws ih => exact (moves_portWord w).trans ih

/-! ## Requests -/

/-- A test for a start keeps the queues in their ranges: a reply is placed only where one has room (R155). -/
theorem within_startFrom : ∀ (q : List Request) (s : State), q.length ≤ 4 → s.mu.replies.length ≤ 4 →
    (s.mu.inProgress.isSome → s.mu.replies.length ≤ 3) → (startFrom q s).mu.within
  | [], s, _, hr, hi => ⟨Nat.zero_le _, hr, hi⟩
  | r :: rest, s, hq, hr, hi => by
    have hrest : rest.length ≤ 4 := (Nat.le_succ _).trans hq
    unfold startFrom
    split
    · next hcan =>
      obtain ⟨hfree, hroom⟩ : s.mu.inProgress = none ∧ s.mu.replies.length < 4 := by
        have hcan' : s.mu.inProgress = none ∧ s.mu.replies.length < Config.requestQueueMax := by simpa [canStart] using hcan
        exact hcan'
      have placed (st : ReplyStatus) : (startFrom rest (placeReply r st [] s)).mu.within :=
        within_startFrom rest _ hrest (by simpa [placeReply] using hroom) (by simp [placeReply, hfree])
      split
      · exact placed .busy
      · split
        · exact placed .badArg
        · exact ⟨hrest, hr, fun _ => Nat.le_of_lt_succ hroom⟩
    · exact ⟨hq, hr, hi⟩

theorem moves_mu {m : Management} (h : s.mu.within → m.within) (hi : m.stream = .init ↔ s.mu.stream = .init) :
    Moves c s { s with mu := m } := (Move.requests s m h hi).moves

theorem moves_startRequests : Moves c s (startRequests s) := by
  rw [startRequests_eq]
  exact moves_mu (fun h => within_startFrom _ _ h.1 h.2.1 h.2.2) (by rw [startRequests_stream])

theorem moves_setStream (st : StreamState) (h : st = .init ↔ s.mu.stream = .init) : Moves c s (setStream st s) :=
  moves_mu id h

theorem moves_arriveRequest (r : Request) : Moves c s (arriveRequest r s) := by
  rw [arriveRequest_eq]
  refine moves_mu (fun h => ?_) (by rw [arriveRequest_stream])
  unfold arriveRequest
  split
  · next hroom => exact within_startFrom _ _ (by simpa [Config.requestQueueMax] using hroom) h.2.1 h.2.2
  · exact h

/-- A request that ends gives its room to the reply. -/
theorem moves_finish (r : Request) (x : Served) (h : x.1.mu.inProgress.isSome) : Moves c x.1 (finish r x) := by
  rw [finish_eq]
  refine moves_mu (fun hw => ?_) (by rw [finish_stream])
  obtain ⟨hq, -, hi⟩ := hw
  exact within_startFrom _ _ hq (by simpa [placeReply] using Nat.lt_succ_of_le (hi h)) (by simp)

theorem inProgressOf_isSome {row : RequestRow} {r : Request} (h : inProgressOf row s = some r) : s.mu.inProgress = some r := by
  unfold inProgressOf at h
  split at h
  · next r' hr =>
    split at h
    · rw [hr, h]
    · cases h
  · cases h

/-- A request that is served: its meaning, outside INIT, and its end. -/
theorem moves_serve {row : RequestRow} {run : Request → State → Served} (hmu : ∀ r, (run r s).1.mu.inProgress = s.mu.inProgress)
    (hrun : ∀ r, s.mu.stream ≠ .init → Moves c s (run r s).1) : Moves c s (serve row run s) := by
  obtain ⟨-, h⟩ | ⟨r, hr, h⟩ := serve_cases row run s
  · rw [h]
  · have hp : s.mu.inProgress.isSome := by rw [inProgressOf_isSome hr]; rfl
    rw [h]
    unfold judged
    split
    · exact moves_finish r (s, .busy, []) hp
    · next hst =>
      split
      · exact moves_finish r (s, .unknownKind, []) hp
      · split
        · exact (hrun r hst).trans (moves_finish r _ (by rw [hmu]; exact hp))
        · exact moves_finish r (s, .badArg, []) hp

/-- A request whose meaning leaves the part. -/
theorem moves_serve_of_kept {row : RequestRow} {run : Request → State → Served} (h : ∀ r, (run r s).1 = s) :
    Moves c s (serve row run s) :=
  moves_serve (fun r => by rw [h]) fun r _ => by rw [h]

/-! ## Table writes and start-up -/

theorem moves_writeSlotMap (no : Byte) (bs : List Byte) : Moves c s (writeSlotMap no bs s).1 := by
  unfold writeSlotMap
  split
  · exact moves_tables rfl
  · exact .refl

theorem moves_writeProfile (no : Byte) (bs : List Byte) : Moves c s (writeProfile no bs s).1 := by
  unfold writeProfile
  split
  · exact moves_tables rfl
  · exact .refl

theorem moves_writeChannel (no : Byte) (bs : List Byte) : Moves c s (writeChannel no bs s).1 := by
  unfold writeChannel
  split
  · exact moves_tables rfl
  · exact .refl

theorem moves_writeSettings (no : Byte) (bs : List Byte) : Moves c s (writeSettings no bs s).1 := by
  unfold writeSettings
  split
  · next new _ _ =>
    split
    · next h => exact (Move.settings s new h).moves
    · exact .refl
  · exact .refl

theorem moves_writeTable (table : Nat) (no : Byte) (bs : List Byte) : Moves c s (writeTable table no bs s).1 := by
  unfold writeTable
  split
  · exact moves_writeSlotMap no bs
  · exact moves_writeProfile no bs
  · exact moves_writeChannel no bs
  · exact moves_writeSettings no bs
  · exact .refl

theorem moves_su {x : StartUp} (h : x.phase = .done ↔ s.su.phase = .done) : Moves c s { s with su := x } :=
  (Move.startUp s x h).moves

theorem moves_applyEntry (e : FlashEntry) : Moves c s (applyEntry s e) := by
  have h := moves_writeTable (c := c) (s := s) e.table e.number e.payload
  unfold applyEntry
  dsimp only
  split
  · exact h
  · exact h.trans (moves_su Iff.rfl)

theorem moves_applyEntries (es : List FlashEntry) : Moves c s (es.foldl applyEntry s) := by
  induction es generalizing s with
  | nil => exact .refl
  | cons e es ih => exact (moves_applyEntry e).trans ih

theorem moves_endStartUp (valid : Bool) (h : s.su.phase ≠ .done) (hc : valid = true → ∃ image, c = .flashReadComplete image) :
    Moves c s (endStartUp valid s) := by
  unfold endStartUp
  refine Relation.ReflTransGen.trans ?_ moves_startRequests
  dsimp only
  split
  · next hv => exact (Move.startUpOver s true h fun _ => hc hv.2).moves
  · exact (Move.startUpOver s false h nofun).moves

theorem moves_settleEnds (h : s.su.phase = .settle) : Moves c s (settleEnds s) := by
  unfold settleEnds
  split
  · exact moves_su (by rw [h]; simp)
  · exact moves_endStartUp false (by rw [h]; simp) nofun

theorem foldl_applyEntry_phase (es : List FlashEntry) : (es.foldl applyEntry s).su.phase = s.su.phase := by
  obtain ⟨skipped, h⟩ := foldl_applyEntry_su es s
  rw [h]

theorem moves_loadImage (image : Option (List Byte)) (h : s.su.phase = .flashLoad)
    (hc : ∃ image, c = .flashReadComplete image) : Moves c s (loadImage image s) := by
  unfold loadImage
  split
  · next es _ =>
    exact (moves_applyEntries es).trans (moves_endStartUp true (by rw [foldl_applyEntry_phase, h]; simp) fun _ => hc)
  · unfold imageFails
    exact (moves_su (x := { s.su with configFault := true }) Iff.rfl).trans (moves_endStartUp false (by rw [h]; simp) nofun)

theorem moves_noteReport : Moves c s (noteReport s) := by
  unfold noteReport
  split
  · next h => exact moves_su (by rw [h.1]; simp)
  · exact .refl

theorem moves_planeReady {p : PlaneId} (hc : WritesMemory c) (h : (s.planes[p]).state = .initialising) :
    Moves c s (planeReady p s) := (Move.planeReady s p hc h).moves

theorem moves_planeFaulty {p : PlaneId} (h : (s.planes[p]).state = .initialising) : Moves c s (planeFaulty p s) :=
  (Move.planeFaulty s p h).moves

/-! ## The Review Port and the stream reset -/

theorem moves_review (r : ReviewPort) (n : Nat) : Moves c s { s with rp := r, fresh := n } :=
  (Move.review s r n s.resetArrivals).moves

theorem moves_respond (r : ReviewResponse) : Moves c s (respond r s) := moves_review _ s.fresh

theorem moves_respondOpen (k : Byte) (st : ReviewStatus) (b : Word16) : Moves c s (respondOpen k st b s) := moves_review _ _

theorem moves_emptySlot : Moves c s (emptySlot s) := moves_review _ s.fresh

theorem moves_abortReview : Moves c s (abortReview s) := by
  unfold abortReview
  split
  · exact .refl
  · exact (moves_respond _).trans moves_emptySlot
  · exact (moves_respondOpen _ _ _).trans moves_emptySlot

theorem moves_locate (channel run : Byte) (index : Word64) : Moves c s (locate channel run index s) := by
  unfold locate
  split
  · split
    · exact moves_review _ s.fresh
    · exact moves_respond _
  · exact moves_respond _

theorem moves_scanStep : Moves c s (scanStep s) := by
  unfold scanStep
  split
  · split
    · exact ((Move.pin s _).moves.trans (moves_respond _)).trans moves_emptySlot
    · split
      · exact moves_review _ s.fresh
      · exact (moves_respond _).trans moves_emptySlot
  · exact .refl

theorem moves_pin (b : Word16) : Moves c s (pin b s) := by
  unfold pin
  split
  · exact moves_respondOpen _ _ _
  · split
    · exact moves_respondOpen _ _ _
    · exact (Move.pin s _).moves.trans (moves_respond _)

theorem moves_unpin (b : Word16) : Moves c s (unpin b s) := by
  unfold unpin
  split
  · exact moves_respondOpen _ _ _
  · split
    · exact moves_respondOpen _ _ _
    · exact (Move.unpin s _).moves.trans (moves_respond _)

theorem moves_claimReview (b : BlockId) (off len : Nat) : Moves c s (claimReview b off len s) :=
  (moves_plane (s := s) (p := planeOf b) (pl := { s.planes[planeOf b] with review := some ⟨b, off, len⟩ })
    ⟨rfl, rfl, id, .inl⟩).trans (moves_review _ s.fresh)

theorem moves_read (b : Word16) (off : Word32) (len : Word16) : Moves c s (read b off len s) := by
  unfold read checkRead
  split
  · exact moves_respondOpen _ _ _
  · split
    · exact moves_respondOpen _ _ _
    · dsimp only
      split
      · exact moves_respondOpen _ _ _
      · split
        · exact moves_respondOpen _ _ _
        · exact (moves_claimReview _ _ _).trans moves_grants

theorem moves_describe (b : Word16) : Moves c s (describe b s) := by
  unfold describe
  split
  · exact moves_respond _
  · split <;> exact moves_respond _

theorem moves_answerRead (b : BlockId) (bs : List Byte) : Moves c s (answerRead b bs s) := by
  unfold answerRead
  split
  · exact (moves_respond _).trans moves_emptySlot
  · exact .refl

theorem rejected_streamReset (l : Link) : l.streamReset.rejected = l.rejected := by
  unfold Link.streamReset
  dsimp only
  split <;> rfl

/-- Capture memory, the capture path and what stands around it at a stream reset. -/
theorem moves_streamReset (hc : c = .resetStream) (h : s.mu.stream ≠ .init) : Moves c s (streamReset s) := by
  obtain ⟨busy, n, -, harrive⟩ := takeArrivals_hold (resetChannels s) rfl
  have habort : Moves c s (abortReview s) := moves_abortReview
  have hstream : (abortReview s).mu.stream ≠ .init := by rwa [abortReview_mu]
  unfold streamReset
  rw [harrive]
  unfold resetChannels
  refine habort.trans ?_
  generalize abortReview s = a at hstream ⊢
  refine Relation.ReflTransGen.trans (Move.captureReset a
    (mapV (fun p => { p with port := p.port.map Access.unreported, review := none }) a.planes) hstream).moves ?_
  refine (moves_mapPlanes (fun p => { p with port := p.port.map Access.unreported, review := none })
    fun _ => ⟨rfl, rfl, id, .inl⟩).trans ?_
  refine Relation.ReflTransGen.trans moves_withdrawLoads ?_
  refine Relation.ReflTransGen.trans (Move.review _ { a.rp with hold := false, responses := a.rp.responses ++ busy } n []).moves ?_
  refine Relation.ReflTransGen.trans (Move.marks _ MarkUnit.reset fun _ => ⟨Nat.zero_le _, Nat.zero_le _⟩).moves ?_
  refine Relation.ReflTransGen.trans (Move.tables _ a.ts.commit (by rfl)).moves ?_
  have hstandby : StreamState.standby = .init ↔ a.mu.stream = .init := by simpa using hstream
  refine Relation.ReflTransGen.trans (Move.requests _ { a.mu with stream := .standby } (by exact id) (by exact hstandby)).moves ?_
  have hrejected : a.sl.rejected ≤ 65535 → a.sl.streamReset.rejected ≤ 65535 := (rejected_streamReset a.sl).trans_le
  refine Relation.ReflTransGen.trans (Move.link _ a.sl.streamReset (by exact hrejected) (.inr (.inr (.inr (.inr (.inr (.inr hc))))))).moves ?_
  exact .refl

/-! ## The link -/

theorem moves_sl {l : Link} (h : s.sl.rejected ≤ 65535 → l.rejected ≤ 65535) (hs : l.state = s.sl.state ∨ ChangesLink c) :
    Moves c s { s with sl := l } :=
  (Move.link s l h hs).moves

theorem moves_setTx (f : Option TxFrame) : Moves c s (setTx f s) := moves_sl id (.inl rfl)

theorem moves_marks {m : MarkUnit} (h : s.marks.within → m.within) : Moves c s { s with marks := m } := (Move.marks s m h).moves

theorem moves_linkDown (hc : ChangesLink c) : Moves c s (linkDown s) := by
  unfold linkDown
  refine (Move.drainDown s).moves.trans ?_
  dsimp only
  generalize s.drainDown = u
  refine (moves_marks (m := { u.marks with headInTx := false }) id).trans ?_
  refine Relation.ReflTransGen.trans (Move.requests _ { u.mu with replyInTx := false } (by exact id) (by exact Iff.rfl)).moves ?_
  exact moves_sl id (.inr hc)

theorem identity_markBegun (rm : Ring) : ∀ l : List SlotEntry,
    (markBegun rm l).map SlotEntry.identity = l.map SlotEntry.identity
  | [] => rfl
  | e :: t => by
    unfold markBegun
    split
    · rfl
    · rw [List.map_cons, List.map_cons, identity_markBegun rm t]

theorem moves_startData (h : Fin 2) : Moves c s (startData h s) :=
  (moves_slot _ _ (identity_markBegun s.rm s.ds.slot)).trans (moves_setTx _)

theorem moves_startFrameOf : Moves c s (startFrameOf s) := by
  unfold startFrameOf startMarkOrLower startDataOrFill
  split
  · exact moves_sl id (.inl rfl)
  · split
    · exact (moves_mu (m := { s.mu with replyInTx := true }) id Iff.rfl).trans (moves_setTx _)
    · split
      · exact (moves_marks (m := { s.marks with headInTx := true }) id).trans (moves_setTx _)
      · split
        · exact moves_startData _
        · exact moves_setTx _

theorem moves_replySent : Moves c s (replySent s) := by
  refine (moves_mu (m := { s.mu with replies := s.mu.replies.tail, replyInTx := false }) (fun h => ?_) Iff.rfl).trans
    moves_startRequests
  obtain ⟨hq, hr, hi⟩ := h
  have htail : s.mu.replies.tail.length ≤ s.mu.replies.length := by simp
  exact ⟨hq, htail.trans hr, fun hp => htail.trans (hi hp)⟩

theorem moves_markSent : Moves c s (markSent s) := by
  refine (moves_marks (m := { s.marks with queue := s.marks.queue.tail, headInTx := false }) fun h => ?_).trans
    (moves_eachChannel fun k t => moves_event .offerAgain k)
  exact ⟨(by simp : s.marks.queue.tail.length ≤ s.marks.queue.length).trans h.1, h.2⟩

/-! ## The commands -/

/-- A guarded event is a chain of moves when its effect is. -/
theorem moves_released {f : State → State} (h : released s f = .next t) (hf : Moves c s (f s)) : Moves c s t := by
  obtain ⟨-, rfl⟩ | ⟨-, rfl⟩ := released_cases h
  · exact hf
  · exact .refl

theorem moves_released_settle {f : State → State} (h : released s (fun u => settle (f u)) = .next t) (hf : Moves c s (f s)) :
    Moves c s t :=
  moves_released h (moves_settle_of hf)

theorem moves_released_onlyWhen {b : Bool} {f : State → State} (h : released s (onlyWhen b f) = .next t)
    (hf : b = true → Moves c s (f s)) : Moves c s t := by
  refine moves_released h ?_
  cases b
  · exact .refl
  · exact hf rfl

/-- The end of an access. -/
theorem moves_accessEnd {ok : Bool} {x : Fault}
    (h : (if s.su.resetLow then Host.Outcome.next s else if ok then .next (settle u) else .fault x : Answer) = .next t)
    (hu : Moves c s u) : Moves c s t := by
  rcases accessEnd_cases h with h | h <;> rw [h]
  exact moves_settle_of hu

theorem moves_storeBytes (hc : WritesMemory c) (b : BlockId) (off : Nat) (bs : List Byte) : Moves c s (storeBytes b off bs s) :=
  (Move.memory s _ hc fun h => wf_writeBytes bs _ h).moves

theorem execAcquisitionFrame_moves {words : List PortWord} (h : execAcquisitionFrame words s = .next t) : Moves c s t :=
  moves_released h (moves_portWords words)

theorem execHeaderWriteComplete_moves {p : PlaneId} (h : execHeaderWriteComplete p s = .next t) :
    Moves (.headerWriteComplete p) s t := by
  unfold execHeaderWriteComplete at h
  split at h
  · next k b off bs live _ =>
    refine moves_accessEnd h (((moves_storeBytes (.inl ⟨p, rfl⟩) b off bs).trans (moves_freePort p)).trans ?_)
    cases live
    · exact .refl
    · exact (Move.headerWritten _ k b).moves
  · cases h; exact .refl

theorem execPayloadWriteComplete_moves {p : PlaneId} (h : execPayloadWriteComplete p s = .next t) :
    Moves (.payloadWriteComplete p) s t := by
  unfold execPayloadWriteComplete at h
  split at h
  · next k b off bs live _ =>
    refine moves_accessEnd h (((moves_storeBytes (.inr (.inl ⟨p, rfl⟩)) b off bs).trans (moves_freePort p)).trans ?_)
    cases live
    · exact .refl
    · exact (Move.payloadWritten _ k b _).moves
  · cases h; exact .refl

theorem execHalfLoadComplete_moves {p : PlaneId} (h : execHalfLoadComplete p s = .next t) : Moves c s t := by
  unfold execHalfLoadComplete at h
  split at h
  · exact moves_accessEnd h ((moves_slot s.ds.slot _ rfl).trans (moves_freePort p))
  · cases h; exact .refl

theorem execReviewReadComplete_moves {p : PlaneId} (h : execReviewReadComplete p s = .next t) : Moves c s t := by
  unfold execReviewReadComplete at h
  split at h
  · next live _ =>
    refine moves_accessEnd h ((moves_freePort p).trans ?_)
    cases live
    · exact .refl
    · exact moves_answerRead _ _
  · cases h; exact .refl

theorem execPlaneInitEnd_moves {p : PlaneId} {ready : Bool} (h : execPlaneInitEnd p ready s = .next t) :
    Moves (.planeInitEnd p ready) s t :=
  moves_released_onlyWhen h fun hinit => by
    have hinit : (s.planes[p]).state = .initialising := of_decide_eq_true hinit
    refine Relation.ReflTransGen.trans ?_ moves_noteReport
    cases ready
    · exact moves_planeFaulty hinit
    · exact moves_planeReady (.inr (.inr ⟨p, true, rfl⟩)) hinit

theorem execTrainingAttemptComplete_moves {aligned : BitVec 4} (h : execTrainingAttemptComplete aligned s = .next t) :
    Moves (.trainingAttemptComplete aligned) s t :=
  moves_released_onlyWhen h fun _ => by
    split
    · exact moves_sl id (.inr (.inl ⟨aligned, rfl⟩))
    · exact .refl

theorem execHelloFrameEnd_moves (h : execHelloFrameEnd s = .next t) : Moves c s t := by
  unfold execHelloFrameEnd at h
  split at h
  · exact moves_released h (moves_sl id (.inl rfl))
  · cases h; exact .refl

theorem execReplyFrameEnd_moves (h : execReplyFrameEnd s = .next t) : Moves c s t := by
  unfold execReplyFrameEnd at h
  split at h
  · exact moves_released h ((moves_setTx none).trans moves_replySent)
  · cases h; exact .refl

theorem execMarkFrameEnd_moves (h : execMarkFrameEnd s = .next t) : Moves c s t := by
  unfold execMarkFrameEnd at h
  split at h
  · next live _ =>
    refine moves_released h ((moves_setTx none).trans ?_)
    cases live
    · exact .refl
    · exact moves_markSent
  · cases h; exact .refl

theorem execDataFrameEnd_moves (h : execDataFrameEnd s = .next t) : Moves c s t := by
  unfold execDataFrameEnd at h
  split at h
  · next k _ => exact moves_released_settle h ((moves_setTx none).trans (Move.dataSent _ k).moves)
  · cases h; exact .refl

theorem execFillFrameEnd_moves (h : execFillFrameEnd s = .next t) : Moves c s t := by
  unfold execFillFrameEnd at h
  split at h
  · exact moves_released h (moves_setTx none)
  · cases h; exact .refl

theorem rejected_heard (l : Link) : l.heard.rejected = l.rejected := by
  unfold Link.heard
  split <;> rfl

theorem state_heard (l : Link) : l.heard.state = l.state := by
  unfold Link.heard
  split <;> rfl

theorem rejected_takeReady (l : Link) : l.takeReady.rejected = l.rejected := by
  unfold Link.takeReady
  split <;> rfl

theorem moves_heard : Moves c s { s with sl := s.sl.heard } :=
  moves_sl (fun h => by rwa [rejected_heard]) (.inl (state_heard _))

theorem rejected_reject {l : Link} (h : l.rejected ≤ 65535) : l.reject.rejected ≤ 65535 := by
  change (if l.rejected < 65535 then l.rejected + 1 else l.rejected) ≤ 65535
  split_ifs <;> omega

theorem execFlowFrame_moves {g a : Word32} (h : execFlowFrame g a s = .next t) : Moves (.flowFrame g a) s t :=
  moves_released_onlyWhen h fun _ => moves_settle_of <|
    Relation.ReflTransGen.trans (Move.flow s g a).moves (moves_sl
      (fun h => by rwa [rejected_takeReady, rejected_heard]) (.inr (.inr (.inr (.inr (.inl ⟨g, a, rfl⟩))))))

/-! ### Requests served -/

theorem moves_tableWrite {write : Byte → List Byte → State → State × ReplyStatus} (r : Request)
    (h : ∀ no bs, Moves c s (write no bs s).1) : Moves c s (tableWrite write r s).1 := h _ _

theorem moves_serve_tableWrite {row : RequestRow} {write : Byte → List Byte → State → State × ReplyStatus}
    (hmu : ∀ no bs, (write no bs s).1.mu = s.mu) (h : ∀ no bs, Moves c s (write no bs s).1) :
    Moves c s (serve row (tableWrite write) s) :=
  moves_serve (fun _ => congrArg Management.inProgress (hmu _ _)) fun r _ => moves_tableWrite r h

theorem moves_streamCommand {sources : List StreamState} {target : StreamState} {pass : State → State} (hinit : s.mu.stream ≠ .init)
    (htarget : target ≠ .init) (hpass : ∀ u, Moves c u (pass u)) : Moves c s (streamCommand sources target pass s).1 := by
  unfold streamCommand
  split
  · exact (moves_setStream target (by simp [htarget, hinit])).trans (hpass _)
  · exact .refl

theorem inProgress_streamCommand {sources : List StreamState} {target : StreamState} {pass : State → State}
    (hpass : ∀ u, (pass u).mu = u.mu) : (streamCommand sources target pass s).1.mu.inProgress = s.mu.inProgress := by
  unfold streamCommand
  split
  · rw [hpass]; rfl
  · rfl

theorem moves_serve_streamCommand {row : RequestRow} {sources : List StreamState} {target : StreamState} {pass : State → State}
    (htarget : target ≠ .init) (hmu : ∀ u, (pass u).mu = u.mu) (hpass : ∀ u, Moves c u (pass u)) :
    Moves c s (serve row (fun _ u => streamCommand sources target pass u) s) :=
  moves_serve (fun _ => inProgress_streamCommand hmu) fun _ hinit => moves_streamCommand hinit htarget hpass

theorem moves_passLeaveRun : Moves c s (passLeaveRun s) := moves_eachChannel fun k _ => moves_event .leaveRun k

theorem moves_passStandby : Moves c s (passStandby s) := moves_eachChannel fun k _ => moves_event .standby k

theorem execStreamHalt_moves (h : execStreamHalt s = .next t) : Moves c s t := by
  refine moves_released_settle h (moves_serve (fun _ => ?_) fun _ hinit => ?_)
  · split
    · exact inProgress_streamCommand fun _ => rfl
    · exact inProgress_streamCommand passLeaveRun_mu
  · split
    · exact moves_streamCommand hinit nofun fun _ => .refl
    · exact moves_streamCommand hinit nofun fun _ => moves_passLeaveRun

theorem moves_serve_channelCommand {row : RequestRow} {f : Env → Engine → Engine × ReplyStatus}
    (hf : s.mu.stream ≠ .init → ChannelEvent c s.mu.stream (fun v e => (f v e).1)) :
    Moves c s (serve row (channelCommand f) s) := by
  refine moves_serve (fun r => by rw [channelCommand_mu]) fun r hinit => ?_
  unfold channelCommand
  split
  · exact .refl
  · next k _ => exact moves_event (hf hinit) k

theorem moves_statusQuery (r : Request) : Moves .statusQuery s (statusQuery r s).1 :=
  (moves_ap (clearTagResync s.ap)).trans (moves_mapPlanes _ fun _ => ⟨rfl, rfl, id, fun _ => .inr rfl⟩)

theorem moves_blockQuery (r : Request) : (blockQuery r s).1 = s := by
  unfold blockQuery
  dsimp only
  split <;> rfl

theorem moves_tableRead (r : Request) : (tableRead r s).1 = s := by
  unfold tableRead
  split <;> rfl

theorem execResetDevice_moves {straps : BitVec 2} (h : execResetDevice straps s = .next t) : Moves (.resetDevice straps) s t := by
  refine moves_released h ?_
  unfold serveDeviceReset
  split
  · exact .refl
  · next r hr =>
    have hp : s.mu.inProgress.isSome := by rw [inProgressOf_isSome hr]; rfl
    split
    · exact moves_finish r (s, .busy, []) hp
    · split
      · exact (Move.deviceReset s straps (.inr rfl)).moves
      · exact moves_finish r (s, .badArg, []) hp

theorem moves_resetPinLow : Moves .resetPinLow s (resetPinLow s) := by
  refine (moves_ap { s.ap with openFrame := none }).trans ?_
  refine (moves_mapPlanes (fun p => { p with port := none, drain := [], review := none }) fun _ => ⟨rfl, rfl, id, .inl⟩).trans ?_
  refine Relation.ReflTransGen.trans
    (Move.link _ { s.sl with state := .down, tx := none, late := false } (by exact id)
      (.inr (.inr (.inr (.inr (.inr (.inl rfl))))))).moves ?_
  exact moves_su Iff.rfl

/-- Every command that goes on is a chain of moves. -/
theorem exec_moves {c : Instr} (h : exec c s = .next t) : Moves c s t := by
  cases c with
  | acquisitionFrame words => exact execAcquisitionFrame_moves h
  | sealAgeTimerExpiry k => exact moves_released_onlyWhen h fun _ => moves_settle_of (moves_event .sealAge k)
  | headerWriteComplete p => exact execHeaderWriteComplete_moves h
  | payloadWriteComplete p => exact execPayloadWriteComplete_moves h
  | halfLoadComplete p => exact execHalfLoadComplete_moves h
  | reviewReadComplete p => exact execReviewReadComplete_moves h
  | refreshComplete p => exact moves_released_onlyWhen h fun _ => moves_settle_of (moves_freePort p)
  | refreshTick p => exact moves_released_onlyWhen h fun _ => (moves_plane (planeKept_tickPlane _)).trans moves_grants
  | planeInitEnd p ready => exact execPlaneInitEnd_moves h
  | planeInitTimeout p =>
    exact moves_released_onlyWhen h fun hinit => (moves_planeFaulty (of_decide_eq_true hinit)).trans moves_noteReport
  | settleTimerExpiry =>
    exact moves_released_onlyWhen h fun hphase => moves_settleEnds (by simpa using (Bool.and_eq_true_iff.mp hphase).1)
  | flashReadComplete image =>
    exact moves_released_onlyWhen h fun hphase => moves_loadImage image (of_decide_eq_true hphase) ⟨image, rfl⟩
  | deviceReset straps => cases h; exact (Move.deviceReset s straps (.inl rfl)).moves
  | laneAlignmentLoss lane => exact moves_released_onlyWhen h fun _ => moves_linkDown (.inr (.inl ⟨lane, rfl⟩))
  | receiveSilenceTimeout => exact moves_released_onlyWhen h fun _ => moves_linkDown (.inr (.inr (.inl rfl)))
  | trainingAttemptComplete aligned => exact execTrainingAttemptComplete_moves h
  | trainingAttemptFailed => exact moves_released_onlyWhen h fun _ => moves_sl id (.inl rfl)
  | trainingAttemptTimeout => exact moves_released_onlyWhen h fun _ => moves_sl id (.inl rfl)
  | helloTimerExpiry => exact moves_released_onlyWhen h fun _ => moves_sl id (.inl rfl)
  | forwardFrameStart => exact moves_released_onlyWhen h fun _ => moves_startFrameOf
  | helloFrameEnd => exact execHelloFrameEnd_moves h
  | replyFrameEnd => exact execReplyFrameEnd_moves h
  | markFrameEnd => exact execMarkFrameEnd_moves h
  | dataFrameEnd => exact execDataFrameEnd_moves h
  | fillFrameEnd => exact execFillFrameEnd_moves h
  | flowFrame g a => exact execFlowFrame_moves h
  | requestFrame tag kind contents => exact moves_released_onlyWhen h fun _ => moves_heard.trans (moves_arriveRequest _)
  | returnFillFrame => exact moves_released_onlyWhen h fun _ => moves_heard
  | returnFrameRejected bytes => exact moves_released_onlyWhen h fun _ => moves_sl rejected_reject (.inl rfl)
  | tableWriteSlotMap => exact moves_released h (moves_serve_tableWrite (fun _ _ => writeSlotMap_mu ..) moves_writeSlotMap)
  | tableWriteProfile => exact moves_released h (moves_serve_tableWrite (fun _ _ => writeProfile_mu ..) moves_writeProfile)
  | tableWriteChannel => exact moves_released h (moves_serve_tableWrite (fun _ _ => writeChannel_mu ..) moves_writeChannel)
  | tableWriteSettings =>
    exact moves_released_settle h (moves_serve_tableWrite (fun _ _ => writeSettings_mu ..) moves_writeSettings)
  | tableRead => exact moves_released h (moves_serve_of_kept moves_tableRead)
  | streamRun => exact moves_released h (moves_serve_streamCommand nofun (fun _ => rfl) fun _ => .refl)
  | streamPause =>
    exact moves_released_settle h (moves_serve_streamCommand nofun passLeaveRun_mu fun _ => moves_passLeaveRun)
  | streamHalt => exact execStreamHalt_moves h
  | streamResume => exact moves_released_settle h (moves_serve_streamCommand nofun (fun _ => rfl) fun _ => .refl)
  | streamStandby =>
    exact moves_released_settle h (moves_serve_streamCommand nofun passStandby_mu fun _ => moves_passStandby)
  | channelStart => exact moves_released h (moves_serve_channelCommand (f := startChannel) fun hinit => .start rfl hinit)
  | channelStop => exact moves_released_settle h (moves_serve_channelCommand (f := stopChannel) fun _ => .stop)
  | channelFlush => exact moves_released_settle h (moves_serve_channelCommand (f := flushChannel) fun _ => .flush)
  | blockQuery => exact moves_released h (moves_serve_of_kept moves_blockQuery)
  | statusQuery => exact moves_released h (moves_serve (fun _ => rfl) fun r _ => moves_statusQuery r)
  | forceBoundary => exact moves_released h (moves_serve (fun _ => rfl) fun _ _ => moves_ap _)
  | resetStream =>
    exact moves_released h (moves_serve (fun _ => by rw [streamReset_mu]) fun _ hinit => moves_streamReset rfl hinit)
  | resetDevice straps => exact execResetDevice_moves h
  | unknownRequestKind => exact moves_released h (moves_serve_of_kept fun _ => rfl)
  | locate channel run index => exact moves_released h (moves_locate channel run index)
  | locateScanStep => exact moves_released h moves_scanStep
  | pin b => exact moves_released h (moves_pin b)
  | unpin b => exact moves_released h (moves_unpin b)
  | read b off len => exact moves_released h (moves_read b off len)
  | describe b => exact moves_released h (moves_describe b)
  | unknownReviewKind kind => exact moves_released h (moves_respond _)
  | resetPinLow => cases h; exact moves_resetPinLow

end

/-! ## Steps -/

/-- A step idles, or runs the front command on the part with the queue's rest. -/
theorem step_cases {s t : State} (h : step s = .next t) :
    t = s ∨ ∃ c rest, s.pending = c :: rest ∧ exec c { s with pending := rest } = .next t := by
  unfold step at h
  split at h
  · cases h; exact .inl rfl
  · next c rest hq => exact .inr ⟨c, rest, hq, h⟩

/-- A property that does not look at the queue and that every move keeps is kept by every step. -/
theorem step_keeps {P : State → Prop} (hqueue : ∀ s q, P s → P { s with pending := q })
    (hmove : ∀ c s t, Move c s t → P s → P t) {s t : State} (hs : P s) (h : step s = .next t) : P t := by
  obtain rfl | ⟨c, rest, -, hexec⟩ := step_cases h
  · exact hs
  · exact (exec_moves hexec).keep (hmove c) (hqueue s rest hs)

end Sys2Proof.Machine
end

section
/-! PROOFS. Whole-part rules read off the moves: the step itself, the waiting commands, capture memory and the planes' flags; and
the RESET pin. -/

namespace Sys2Proof.Machine

open Sys2Proof.Safety

/-- Settles O1: by the two branches of the step's definition. -/
theorem stepRunsTheFrontCommand : Obligations.StepRunsTheFrontCommand := by
  refine ⟨fun _ _ _ => rfl, fun s h => ?_⟩
  unfold step
  rw [h]

section
variable {c : Instr} {s t : State}

/-! ## The waiting commands -/

theorem deviceReset_pending (straps : BitVec 2) (s : State) : (deviceReset straps s).pending = s.pending := by
  change (abortReview s).pending = s.pending
  unfold abortReview
  split <;> rfl

theorem deviceReset_mem (straps : BitVec 2) (s : State) : (deviceReset straps s).mem = s.mem := by
  change (abortReview s).mem = s.mem
  unfold abortReview
  split <;> rfl

theorem Move.pending (h : Move c s t) : t.pending = s.pending := by
  cases h with
  | deviceReset straps _ => exact deviceReset_pending straps s
  | _ => rfl

theorem exec_pending (h : exec c s = .next t) : t.pending = s.pending :=
  (exec_moves h).rel (R := fun s t => t.pending = s.pending) (fun _ => rfl) (fun _ _ _ h h' => h'.trans h) fun _ _ => Move.pending

/-! ## What a command answers -/

/-- The forms a command's answer has: a guarded effect, the end of an access, nothing, a device reset, or the fall of the RESET pin. -/
inductive Answers (c : Instr) (s : State) : Answer → Prop where
  | guarded (f : State → State) : Answers c s (released s f)
  | access {p : PlaneId} {a : Access} (hp : (s.planes[p]).port = some a) (u : State) (x : Fault) :
      Answers c s (if s.su.resetLow then .next s
        else if inMemory (accessRange a).1 (accessRange a).2 then .next u else .fault x)
  | nothing : Answers c s (.next s)
  | deviceReset (straps : BitVec 2) (hc : c = .deviceReset straps) : Answers c s (.next (deviceReset straps s))
  | resetPinLow (hc : c = .resetPinLow) : Answers c s (.next (resetPinLow s))

theorem exec_answers (c : Instr) (s : State) : Answers c s (exec c s) := by
  cases c with
  | sealAgeTimerExpiry _ => unfold exec execSealAgeTimerExpiry; exact .guarded _
  | refreshComplete _ => unfold exec execRefreshComplete; exact .guarded _
  | refreshTick _ => unfold exec execRefreshTick; exact .guarded _
  | planeInitEnd _ _ => unfold exec execPlaneInitEnd; exact .guarded _
  | planeInitTimeout _ => unfold exec execPlaneInitTimeout; exact .guarded _
  | settleTimerExpiry => unfold exec execSettleTimerExpiry; exact .guarded _
  | flashReadComplete _ => unfold exec execFlashReadComplete; exact .guarded _
  | laneAlignmentLoss _ => unfold exec execLaneAlignmentLoss; exact .guarded _
  | receiveSilenceTimeout => unfold exec execReceiveSilenceTimeout; exact .guarded _
  | trainingAttemptComplete _ => unfold exec execTrainingAttemptComplete; exact .guarded _
  | trainingAttemptFailed => unfold exec execTrainingAttemptFailed; exact .guarded _
  | trainingAttemptTimeout => unfold exec execTrainingAttemptTimeout; exact .guarded _
  | helloTimerExpiry => unfold exec execHelloTimerExpiry; exact .guarded _
  | forwardFrameStart => unfold exec execForwardFrameStart; exact .guarded _
  | flowFrame _ _ => unfold exec execFlowFrame; exact .guarded _
  | requestFrame _ _ _ => unfold exec execRequestFrame; exact .guarded _
  | returnFillFrame => unfold exec execReturnFillFrame; exact .guarded _
  | returnFrameRejected _ => unfold exec execReturnFrameRejected; exact .guarded _
  | tableWriteSlotMap => unfold exec execTableWriteSlotMap; exact .guarded _
  | tableWriteProfile => unfold exec execTableWriteProfile; exact .guarded _
  | tableWriteChannel => unfold exec execTableWriteChannel; exact .guarded _
  | tableWriteSettings => unfold exec execTableWriteSettings; exact .guarded _
  | tableRead => unfold exec execTableRead; exact .guarded _
  | streamRun => unfold exec execStreamRun; exact .guarded _
  | streamPause => unfold exec execStreamPause; exact .guarded _
  | streamHalt => unfold exec execStreamHalt; exact .guarded _
  | streamResume => unfold exec execStreamResume; exact .guarded _
  | streamStandby => unfold exec execStreamStandby; exact .guarded _
  | channelStart => unfold exec execChannelStart; exact .guarded _
  | channelStop => unfold exec execChannelStop; exact .guarded _
  | channelFlush => unfold exec execChannelFlush; exact .guarded _
  | blockQuery => unfold exec execBlockQuery; exact .guarded _
  | statusQuery => unfold exec execStatusQuery; exact .guarded _
  | forceBoundary => unfold exec execForceBoundary; exact .guarded _
  | resetStream => unfold exec execResetStream; exact .guarded _
  | resetDevice _ => unfold exec execResetDevice; exact .guarded _
  | unknownRequestKind => unfold exec execUnknownRequestKind; exact .guarded _
  | locate _ _ _ => unfold exec execLocate; exact .guarded _
  | locateScanStep => unfold exec execLocateScanStep; exact .guarded _
  | pin _ => unfold exec execPin; exact .guarded _
  | unpin _ => unfold exec execUnpin; exact .guarded _
  | read _ _ _ => unfold exec execRead; exact .guarded _
  | describe _ => unfold exec execDescribe; exact .guarded _
  | unknownReviewKind _ => unfold exec execUnknownReviewKind; exact .guarded _
  | acquisitionFrame _ => unfold exec execAcquisitionFrame; exact .guarded _
  | helloFrameEnd =>
    change Answers _ s (execHelloFrameEnd s)
    unfold execHelloFrameEnd
    split
    · exact .guarded _
    · exact .nothing
  | replyFrameEnd =>
    change Answers _ s (execReplyFrameEnd s)
    unfold execReplyFrameEnd
    split
    · exact .guarded _
    · exact .nothing
  | markFrameEnd =>
    change Answers _ s (execMarkFrameEnd s)
    unfold execMarkFrameEnd
    split
    · exact .guarded _
    · exact .nothing
  | dataFrameEnd =>
    change Answers _ s (execDataFrameEnd s)
    unfold execDataFrameEnd
    split
    · exact .guarded _
    · exact .nothing
  | fillFrameEnd =>
    change Answers _ s (execFillFrameEnd s)
    unfold execFillFrameEnd
    split
    · exact .guarded _
    · exact .nothing
  | headerWriteComplete p =>
    change Answers _ s (execHeaderWriteComplete p s)
    unfold execHeaderWriteComplete
    split
    · next hp => exact .access hp _ _
    · exact .nothing
  | payloadWriteComplete p =>
    change Answers _ s (execPayloadWriteComplete p s)
    unfold execPayloadWriteComplete
    split
    · next hp => exact .access hp _ _
    · exact .nothing
  | halfLoadComplete p =>
    change Answers _ s (execHalfLoadComplete p s)
    unfold execHalfLoadComplete
    split
    · next hp => exact .access hp _ _
    · exact .nothing
  | reviewReadComplete p =>
    change Answers _ s (execReviewReadComplete p s)
    unfold execReviewReadComplete
    split
    · next hp => exact .access hp _ _
    · exact .nothing
  | deviceReset straps => exact .deviceReset straps rfl
  | resetPinLow => exact .resetPinLow rfl

/-- Only the completion of an access can stop the part, and it does not inside capture memory. -/
theorem Answers.goesOn {o : Answer} (ho : Answers c s o) (h : PortsInMemory s) : ∃ t, o = .next t := by
  cases ho with
  | guarded f => unfold released; split <;> exact ⟨_, rfl⟩
  | access hp u x =>
    rw [inMemory, decide_eq_true (h _ _ hp), if_pos rfl]
    split <;> exact ⟨_, rfl⟩
  | nothing => exact ⟨_, rfl⟩
  | deviceReset straps _ => exact ⟨_, rfl⟩
  | resetPinLow _ => exact ⟨_, rfl⟩

theorem Answers.not_refused {o : Answer} (ho : Answers c s o) (r : Refusal) : o ≠ .refused r := by
  cases ho with
  | guarded f => unfold released; split <;> exact nofun
  | access hp u x => split_ifs <;> exact nofun
  | nothing => exact nofun
  | deviceReset straps _ => exact nofun
  | resetPinLow _ => exact nofun

/-- With the RESET pin low only the release and the pin's fall act. -/
theorem Answers.low {o : Answer} (ho : Answers c s o) (hlow : s.su.resetLow = true) (hfall : c ≠ .resetPinLow)
    (hrelease : ∀ straps, c ≠ .deviceReset straps) : o = .next s := by
  cases ho with
  | guarded f => exact released_low f hlow
  | access hp u x => exact if_pos hlow
  | nothing => rfl
  | deviceReset straps hc => exact absurd hc (hrelease straps)
  | resetPinLow hc => exact absurd hc hfall

/-- Settles O2: the queue by the moves, going on and not being refused by the forms of the answers. -/
theorem commandsGoOnAndLeaveTheQueue : Obligations.CommandsGoOnAndLeaveTheQueue :=
  fun c s => ⟨fun _ => exec_pending, (exec_answers c s).goesOn, (exec_answers c s).not_refused⟩

/-! ## Capture memory -/

theorem Move.memoryCanonical (h : Move c s t) (hs : MemoryCanonical s) : MemoryCanonical t := by
  cases h with
  | memory m _ hm => exact hm hs
  | planeReady p _ _ => exact wf_clearPlane p hs
  | deviceReset straps _ => rwa [MemoryCanonical, deviceReset_mem]
  | _ => exact hs

/-- Settles O4: every move keeps the canonical form, a write and a plane's clearing by their own lemmas. -/
theorem captureMemoryStaysCanonical : Obligations.CaptureMemoryStaysCanonical :=
  fun _ _ => step_keeps (fun _ _ => id) fun _ _ _ => Move.memoryCanonical

/-- A command that does not write leaves capture memory. -/
theorem Move.mem (hc : ¬ WritesMemory c) (h : Move c s t) : t.mem = s.mem := by
  cases h with
  | memory m hm _ => exact absurd hm hc
  | planeReady p hm _ => exact absurd hm hc
  | deviceReset straps _ => exact deviceReset_mem straps s
  | _ => rfl

theorem exec_mem (hc : ¬ WritesMemory c) (h : exec c s = .next t) : t.mem = s.mem :=
  (exec_moves h).rel (R := fun s t => t.mem = s.mem) (fun _ => rfl) (fun _ _ _ h h' => h'.trans h) fun _ _ => Move.mem hc

/-! ## The planes' flags -/

/-- What holds of the flags of a plane before and after a command that is not a device reset. -/
def FlagsKept (c : Instr) (a b : Plane) : Prop :=
  (a.fault = true → b.fault = true) ∧ (a.state = .faulty → b.state = .faulty) ∧
  (a.lapse = true → b.lapse = true ∨ c = .statusQuery)

theorem FlagsKept.refl (pl : Plane) : FlagsKept c pl pl := ⟨id, id, .inl⟩

theorem FlagsKept.trans {x y z : Plane} (h : FlagsKept c x y) (h' : FlagsKept c y z) : FlagsKept c x z :=
  ⟨fun hf => h'.1 (h.1 hf), fun hs => h'.2.1 (h.2.1 hs), fun hl => (h.2.2 hl).elim h'.2.2 .inr⟩

theorem FlagsKept.of_planeKept {x y : Plane} (h : PlaneKept c x y) : FlagsKept c x y := by
  obtain ⟨hstate, hfault, -, hlapse⟩ := h
  exact ⟨hfault.trans, hstate.trans, hlapse⟩

/-- A change of one plane keeps the flags of every plane when it keeps those of its own. -/
theorem flagsKept_put {p : PlaneId} {ps : Vector Plane 4} {pl : Plane} (h : FlagsKept c ps[p] pl) (q : PlaneId) :
    FlagsKept c ps[q] (put ps p pl)[q] := by
  by_cases hq : p = q
  · subst hq; rwa [get_put_self]
  · rw [get_put_ne _ _ hq]; exact .refl _

theorem Move.flagsKept (hreset : ∀ straps, c ≠ .deviceReset straps ∧ c ≠ .resetDevice straps) (h : Move c s t) (p : PlaneId) :
    FlagsKept c s.planes[p] t.planes[p] := by
  cases h with
  | planes ps hps => exact .of_planeKept (hps p)
  | planeReady q _ hq =>
    refine flagsKept_put (p := q) ?_ p
    exact ⟨id, fun hf => PlaneState.noConfusion (hq.symm.trans hf), .inl⟩
  | planeFaulty q _ =>
    refine flagsKept_put (p := q) ?_ p
    exact ⟨fun _ => rfl, fun _ => rfl, .inl⟩
  | drainDown =>
    have hget : (withdrawLoads s.planes)[p] = { s.planes[p] with drain := [] } := get_mapV _ s.planes p p.isLt
    exact hget ▸ ⟨id, id, .inl⟩
  | deviceReset straps hc => exact (hc.elim (hreset straps).1 (hreset straps).2).elim
  | _ => exact .refl _

/-- Settles O13: the flags by the moves. -/
theorem planeFlagsStayUntilTheirClearing : Obligations.PlaneFlagsStayUntilTheirClearing := by
  intro c s t p h hreset
  obtain ⟨hfault, hstate, hlapse⟩ := (exec_moves h).rel (R := fun s t => FlagsKept c s.planes[p] t.planes[p])
    (fun _ => .refl _) (fun _ _ _ => .trans) fun _ _ h => Move.flagsKept hreset h p
  refine ⟨fun hf => ⟨hfault hf, hstate⟩, fun hl ht => (hlapse hl).resolve_left fun hkept => ?_⟩
  rw [ht] at hkept
  cases hkept

/-- Settles O15: by the forms of the answers. -/
theorem nothingActsWhileTheResetPinIsLow : Obligations.NothingActsWhileTheResetPinIsLow :=
  fun c s => (exec_answers c s).low

end

end Sys2Proof.Machine
end

section
/-! PROOFS. What an event can do to a channel, to RM and to MK: every event is a chain of a few engine moves. -/

namespace Sys2Proof.Machine

open Sys2Proof.Safety

/-! ## The moves of an engine -/

/-- Nothing is open: what holds of a channel whose record and group have just ended. -/
def Channel.closed (ch : Channel) : Prop := ch.record = none ∧ ch.group = none

/-- One move of a channel's engine. Where a move needs the channel closed, it is so in every sound channel. -/
inductive EngineMove (v : Env) : Engine → Engine → Prop where
  | sealed (e : Engine) (cause : SealCause) : EngineMove v e (sealFilling v cause e)
  | placed (e : Engine) (g : Group) (hs : e.ch.state = .active) (hg : e.ch.group = some g) : EngineMove v e (placeGroup v g e)
  | ended (e : Engine) (kind : EndKind) : EngineMove v e (closeRecord kind e)
  | profile (e : Engine) (x : Option CurrentProfile) (hx : x = none ∨ e.ch.state = .active)
      (hc : ChannelSound e.ch → e.ch.closed) : EngineMove v e { e with ch := { e.ch with current := x } }
  | join (e : Engine) (a : Arrival) (cp : CurrentProfile) (hs : e.ch.state = .active)
      (hcp : ∀ cp', e.ch.current = some cp' → cp' = cp) :
      EngineMove v e { e with ch := { e.ch with
        current := some cp, group := some (joinedGroup a e.ch), nextIndex := e.ch.nextIndex + 1#64 } }
  | exitLoss (e : Engine) (hs : e.ch.state = .loss) (hok : (offerGap e).2 = true) :
      EngineMove v e { (offerGap e).1 with ch := { (offerGap e).1.ch with state := .active, current := none } }
  | lengthen (e : Engine) (n : Word64) (f : Gap → Gap) (hs : e.ch.state = .loss)
      (hf : ∀ g, (f g).firstIndex = g.firstIndex ∧ (f g).count = g.count + n) :
      EngineMove v e { e with ch := { e.ch with nextIndex := e.ch.nextIndex + n, gap := e.ch.gap.map f } }
  | enterLoss (e : Engine) (g : Gap) (hs : e.ch.state = .active) (hg : g.firstIndex = e.ch.nextIndex)
      (hc : ChannelSound e.ch → e.ch.closed ∧ e.ch.current = none) :
      EngineMove v e { e with ch := { e.ch with state := .loss, gap := some g, nextIndex := e.ch.nextIndex + g.count } }
  | disarm (e : Engine) (hs : e.ch.state = .armed) : EngineMove v e { e with ch := { e.ch with state := .idle } }
  | activated (e : Engine) (d : Delivery) (hs : e.ch.state = .armed) : EngineMove v e { e with ch := activate d e.ch }
  | swept (e : Engine) (x : Word32) : EngineMove v e { e with ch := { e.ch with lastSweep := x } }
  | timer (e : Engine) (x : Timer) : EngineMove v e { e with ch := { e.ch with sealTimer := x } }
  | closing (e : Engine) (hs : e.ch.state = .active ∨ e.ch.state = .loss)
      (hc : ChannelSound e.ch → e.ch.closed ∧ e.ch.current = none) :
      EngineMove v e { (offerGap (giveUpBlock v e)).1 with
        ch := ({ (offerGap (giveUpBlock v e)).1.ch with state := .closing }).closeIfDone }
  | offeredAgain (e : Engine) : EngineMove v e (offerAgain v e)

/-- A chain of moves of an engine. -/
abbrev EngineMoves (v : Env) : Engine → Engine → Prop := Relation.ReflTransGen (EngineMove v)

theorem EngineMoves.keep {v : Env} {P : Engine → Prop} (hP : ∀ e e', EngineMove v e e' → P e → P e') {e e' : Engine}
    (h : EngineMoves v e e') (he : P e) : P e' := by
  induction h with
  | refl => exact he
  | tail _ hm ih => exact hP _ _ hm ih

theorem EngineMoves.rel {v : Env} {R : Engine → Engine → Prop} (hrefl : ∀ e, R e e) (htrans : ∀ a b c, R a b → R b c → R a c)
    (hR : ∀ e e', EngineMove v e e' → R e e') {e e' : Engine} (h : EngineMoves v e e') : R e e' := by
  induction h with
  | refl => exact hrefl e
  | tail _ hm ih => exact htrans _ _ _ ih (hR _ _ hm)

section
variable {v : Env} {e : Engine}

/-! ## Ends of records -/

/-- What `breakEnd` does before the profile goes. -/
def breakRecord (v : Env) (e : Engine) : Engine :=
  closeRecord .break_ (match e.ch.group with
    | none => e
    | some g => placeGroup v g e)

theorem breakEnd_eq (v : Env) (e : Engine) :
    breakEnd v e = { (breakRecord v e) with ch := { (breakRecord v e).ch with current := none } } := rfl

theorem breakRecord_group (v : Env) (e : Engine) : (breakRecord v e).ch.group = none := (breakEnd_frame v e).2.2.2.1

/-- A sound channel without a profile has nothing open. -/
theorem closed_of_no_profile {ch : Channel} (h : ChannelSound ch) (hc : ch.current = none) : ch.closed := by
  obtain ⟨hrecord, hgroup, -⟩ := h
  rw [hc] at hrecord hgroup
  exact ⟨Option.not_isSome_iff_eq_none.mp fun h => Bool.noConfusion (hrecord h),
    Option.not_isSome_iff_eq_none.mp fun h => Bool.noConfusion (hgroup h)⟩

theorem closeRecord_of_no_profile {kind : EndKind} (h : e.ch.current = none) : closeRecord kind e = e := by
  unfold closeRecord
  rw [h]
  cases e.ch.record <;> rfl

/-- A record without a profile is what a close leaves open. -/
theorem closeRecord_record_of (kind : EndKind) (e : Engine) :
    (closeRecord kind e).ch.record = none ∨ (closeRecord kind e = e ∧ e.ch.current = none) := by
  cases hc : e.ch.current with
  | none => exact .inr ⟨closeRecord_of_no_profile hc, rfl⟩
  | some cp => exact .inl (closeRecord_record fun _ => by simp [hc])

theorem closeRecord_closed {kind : EndKind} (hs : ChannelSound (closeRecord kind e).ch) : (closeRecord kind e).ch.record = none := by
  rcases closeRecord_record_of kind e with h | ⟨h, hc⟩
  · exact h
  · rw [h] at hs ⊢
    exact (closed_of_no_profile hs hc).1

theorem moves_breakEnd (hs : e.ch.state = .active) : EngineMoves v e (breakEnd v e) := by
  have hrecord : EngineMoves v e (breakRecord v e) := by
    unfold breakRecord
    split
    · exact .single (.ended e .break_)
    · next g hg => exact Relation.ReflTransGen.tail (.single (.placed e g hs hg)) (.ended _ .break_)
  rw [breakEnd_eq]
  refine hrecord.tail (.profile _ none (.inl rfl) fun hsound => ⟨?_, breakRecord_group v e⟩)
  exact closeRecord_closed hsound

/-- After a BREAK end a sound channel is closed and has no profile. -/
theorem breakEnd_closed (hs : ChannelSound (breakEnd v e).ch) : (breakEnd v e).ch.closed ∧ (breakEnd v e).ch.current = none := by
  obtain ⟨-, -, -, -, hcurrent⟩ := breakEnd_frame v e
  exact ⟨closed_of_no_profile hs hcurrent, hcurrent⟩

theorem breakEnd_state (v : Env) (hs : e.ch.state = .active) :
    (breakEnd v e).ch.state = .active ∨ (breakEnd v e).ch.state = .loss := by
  rcases (breakEnd_frame v e).2.2.1 with h | ⟨-, h⟩
  · exact .inl (h.trans hs)
  · exact .inr h

/-! ## Arrivals -/

theorem moves_groupSample (a : Arrival) (hs : e.ch.state = .active) : EngineMoves v e (groupSample v a e) := by
  have hjoin : EngineMoves v e { e with ch := { e.ch with
      current := some (groupingProfile v a.zones e), group := some (joinedGroup a e.ch), nextIndex := e.ch.nextIndex + 1#64 } } :=
    .single (.join e a _ hs fun cp' hcp => by rw [groupingProfile, hcp])
  unfold groupSample
  dsimp only
  split
  · exact hjoin.tail (.placed _ (joinedGroup a e.ch) hs rfl)
  · exact hjoin

theorem moves_stayInLoss (a : Arrival) (hs : e.ch.state = .loss) : EngineMoves v e (stayInLoss v a e) :=
  .single (.lengthen e 1#64 _ hs fun _ => ⟨rfl, rfl⟩)

theorem offerGap_cases (e : Engine) :
    (e.ch.gap = none ∧ offerGap e = (e, true)) ∨
    (∃ g, e.ch.gap = some g ∧ g.count = 0#64 ∧ offerGap e = ({ e with ch := { e.ch with gap := none } }, true)) ∨
    (∃ g, e.ch.gap = some g ∧ g.count ≠ 0#64 ∧ e.marks.queue.length < 64 ∧
      offerGap e = ({ e with ch := { e.ch with gap := none }, marks := { e.marks with queue := e.marks.queue ++ [.gap g] } }, true)) ∨
    (∃ g, e.ch.gap = some g ∧ g.count ≠ 0#64 ∧ ¬ e.marks.queue.length < 64 ∧ offerGap e = (e, false)) := by
  unfold offerGap
  split
  · next h => exact .inl ⟨h, rfl⟩
  · next g h =>
    split
    · next hc => exact .inr (.inl ⟨g, h, hc, rfl⟩)
    · next hc =>
      split
      · next hq => exact .inr (.inr (.inl ⟨g, h, hc, hq, rfl⟩))
      · next hq => exact .inr (.inr (.inr ⟨g, h, hc, hq, rfl⟩))

/-- A refused offer leaves the engine. -/
theorem offerGap_of_refused (h : (offerGap e).2 = false) : (offerGap e).1 = e := by
  rcases offerGap_cases e with ⟨-, he⟩ | ⟨g, -, -, he⟩ | ⟨g, -, -, -, he⟩ | ⟨g, -, -, -, he⟩ <;> rw [he] at h ⊢ <;> cases h

/-- An accepted offer leaves no gap. -/
theorem offerGap_of_accepted (h : (offerGap e).2 = true) : (offerGap e).1.ch = { e.ch with gap := none } := by
  rcases offerGap_cases e with ⟨hg, he⟩ | ⟨g, -, -, he⟩ | ⟨g, -, -, -, he⟩ | ⟨g, -, -, -, he⟩ <;> rw [he] at h ⊢
  · rw [← hg]
  · cases h

theorem offerGap_rm (e : Engine) : (offerGap e).1.rm = e.rm := by
  rcases offerGap_cases e with ⟨-, he⟩ | ⟨g, -, -, he⟩ | ⟨g, -, -, -, he⟩ | ⟨g, -, -, -, he⟩ <;> rw [he]

theorem moves_arriveLoss (a : Arrival) (hs : e.ch.state = .loss) : EngineMoves v e (arriveLoss v a e) := by
  unfold arriveLoss
  split
  · split
    · next e1 he =>
      have hok : (offerGap e).2 = true := by rw [he]
      have hexit := EngineMove.exitLoss (v := v) e hs hok
      rw [he] at hexit
      exact Relation.ReflTransGen.head hexit (moves_groupSample a rfl)
    · next e1 he =>
      have hkept : e1 = e := by
        have := offerGap_of_refused (e := e) (by rw [he])
        rwa [he] at this
      rw [hkept]
      exact moves_stayInLoss a hs
  · exact moves_stayInLoss a hs

theorem lose_of_active {ch : Channel} (first n frame : Word64) (cause : LossCause) (h : ch.state = .active) :
    lose v first n frame cause ch = { ch with state := .loss, gap := some (Gap.start v.c ch.run first n (some frame) cause) } := by
  simp only [lose, h]

theorem lose_of_loss {ch : Channel} (first n frame : Word64) (cause : LossCause) (h : ch.state = .loss) :
    lose v first n frame cause ch = { ch with gap := ch.gap.map (Gap.extend n frame cause) } := by
  simp only [lose, h]

theorem moves_enterShed (a : Arrival) (hs : e.ch.state = .active) (hc : ChannelSound e.ch → e.ch.closed ∧ e.ch.current = none) :
    EngineMoves v e (enterShed v a e) := by
  unfold enterShed
  rw [lose_of_active _ _ _ _ hs]
  exact .single (.enterLoss e (Gap.start v.c e.ch.run e.ch.nextIndex 1#64 (some a.frame) .shed) hs rfl hc)

theorem moves_arriveActive (a : Arrival) (hs : e.ch.state = .active) : EngineMoves v e (arriveActive v a e) := by
  unfold arriveActive
  split
  · refine (moves_breakEnd hs).trans ?_
    dsimp only
    split
    · next hl => exact moves_arriveLoss a hl
    · next hl => exact moves_enterShed a ((breakEnd_state v hs).resolve_right hl) breakEnd_closed
  · split
    · refine (moves_breakEnd hs).trans ?_
      dsimp only
      split
      · next hl => exact moves_arriveLoss a hl
      · next hl =>
        have ha := (breakEnd_state v hs).resolve_right hl
        exact Relation.ReflTransGen.head (.profile _ _ (.inr ha) fun h => (breakEnd_closed h).1) (moves_groupSample a ha)
    · exact moves_groupSample a hs

theorem moves_arrive (a : Arrival) : EngineMoves v e (arrive v a e) := by
  unfold arrive
  split
  · next hs => exact moves_arriveActive a hs
  · next hs => exact moves_arriveLoss a hs
  all_goals exact .refl

theorem moves_arriveAll (d : Delivery) : EngineMoves v e (arriveAll v d e) := by
  unfold arriveAll
  generalize d.samples = xs
  induction xs generalizing e with
  | nil => exact .refl
  | cons x xs ih => exact (moves_arrive _).trans ih

/-! ## Boundaries, reports, changes of the stream -/

theorem moves_boundaryHandling : EngineMoves v e (boundaryHandling v e) := by
  have hbreak : EngineMoves v e (if e.ch.state = .active then breakEnd v e else e) := by
    split
    · next hs => exact moves_breakEnd hs
    · exact .refl
  refine hbreak.trans ?_
  unfold boundaryHandling
  generalize (if e.ch.state = .active then breakEnd v e else e) = e1
  dsimp only
  split
  · exact .single (.sealed e1 .sweep)
  · exact .refl

theorem moves_deliver (d : Delivery) : EngineMoves v e (deliver v d e) := by
  have hrunning : EngineMoves v e (let e1 := if d.boundary || d.sweep != e.ch.lastSweep then boundaryHandling v e else e
      arriveAll v d { e1 with ch := { e1.ch with lastSweep := d.sweep } }) := by
    dsimp only
    split
    · exact (moves_boundaryHandling.tail (.swept _ d.sweep)).trans (moves_arriveAll d)
    · exact Relation.ReflTransGen.head (.swept e d.sweep) (moves_arriveAll d)
  unfold deliver
  split
  · exact .refl
  · exact .refl
  · next hs =>
    split
    · exact Relation.ReflTransGen.head (.activated e d hs) (moves_arriveAll d)
    · exact .refl
  · exact hrunning
  · exact hrunning

/-- A loss of `n` samples from the next index on: an ACTIVE channel enters LOSS, a LOSS channel's gap grows. -/
theorem moves_lose (n frame : Word64) (cause : LossCause) (hs : e.ch.state = .active ∨ e.ch.state = .loss)
    (hc : e.ch.state = .active → ChannelSound e.ch → e.ch.closed ∧ e.ch.current = none) :
    EngineMoves v e { e with ch := { lose v e.ch.nextIndex n frame cause e.ch with nextIndex := e.ch.nextIndex + n } } := by
  rcases hs with hs | hs
  · rw [lose_of_active _ _ _ _ hs]
    exact .single (.enterLoss e (Gap.start v.c e.ch.run e.ch.nextIndex n (some frame) cause) hs rfl (hc hs))
  · rw [lose_of_loss _ _ _ _ hs]
    exact .single (.lengthen e n (Gap.extend n frame cause) hs fun _ => ⟨rfl, rfl⟩)

theorem moves_missedReport (n frame : Word64) : EngineMoves v e (missedReport v n frame e) := by
  unfold missedReport
  split
  · next hs => exact (moves_breakEnd hs).trans (moves_lose n frame .frame (breakEnd_state v hs) fun _ => breakEnd_closed)
  · next hs => exact moves_lose n frame .frame (.inr hs) fun ha => by rw [hs] at ha; cases ha
  all_goals exact .refl

theorem moves_addHeld (hs : e.ch.state = .loss) : EngineMoves v e { e with ch := addHeld e.ch } := by
  have h := EngineMove.lengthen (v := v) e 0#64 (fun g => { g with causes := addCause g.causes .held }) hs
    fun _ => ⟨rfl, (BitVec.add_zero _).symm⟩
  rw [BitVec.add_zero] at h
  exact .single h

theorem moves_leaveRun : EngineMoves v e (leaveRun v e) := by
  unfold leaveRun
  split
  · next hs =>
    refine (moves_breakEnd hs).trans ?_
    dsimp only
    split
    · next ha =>
      have h := EngineMove.enterLoss (v := v) (breakEnd v e)
        (Gap.start v.c (breakEnd v e).ch.run (breakEnd v e).ch.nextIndex 0#64 none .held) ha rfl breakEnd_closed
      have hzero : (breakEnd v e).ch.nextIndex + (Gap.start v.c (breakEnd v e).ch.run (breakEnd v e).ch.nextIndex 0#64 none
        .held).count = (breakEnd v e).ch.nextIndex := BitVec.add_zero _
      rw [hzero] at h
      exact .single h
    · next ha => exact moves_addHeld ((breakEnd_state v hs).resolve_left ha)
  · next hs => exact moves_addHeld hs
  all_goals exact .refl

/-! ## Stopping and closing -/

/-- A channel in LOSS has no profile, so nothing open. -/
theorem closed_of_loss {ch : Channel} (h : ChannelSound ch) (hs : ch.state = .loss) : ch.closed ∧ ch.current = none := by
  obtain ⟨-, -, -, -, hstate⟩ := id h
  rw [hs] at hstate
  exact ⟨closed_of_no_profile h hstate.1, hstate.1⟩

theorem moves_stopRun (hs : e.ch.state = .active ∨ e.ch.state = .loss) : EngineMoves v e (stopRun v e) := by
  unfold stopRun
  by_cases ha : e.ch.state = .active
  · rw [if_pos ha]
    exact (moves_breakEnd ha).tail (.closing _ (breakEnd_state v ha) breakEnd_closed)
  · rw [if_neg ha]
    exact .single (.closing e hs fun h => closed_of_loss h (hs.resolve_left ha))

theorem moves_stopChannel : EngineMoves v e (stopChannel v e).1 := by
  unfold stopChannel
  split
  · next hs => exact .single (.disarm e hs)
  · next hs => exact moves_stopRun (.inl hs)
  · next hs => exact moves_stopRun (.inr hs)
  all_goals exact .refl

theorem moves_flushChannel : EngineMoves v e (flushChannel v e).1 := by
  unfold flushChannel
  split
  · split
    · exact Relation.ReflTransGen.tail (.single (.ended e .split)) (.sealed _ .flush)
    · exact .refl
  · split
    · exact .single (.sealed e .flush)
    · exact .refl
  all_goals exact .refl

theorem moves_sealAgeExpiry : EngineMoves v e (sealAgeExpiry v e) := by
  unfold sealAgeExpiry
  split
  · exact Relation.ReflTransGen.tail (.single (.ended e .split)) (.sealed _ .age)
  · exact .single (.timer e none)

/-- Every event is a chain of engine moves, but for the START of an IDLE channel. -/
theorem ChannelEvent.moves {c : Instr} {st : StreamState} {f : Env → Engine → Engine} (hf : ChannelEvent c st f) :
    EngineMoves v e (f v e) ∨
    (c = .channelStart ∧ st ≠ .init ∧ e.ch.state = .idle ∧
      f v e = { e with ch := { e.ch with state := .armed, run := e.ch.run + 1#8 } }) := by
  cases hf with
  | deliver d => exact .inl (moves_deliver d)
  | missed n frame => exact .inl (moves_missedReport n frame)
  | leaveRun => exact .inl moves_leaveRun
  | standby => exact .inl moves_stopChannel
  | start hc hst =>
    dsimp only
    unfold startChannel
    split
    · next hs => exact .inr ⟨hc, hst, hs, rfl⟩
    all_goals exact .inl .refl
  | stop => exact .inl moves_stopChannel
  | flush => exact .inl moves_flushChannel
  | sealAge => exact .inl moves_sealAgeExpiry
  | offerAgain => exact .inl (.single (.offeredAgain e))

end

end Sys2Proof.Machine
end

section
/-! PROOFS. Channels stay sound: every engine move keeps a channel's parts in agreement with its state. -/

namespace Sys2Proof.Machine

open Sys2Proof.Safety

/-! ## The open record and the pack register -/

/-- What soundness says of the open record and the pack register. -/
def RecordSound (ch : Channel) : Prop :=
  (ch.record.isSome → ch.current.isSome) ∧ (ch.pack.isSome → ∃ r, ch.record = some r ∧ 0 < r.valueCount)

section
variable {v : Env} {e : Engine} {ch : Channel}

theorem RecordSound.of_sound (h : ChannelSound ch) : RecordSound ch := by
  obtain ⟨hrecord, -, hpack, -⟩ := h
  exact ⟨hrecord, hpack⟩

/-- With no record open no pair is incomplete. -/
theorem RecordSound.pack_none (h : RecordSound ch) (hr : ch.record = none) : ch.pack = none := by
  refine Option.not_isSome_iff_eq_none.mp fun hp => ?_
  obtain ⟨r, hsome, -⟩ := h.2 hp
  rw [hr] at hsome
  cases hsome

theorem RecordSound.of_none (hr : ch.record = none) (hp : ch.pack = none) : RecordSound ch := by
  rw [RecordSound, hr, hp]
  exact ⟨nofun, nofun⟩

/-- The fields a placement may not depend on. -/
theorem RecordSound.congr {ch' : Channel} (h : RecordSound ch) (hc : ch'.current = ch.current) (hr : ch'.record = ch.record)
    (hp : ch'.pack = ch.pack) : RecordSound ch' := by
  rwa [RecordSound, hc, hr, hp]

theorem closeRecord_pack (kind : EndKind) (h : RecordSound e.ch) : (closeRecord kind e).ch.pack = none := by
  cases hr : e.ch.record with
  | none => rw [closeRecord_of_none hr, h.pack_none hr]
  | some r =>
    obtain ⟨cp, hc⟩ := Option.isSome_iff_exists.mp (h.1 (by rw [hr]; rfl))
    simp [closeRecord, hr, hc]

theorem recordSound_closeRecord (kind : EndKind) (h : RecordSound e.ch) : RecordSound (closeRecord kind e).ch :=
  .of_none (closeRecord_record h.1) (closeRecord_pack kind h)

/-- A placement opens or keeps nothing that a failure would leave: sealing and allocating leave the record. -/
theorem ensureBlock_record (v : Env) (need : Nat) (e : Engine) :
    (ensureBlock v need e).1.ch.record = e.ch.record ∧ (ensureBlock v need e).1.ch.pack = e.ch.pack ∧
    (ensureBlock v need e).1.ch.runs = e.ch.runs ∧ (ensureBlock v need e).1.ch.waiting = e.ch.waiting := by
  have hseal : ∀ e1, e1 = (if e.ch.filling.isSome && decide (Config.blockSize < e.fillingUsed + need)
      then sealFilling v .full e else e) →
      e1.ch.record = e.ch.record ∧ e1.ch.pack = e.ch.pack ∧ e1.ch.runs = e.ch.runs ∧ e1.ch.waiting = e.ch.waiting := by
    rintro e1 rfl
    obtain ⟨-, -, -, -, -, -, -, -, h9, h10, h11, h12, -⟩ := sealFilling_frame v .full e
    split
    · exact ⟨h9, h10, h11, h12⟩
    · exact ⟨rfl, rfl, rfl, rfl⟩
  have h := hseal _ rfl
  unfold ensureBlock
  generalize (if e.ch.filling.isSome && decide (Config.blockSize < e.fillingUsed + need)
    then sealFilling v .full e else e) = e1 at h ⊢
  dsimp only
  split
  · exact h
  · split <;> exact h

theorem groupValues_length_pos (p : Profile) (g : Group) : 0 < (groupValues p g).length := by
  unfold groupValues stage1
  cases p.mode <;> simp

/-- A unit placed in an open record, or its failure. -/
theorem recordSound_placeUnit (p : Profile) (g : Group) (hcur : e.ch.current.isSome) (h : RecordSound e.ch) :
    RecordSound (placeUnit p g e).1.ch := by
  unfold placeUnit
  split
  · exact h
  · next r hr =>
    have hemit : RecordSound (emitUnit p g r e).ch :=
      ⟨fun _ => hcur, fun _ => ⟨r.grow (groupValues p g) g, rfl, Nat.add_pos_right _ (groupValues_length_pos p g)⟩⟩
    split
    · dsimp only
      split
      · exact recordSound_closeRecord .split hemit
      · exact hemit
    · split
      · next hz =>
        dsimp only
        rw [(abandonRecord_frame e).2]
        refine .of_none rfl (Option.not_isSome_iff_eq_none.mp fun hp => ?_)
        obtain ⟨r', hr', hpos⟩ := h.2 hp
        rw [hr] at hr'
        cases hr'
        exact hpos.ne' hz
      · exact h

theorem openRecord_pack (v : Env) (need : Nat) (g : Group) (e : Engine) : (openRecord v need g e).ch.pack = e.ch.pack := by
  unfold openRecord
  split <;> rfl

theorem recordSound_startRecord (p : Profile) (g : Group) (hcur : e.ch.current.isSome) (h : RecordSound e.ch)
    (hr : e.ch.record = none) : RecordSound (startRecord v p g e).1.ch := by
  have hpack := h.pack_none hr
  obtain ⟨hrecord, hpack', -, -⟩ := ensureBlock_record v (recordSize p.width p.recordLen) e
  obtain ⟨-, -, -, -, hcurrent, -⟩ := ensureBlock_placement v (recordSize p.width p.recordLen) e
  unfold startRecord
  split
  · next e1 he =>
    rw [he] at hrecord hpack'
    exact .of_none (hrecord.trans hr) (hpack'.trans hpack)
  · next e1 he =>
    rw [he] at hrecord hpack' hcurrent
    split
    · exact .of_none (hrecord.trans hr) (hpack'.trans hpack)
    · have hnone : (openRecord v (recordSize p.width p.recordLen) g e1).ch.pack = none :=
        (openRecord_pack v _ g e1).trans (hpack'.trans hpack)
      obtain ⟨-, -, -, -, hc, -⟩ := openRecord_placement v (recordSize p.width p.recordLen) g e1
      refine ⟨fun _ => ?_, fun hp => ?_⟩
      · rwa [hc, hcurrent]
      · rw [hnone] at hp
        cases hp

theorem recordSound_place (g : Group) (h : RecordSound e.ch) : RecordSound (place v g e).1.ch := by
  unfold place
  split
  · exact h
  · next cp hc =>
    have hcur : e.ch.current.isSome := by rw [hc]; rfl
    split
    · exact recordSound_placeUnit _ g hcur h
    · next hr =>
      have hstart := recordSound_startRecord (v := v) cp.content g hcur h (Option.not_isSome_iff_eq_none.mp hr)
      obtain ⟨-, -, -, -, hcurrent, -⟩ := startRecord_placement v cp.content g e
      split
      · next he => rw [he] at hstart; exact hstart
      · next e1 he =>
        rw [he] at hstart hcurrent
        exact recordSound_placeUnit _ g (by rw [hcurrent]; exact hcur) hstart

/-! ## A group placed -/

theorem placeGroup_of_success {g : Group} {e1 : Engine}
    (h : place v g { e with ch := { e.ch with group := none } } = (e1, none)) : placeGroup v g e = e1 := by
  unfold placeGroup
  rw [h]

theorem placeGroup_of_failure {g : Group} {e1 : Engine} {cause : LossCause}
    (h : place v g { e with ch := { e.ch with group := none } } = (e1, some cause)) :
    placeGroup v g e = failPlacement v g cause e1 := by
  unfold placeGroup
  rw [h]

theorem channelSound_placeGroup {g : Group} (hs : e.ch.state = .active) (hg : e.ch.group = some g) (h : ChannelSound e.ch) :
    ChannelSound (placeGroup v g e).ch := by
  have hrec : RecordSound (place v g { e with ch := { e.ch with group := none } }).1.ch :=
    recordSound_place g (.congr (.of_sound h) rfl rfl rfl)
  obtain ⟨⟨-, hindex, -⟩, -, hstate, hgap, -, hgroup⟩ := place_placement v g { e with ch := { e.ch with group := none } }
  obtain ⟨-, -, -, hends, hactive⟩ := h
  rw [hs] at hactive
  rcases hp : place v g { e with ch := { e.ch with group := none } } with ⟨e1, _ | cause⟩ <;>
    rw [hp] at hrec hindex hstate hgap hgroup
  · rw [placeGroup_of_success hp]
    refine ⟨hrec.1, ?_, hrec.2, ?_, ?_⟩
    · rw [hgroup]; exact nofun
    · rw [hgroup]; exact nofun
    · rw [hstate.trans hs]
      exact hgap.trans hactive
  · rw [placeGroup_of_failure hp]
    have hclosed := closeRecord_placement .break_ e1
    have hlost : (closeRecord .break_ e1).ch.state = .active := hclosed.2.2.1.trans (hstate.trans hs)
    unfold failPlacement
    dsimp only
    rw [lose_of_active (ch := { (closeRecord .break_ e1).ch with current := none, group := none }) _ _ _ _ hlost]
    have hrecord : (closeRecord .break_ e1).ch.record = none := closeRecord_record hrec.1
    refine ⟨?_, nofun, ?_, nofun, rfl, _, rfl, ?_⟩
    · simp [hrecord]
    · simp [closeRecord_pack .break_ hrec]
    · exact (hends g hg).trans (hindex.symm.trans hclosed.1.2.1.symm)

/-! ## The other moves -/

/-- What soundness reads of a channel; the filling block may go. -/
theorem channelSound_congr {ch' : Channel} (h : ChannelSound ch) (hc : ch'.current = ch.current) (hg : ch'.group = ch.group)
    (hr : ch'.record = ch.record) (hp : ch'.pack = ch.pack) (hn : ch'.nextIndex = ch.nextIndex) (hs : ch'.state = ch.state)
    (hgap : ch'.gap = ch.gap) (hruns : ch'.runs = ch.runs) (hw : ch'.waiting = ch.waiting)
    (hf : ch'.filling = ch.filling ∨ ch'.filling = none) : ChannelSound ch' := by
  obtain ⟨h1, h2, h3, h4, h5⟩ := h
  refine ⟨by rwa [hr, hc], by rwa [hg, hc], by rwa [hp, hr], by rwa [hg, hn], ?_⟩
  rw [hs]
  cases hstate : ch.state <;> rw [hstate] at h5
  case active => exact hgap.trans h5
  case loss =>
    dsimp only
    rwa [hc, hgap, hn]
  case closing => exact ⟨hc.trans h5.1, hf.elim (fun h => h.trans h5.2) id⟩
  all_goals
    dsimp only
    rw [hc, hgap, hruns, hw]
    exact ⟨h5.1, hf.elim (fun h => h.trans h5.2.1) id, h5.2.2⟩

theorem channelSound_closeRecord (kind : EndKind) (h : ChannelSound e.ch) : ChannelSound (closeRecord kind e).ch := by
  obtain ⟨hc, -⟩ | hnone := em (e.ch.current.isSome ∧ True)
  swap
  · rw [closeRecord_of_no_profile (Option.not_isSome_iff_eq_none.mp fun h => hnone ⟨h, trivial⟩)]
    exact h
  have hrec := recordSound_closeRecord kind (.of_sound h)
  obtain ⟨-, h2, h3, h4, h5, h6, h7, h8, h9, h10, -⟩ := closeRecord_frame kind e
  obtain ⟨-, hgroup, -, hends, hstate⟩ := h
  refine ⟨hrec.1, by rwa [h7, h6], hrec.2, by rwa [h7, h4], ?_⟩
  rw [h2]
  have hsome : e.ch.current ≠ none := Option.isSome_iff_ne_none.mp hc
  cases hs : e.ch.state <;> rw [hs] at hstate
  case active => exact h10.trans hstate
  all_goals exact absurd hstate.1 hsome

theorem joinedGroup_ends (a : Arrival) (h : ChannelSound ch) :
    (joinedGroup a ch).firstIndex + BitVec.ofNat 64 (joinedGroup a ch).n = ch.nextIndex + 1#64 := by
  obtain ⟨-, -, -, hends, -⟩ := h
  unfold joinedGroup
  split
  · rfl
  · next g hg =>
    change g.firstIndex + BitVec.ofNat 64 (g.n + 1) = _
    rw [← hends g hg, BitVec.ofNat_add, BitVec.add_assoc]

/-- A CLOSING channel that is done has what an IDLE one has. -/
theorem channelSound_closeIfDone (h : ChannelSound ch) : ChannelSound ch.closeIfDone := by
  unfold Channel.closeIfDone
  split
  · next hdone =>
    obtain ⟨hs, hgap, hwritten⟩ := hdone
    obtain ⟨h1, h2, h3, h4, h5⟩ := h
    rw [hs] at h5
    obtain ⟨hruns, hwaiting⟩ : ch.runs = [] ∧ ch.waiting = [] := by simpa [Channel.stagingWritten] using hwritten
    exact ⟨h1, h2, h3, h4, h5.1, h5.2, hgap, hruns, hwaiting⟩
  · exact h

theorem giveUpBlock_frame (v : Env) (e : Engine) :
    (giveUpBlock v e).marks = e.marks ∧ (giveUpBlock v e).ch.filling = none ∧
    (giveUpBlock v e).ch = { e.ch with filling := none, sealTimer := (giveUpBlock v e).ch.sealTimer } := by
  unfold giveUpBlock
  split
  · next h =>
    refine ⟨rfl, h, ?_⟩
    rw [← h]
  · next b h =>
    split
    · unfold sealFilling
      rw [h]
      exact ⟨rfl, rfl, rfl⟩
    · exact ⟨rfl, rfl, rfl⟩

/-- An offer changes the gap and MK alone. -/
theorem offerGap_ch (e : Engine) : (offerGap e).1.ch = e.ch ∨ (offerGap e).1.ch = { e.ch with gap := none } := by
  cases hok : (offerGap e).2 with
  | true => exact .inr (offerGap_of_accepted hok)
  | false => exact .inl (by rw [offerGap_of_refused hok])

/-- The engine as its run closes, before the test whether it is done. -/
theorem channelSound_closing (h : ChannelSound e.ch) (hc : e.ch.closed ∧ e.ch.current = none) :
    ChannelSound { (offerGap (giveUpBlock v e)).1.ch with state := .closing } := by
  obtain ⟨⟨hrecord, hgroup⟩, hcurrent⟩ := hc
  have hpack := (RecordSound.of_sound h).pack_none hrecord
  obtain ⟨-, -, hch⟩ := giveUpBlock_frame v e
  have hsound : ∀ g : Option Gap, ChannelSound { (giveUpBlock v e).ch with state := .closing, gap := g } := fun g => by
    rw [hch]
    exact ⟨by simp [hrecord], by simp [hgroup], by simp [hpack], by simp [hgroup], hcurrent, rfl⟩
  rcases offerGap_ch (giveUpBlock v e) with ho | ho <;> rw [ho]
  · exact hsound (giveUpBlock v e).ch.gap
  · exact hsound none

theorem channelSound_offerAgain (h : ChannelSound e.ch) : ChannelSound (offerAgain v e).ch := by
  unfold offerAgain
  split
  · next hcond =>
    refine channelSound_closeIfDone ?_
    rcases offerGap_ch e with ho | ho <;> rw [ho]
    · exact h
    · obtain ⟨h1, h2, h3, h4, h5⟩ := h
      rw [hcond.1] at h5
      refine ⟨h1, h2, h3, h4, ?_⟩
      dsimp only
      rw [hcond.1]
      exact h5
  · exact h

theorem EngineMove.channelSound {e' : Engine} (hm : EngineMove v e e') (h : ChannelSound e.ch) : ChannelSound e'.ch := by
  cases hm with
  | sealed cause =>
    obtain ⟨-, hf, hs, -, hn, -, hc, hg, hr, hp, hruns, hw, hgap⟩ := sealFilling_frame v cause e
    exact channelSound_congr h hc hg hr hp hn hs hgap hruns hw (.inr hf)
  | placed g hs hg => exact channelSound_placeGroup hs hg h
  | ended kind => exact channelSound_closeRecord kind h
  | profile x hx hc =>
    obtain ⟨hrecord, hgroup⟩ := hc h
    have hpack := (RecordSound.of_sound h).pack_none hrecord
    obtain ⟨-, -, -, -, hstate⟩ := h
    refine ⟨by simp [hrecord], by simp [hgroup], by simp [hpack], by simp [hgroup], ?_⟩
    dsimp only
    rcases hx with rfl | hs
    · cases hs : e.ch.state <;> rw [hs] at hstate
      case active => exact hstate
      all_goals exact ⟨rfl, hstate.2⟩
    · rw [hs] at hstate ⊢
      exact hstate
  | join a cp hs hcp =>
    obtain ⟨h1, h2, h3, h4, h5⟩ := id h
    refine ⟨fun _ => rfl, fun _ => rfl, h3, ?_, ?_⟩
    · rintro g ⟨⟩
      exact joinedGroup_ends a h
    · rw [hs] at h5
      dsimp only
      rw [hs]
      exact h5
  | exitLoss hs hok =>
    obtain ⟨⟨hrecord, hgroup⟩, hcurrent⟩ := closed_of_loss h hs
    have hpack := (RecordSound.of_sound h).pack_none hrecord
    rw [offerGap_of_accepted hok]
    exact ⟨by simp [hrecord], by simp [hgroup], by simp [hpack], by simp [hgroup], rfl⟩
  | lengthen n f hs hf =>
    obtain ⟨⟨hrecord, hgroup⟩, hcurrent⟩ := closed_of_loss h hs
    have hpack := (RecordSound.of_sound h).pack_none hrecord
    obtain ⟨-, -, -, -, h5⟩ := h
    rw [hs] at h5
    obtain ⟨-, g, hg, hends⟩ := h5
    refine ⟨by simp [hrecord], by simp [hgroup], by simp [hpack], by simp [hgroup], ?_⟩
    dsimp only
    rw [hs]
    refine ⟨hcurrent, f g, by rw [hg]; rfl, ?_⟩
    rw [(hf g).1, (hf g).2, ← BitVec.add_assoc, hends]
  | enterLoss g hs hg hc =>
    obtain ⟨⟨hrecord, hgroup⟩, hcurrent⟩ := hc h
    have hpack := (RecordSound.of_sound h).pack_none hrecord
    exact ⟨by simp [hrecord], by simp [hgroup], by simp [hpack], by simp [hgroup], hcurrent, g, rfl, by rw [hg]⟩
  | disarm hs =>
    obtain ⟨h1, h2, h3, h4, h5⟩ := h
    rw [hs] at h5
    exact ⟨h1, h2, h3, h4, h5⟩
  | activated d hs =>
    obtain ⟨-, -, -, -, h5⟩ := id h
    rw [hs] at h5
    obtain ⟨hcurrent, -, hgap, -⟩ := h5
    obtain ⟨hrecord, hgroup⟩ := closed_of_no_profile h hcurrent
    have hpack := (RecordSound.of_sound h).pack_none hrecord
    exact ⟨by simp [activate, hrecord], by simp [activate, hgroup], by simp [activate, hpack], by simp [activate, hgroup], hgap⟩
  | swept x => exact channelSound_congr h rfl rfl rfl rfl rfl rfl rfl rfl rfl (.inl rfl)
  | timer x => exact channelSound_congr h rfl rfl rfl rfl rfl rfl rfl rfl rfl (.inl rfl)
  | closing hs hc => exact channelSound_closeIfDone (channelSound_closing h (hc h))
  | offeredAgain => exact channelSound_offerAgain h

/-- An IDLE channel stays IDLE under every engine move. -/
theorem EngineMove.idle {e' : Engine} (hm : EngineMove v e e') (h : e.ch.state = .idle) : e'.ch.state = .idle := by
  cases hm with
  | sealed cause => exact (sealFilling_frame v cause e).2.2.1.trans h
  | placed g hs _ => rw [h] at hs; cases hs
  | ended kind => exact (closeRecord_frame kind e).2.1.trans h
  | profile x _ _ => exact h
  | join a cp hs _ => rw [h] at hs; cases hs
  | exitLoss hs _ => rw [h] at hs; cases hs
  | lengthen n f hs _ => exact h
  | enterLoss g hs _ _ => rw [h] at hs; cases hs
  | disarm hs => rfl
  | activated d hs => rw [h] at hs; cases hs
  | swept x => exact h
  | timer x => exact h
  | closing hs _ => rw [h] at hs; exact absurd hs (by decide)
  | offeredAgain =>
    unfold offerAgain
    rw [if_neg fun hc => by rw [h] at hc; exact absurd hc.1 (by decide)]
    exact h

end

/-! ## Events of the channels -/

section
variable {c : Instr} {st : StreamState} {f : Env → Engine → Engine} {v : Env} {e : Engine}

theorem ChannelEvent.channelSound (hf : ChannelEvent c st f) (h : ChannelSound e.ch) : ChannelSound (f v e).ch := by
  rcases hf.moves (v := v) (e := e) with hm | ⟨-, -, hs, he⟩
  · exact hm.keep (P := fun e => ChannelSound e.ch) (fun _ _ => EngineMove.channelSound) h
  · rw [he]
    obtain ⟨h1, h2, h3, h4, h5⟩ := h
    rw [hs] at h5
    exact ⟨h1, h2, h3, h4, h5⟩

theorem ChannelEvent.idle_of_init (hf : ChannelEvent c .init f) (h : e.ch.state = .idle) : (f v e).ch.state = .idle := by
  rcases hf.moves (v := v) (e := e) with hm | ⟨-, hst, -⟩
  · exact hm.keep (P := fun e => e.ch.state = .idle) (fun _ _ => EngineMove.idle) h
  · exact absurd rfl hst

end

/-! ## The channels of the part -/

/-- What holds of every channel is kept by a change of one that keeps it. -/
theorem forall_put {n : Nat} {α : Type} {P : Fin n → α → Prop} {xs : Vector α n} {i : Fin n} {a : α} (h : ∀ k, P k xs[k])
    (ha : P i a) (k : Fin n) : P k (put xs i a)[k] := by
  by_cases hk : i = k
  · subst hk; rwa [get_put_self]
  · rw [get_put_ne _ _ hk]; exact h k

/-- A change of the members of a list, one after another. -/
theorem foldl_put_get {n : Nat} {α : Type} (test : Fin n → Bool) (f : α → α) : ∀ (l : List (Fin n)) (xs : Vector α n) (k : Fin n),
    l.Nodup → (l.foldl (fun ys c => if test c then put ys c (f ys[c]) else ys) xs)[k] =
      if k ∈ l ∧ test k = true then f xs[k] else xs[k]
  | [], xs, k, _ => by simp
  | c :: l, xs, k, hl => by
    obtain ⟨hc, hl⟩ := List.nodup_cons.mp hl
    rw [List.foldl_cons, foldl_put_get test f l _ k hl]
    by_cases hk : k = c
    · subst hk
      by_cases ht : test k = true
      · simp only [hc, false_and, if_false, ht, if_true, List.mem_cons_self, true_and]
        exact get_put_self _ _ _
      · simp [hc, ht]
    · have hkeep : (if test c then put xs c (f xs[c]) else xs)[k] = xs[k] := by
        split
        · exact get_put_ne _ _ (Ne.symm hk)
        · rfl
      rw [hkeep]
      simp [hk]

theorem mem_allChannels (k : ChannelId) : k ∈ allChannels := by revert k; decide

theorem allChannels_nodup : allChannels.Nodup := by decide

/-- R179: the channels whose entry says autostart are armed with run 1. -/
theorem autostart_get (ts : TableStore) (cs : Vector Channel 16) (k : ChannelId) :
    (autostart ts cs)[k] = if ((ts.channels[k]).current).autostart then { cs[k] with state := .armed, run := 1#8 } else cs[k] := by
  have h := foldl_put_get (fun c => ((ts.channels[c]).current).autostart) (fun ch : Channel => { ch with state := .armed, run := 1#8 })
    allChannels cs k allChannels_nodup
  simp only [mem_allChannels, true_and] at h
  exact h

section
variable {c : Instr} {s t : State}

theorem channelSound_reset : ChannelSound Channel.reset :=
  ⟨nofun, nofun, nofun, nofun, rfl, rfl, rfl, rfl, rfl⟩

theorem channelSound_streamReset (ch : Channel) : ChannelSound ch.streamReset :=
  ⟨nofun, nofun, nofun, nofun, rfl, rfl, rfl, rfl, rfl⟩

/-- A change of one channel. -/
theorem channelsSound_put {k : ChannelId} {ch : Channel} {rm : Ring} {m : MarkUnit} (h : ChannelsSound s) (hch : ChannelSound ch)
    (hidle : s.mu.stream = .init → ch.state = .idle) :
    ChannelsSound { s with chans := put s.chans k ch, rm := rm, marks := m } := by
  obtain ⟨hsound, hphase, hinit⟩ := h
  refine ⟨forall_put (P := fun _ => ChannelSound) hsound hch, hphase, fun hs => ?_⟩
  exact forall_put (P := fun _ (x : Channel) => x.state = .idle) (hinit hs) (hidle hs)

/-- A channel whose staging a write leaves. -/
theorem closeIfDone_state_idle {ch : Channel} (h : ch.state = .idle) : ch.closeIfDone.state = .idle := by
  unfold Channel.closeIfDone
  split
  · rfl
  · exact h

/-- The staging buffer and the header slots may shrink: empty ones stay empty. -/
theorem channelSound_staging {ch : Channel} {runs : List StagedRun} {waiting : List WaitingHeader} (h : ChannelSound ch)
    (hruns : ch.runs = [] → runs = []) (hwaiting : ch.waiting = [] → waiting = []) :
    ChannelSound { ch with runs := runs, waiting := waiting } := by
  obtain ⟨h1, h2, h3, h4, h5⟩ := h
  refine ⟨h1, h2, h3, h4, ?_⟩
  dsimp only
  cases hs : ch.state <;> rw [hs] at h5
  case idle => exact ⟨h5.1, h5.2.1, h5.2.2.1, hruns h5.2.2.2.1, hwaiting h5.2.2.2.2⟩
  case armed => exact ⟨h5.1, h5.2.1, h5.2.2.1, hruns h5.2.2.2.1, hwaiting h5.2.2.2.2⟩
  all_goals exact h5

theorem Move.channelsSound (hm : Move c s t) (h : ChannelsSound s) : ChannelsSound t := by
  obtain ⟨hsound, hphase, hinit⟩ := id h
  cases hm with
  | event k f hf =>
    refine channelsSound_put h (hf.channelSound (hsound k)) fun hs => ?_
    rw [hs] at hf
    exact hf.idle_of_init (hinit hs k)
  | headerWritten k b =>
    refine channelsSound_put (m := s.marks) h (channelSound_closeIfDone
      (channelSound_staging (hsound k) id fun hw => by rw [hw]; rfl)) fun hs => closeIfDone_state_idle (hinit hs k)
  | payloadWritten k b n =>
    refine channelsSound_put (m := s.marks) h (channelSound_closeIfDone
      (channelSound_staging (waiting := (s.chans[k]).waiting) (hsound k) (fun hr => by rw [hr]; rfl) id))
      fun hs => closeIfDone_state_idle (hinit hs k)
  | startUp u hu => exact ⟨hsound, hu.trans hphase, hinit⟩
  | requests m _ hi => exact ⟨hsound, hphase.trans (not_congr hi.symm), fun hs => hinit (hi.mp hs)⟩
  | startUpOver run hnot _ =>
    have hidle : ∀ k : ChannelId, (s.chans[k]).state = .idle := hinit (not_not.mp fun hs => hnot (hphase.mpr hs))
    refine ⟨fun k => ?_, iff_of_true rfl ?_, fun hs => ?_⟩
    · change ChannelSound (if run then autostart s.ts s.chans else s.chans)[k]
      cases run
      · exact hsound k
      · change ChannelSound (autostart s.ts s.chans)[k]
        rw [autostart_get]
        split
        · obtain ⟨h1, h2, h3, h4, h5⟩ := hsound k
          rw [hidle k] at h5
          exact ⟨h1, h2, h3, h4, h5⟩
        · exact hsound k
    · cases run <;> exact nofun
    · cases run <;> cases hs
  | deviceReset straps _ =>
    have hget : ∀ k : ChannelId, (Vector.replicate 16 Channel.reset)[k] = Channel.reset := fun k => Vector.getElem_replicate k.isLt
    exact ⟨fun k => (hget k).symm ▸ channelSound_reset, iff_of_false nofun (fun h => h rfl), fun _ k => by
      change (Vector.replicate 16 Channel.reset)[k].state = _
      rw [hget]; rfl⟩
  | captureReset ps hst =>
    refine ⟨fun k => ?_, hphase, fun hs => absurd hs hst⟩
    have hget : (mapV Channel.streamReset s.chans)[k] = (s.chans[k]).streamReset := get_mapV _ s.chans k k.isLt
    exact hget ▸ channelSound_streamReset _
  | _ => exact h

/-- Settles O7: every move keeps the channels sound, an event by the engine moves it is a chain of. -/
theorem channelsStaySound : Obligations.ChannelsStaySound :=
  fun _ _ => step_keeps (fun _ _ => id) fun _ _ _ => Move.channelsSound

end

end Sys2Proof.Machine
end

section
/-! PROOFS. What every engine move keeps of a channel's run and of its staging buffer. -/

namespace Sys2Proof.Machine

open Sys2Proof.Safety

section
variable {v : Env} {e e' : Engine} {ch : Channel}

/-! ## The run number -/

@[simp] theorem closeIfDone_run (ch : Channel) : ch.closeIfDone.run = ch.run := by
  unfold Channel.closeIfDone; split <;> rfl

theorem offerGap_run (e : Engine) : (offerGap e).1.ch.run = e.ch.run := by
  rcases offerGap_ch e with h | h <;> rw [h]

theorem giveUpBlock_run (v : Env) (e : Engine) : (giveUpBlock v e).ch.run = e.ch.run := by
  rw [(giveUpBlock_frame v e).2.2]

theorem EngineMove.run (hm : EngineMove v e e') : e'.ch.run = e.ch.run := by
  cases hm with
  | sealed cause => exact (sealFilling_placement v cause e).1.1
  | placed g _ _ => exact (placeGroup_frame v g e).1.1
  | ended kind => exact (closeRecord_placement kind e).1.1
  | exitLoss _ _ => exact offerGap_run e
  | closing _ _ => exact (closeIfDone_run _).trans ((offerGap_run _).trans (giveUpBlock_run v e))
  | offeredAgain =>
    unfold offerAgain
    split
    · exact (closeIfDone_run _).trans (offerGap_run e)
    · rfl
  | _ => rfl

theorem ChannelEvent.run {c : Instr} {st : StreamState} {f : Env → Engine → Engine} (hf : ChannelEvent c st f)
    (hc : c ≠ .channelStart) : (f v e).ch.run = e.ch.run := by
  rcases hf.moves (v := v) (e := e) with hm | ⟨h, -⟩
  · exact hm.rel (R := fun a b => b.ch.run = a.ch.run) (fun _ => rfl) (fun _ _ _ h h' => h'.trans h) fun _ _ => EngineMove.run
  · exact absurd h hc

/-- Channel `k`'s run number is as it was. -/
def RunKept (k : ChannelId) (s t : State) : Prop := (t.chans[k]).run = (s.chans[k]).run

theorem runKept_put {k j : ChannelId} {cs : Vector Channel 16} {ch : Channel} (h : ch.run = (cs[j]).run) :
    ((put cs j ch)[k]).run = (cs[k]).run := by
  by_cases hk : j = k
  · subst hk; rw [get_put_self]; exact h
  · rw [get_put_ne _ _ hk]

theorem Move.run {c : Instr} {s t : State} (hstart : c ≠ .channelStart) (hflash : ∀ image, c ≠ .flashReadComplete image)
    (hreset : ∀ straps, c ≠ .deviceReset straps ∧ c ≠ .resetDevice straps) (hm : Move c s t) (k : ChannelId) :
    RunKept k s t := by
  cases hm with
  | event j f hf => exact runKept_put (j := j) (hf.run hstart)
  | headerWritten j b => exact runKept_put (j := j) (closeIfDone_run _)
  | payloadWritten j b n => exact runKept_put (j := j) (closeIfDone_run _)
  | startUpOver run _ hr =>
    cases run
    · rfl
    · obtain ⟨image, hc⟩ := hr rfl
      exact absurd hc (hflash image)
  | deviceReset straps hc => exact (hc.elim (hreset straps).1 (hreset straps).2).elim
  | captureReset ps _ =>
    have hget : (mapV Channel.streamReset s.chans)[k] = (s.chans[k]).streamReset := get_mapV _ s.chans k k.isLt
    exact Eq.trans (congrArg Channel.run hget) rfl
  | _ => rfl

/-- Settles O10: memory and the run numbers by the moves. -/
theorem memoryAndRunNumbersChangeOnlyByTheirCommands : Obligations.MemoryAndRunNumbersChangeOnlyByTheirCommands := by
  intro c s t h
  refine ⟨fun hc => exec_mem (fun hw => ?_) h, fun hstart hflash hreset k => ?_⟩
  · rcases hw with ⟨p, hp⟩ | ⟨p, hp⟩ | ⟨p, ready, hp⟩
    · exact (hc p).1 hp
    · exact (hc p).2.1 hp
    · exact (hc p).2.2 ready hp
  · exact (exec_moves h).rel (R := RunKept k) (fun _ => rfl) (fun _ _ _ h h' => Eq.trans h' h)
      fun _ _ h => Move.run hstart hflash hreset h k

/-! ## The bytes staged -/

/-- The emitted bytes not yet written of the runs (R55). -/
def pendingBytes (runs : List StagedRun) : Nat := runs.foldr (fun r n => r.pending.length + n) 0

/-- The room an incomplete pair holds (R55). -/
def heldBytes (pack : Option (BitVec 12)) : Nat := if pack.isSome then 3 else 0

theorem occupancy_eq (ch : Channel) : ch.occupancy = pendingBytes ch.runs + heldBytes ch.pack := rfl

@[simp] theorem pendingBytes_nil : pendingBytes [] = 0 := rfl
@[simp] theorem pendingBytes_cons (r : StagedRun) (t : List StagedRun) :
    pendingBytes (r :: t) = r.pending.length + pendingBytes t := rfl

theorem pendingBytes_append (l : List StagedRun) (r : StagedRun) :
    pendingBytes (l ++ [r]) = pendingBytes l + r.pending.length := by
  induction l with
  | nil => simp
  | cons a l ih => simp [ih, Nat.add_assoc]

theorem pendingBytes_emitBytes_le (bs : List Byte) : ∀ runs, pendingBytes (emitBytes bs runs) ≤ pendingBytes runs + bs.length
  | [] => Nat.zero_le _
  | [r] => by simp [emitBytes, onLastRun]
  | r :: r' :: t => by
    have ih := pendingBytes_emitBytes_le bs (r' :: t)
    simp only [emitBytes, onLastRun, pendingBytes_cons] at ih ⊢
    omega

theorem pendingBytes_closeRun : ∀ runs, pendingBytes (closeRun runs) = pendingBytes runs
  | [] => rfl
  | [r] => rfl
  | r :: r' :: t => by
    have ih := pendingBytes_closeRun (r' :: t)
    simp only [closeRun, onLastRun, pendingBytes_cons] at ih ⊢
    omega

theorem pendingBytes_dropFinished : ∀ runs, pendingBytes (dropFinished runs) = pendingBytes runs
  | [] => rfl
  | r :: t => by
    unfold dropFinished
    split
    · next h =>
      have hempty : r.pending = [] := List.isEmpty_iff.mp (Bool.and_eq_true_iff.mp h).2
      simp [pendingBytes_dropFinished t, hempty]
    · rfl

theorem pendingBytes_pieceWritten (n : Nat) (r : StagedRun) (t : List StagedRun) :
    pendingBytes (pieceWritten n (r :: t)) = (r.pending.length - n) + pendingBytes t := by
  simp [pieceWritten, pendingBytes_dropFinished]

/-- The lone value and the pad bytes of a close: 3 bytes at most beside those an incomplete pair holds (R53, R54). -/
theorem closingBytes_length_le (p : Profile) (r : OpenRecord) (pack : Option (BitVec 12)) :
    (closingBytes p r pack).length ≤ heldBytes pack + 3 := by
  have hpad : pad4 (payloadBytes p.width r.valueCount) - payloadBytes p.width r.valueCount ≤ 3 := by
    unfold pad4; omega
  cases pack with
  | none => simpa [closingBytes, heldBytes, zeros] using hpad
  | some a =>
    simp only [closingBytes, heldBytes, zeros, loneBytes, List.length_append, List.length_replicate, List.length_cons,
      List.length_nil, Option.isSome_some, if_true]
    omega

/-! ## A close, a unit, a group -/

theorem closeRecord_of_open {kind : EndKind} {r : OpenRecord} {cp : CurrentProfile} (hr : e.ch.record = some r)
    (hc : e.ch.current = some cp) :
    closeRecord kind e =
      { e with
        ch := { e.ch with pack := none, record := none
                          runs := dropFinished (closeRun (emitBytes (closingBytes cp.content r e.ch.pack) e.ch.runs))
                          waiting := e.ch.waiting ++ [⟨r.block, r.offset, closedHeader cp.content r kind⟩] }
        rm := e.rm.modify r.block (Descriptor.recordClosed cp.content r (closingBytes cp.content r e.ch.pack).length) } := by
  unfold closeRecord
  rw [hr, hc]

/-- The staging buffer with a record open: 3 bytes are kept for its padding. -/
def StagingOpen (ch : Channel) : Prop := ch.occupancy ≤ 4093 ∧ ch.waiting.length ≤ 1

theorem stagingFits_of_none (hr : ch.record = none) (ho : ch.occupancy ≤ 4096) (hw : ch.waiting.length ≤ 2) : StagingFits ch := by
  refine ⟨ho, fun h => ?_, ?_⟩
  · rw [hr] at h; cases h
  · simpa [hr] using hw

theorem stagingFits_of_open (h : StagingOpen ch) : StagingFits ch := by
  obtain ⟨ho, hw⟩ := h
  exact ⟨ho.trans (by decide), fun _ => ho, by split_ifs <;> omega⟩

theorem StagingFits.open_of_record (h : StagingFits ch) {r : OpenRecord} (hr : ch.record = some r) : StagingOpen ch := by
  obtain ⟨-, ho, hw⟩ := h
  rw [hr] at ho hw
  exact ⟨ho rfl, Nat.le_of_succ_le_succ hw⟩

theorem stagingFits_closeRecord (kind : EndKind) (h : StagingFits e.ch) : StagingFits (closeRecord kind e).ch := by
  cases hr : e.ch.record with
  | none => rwa [closeRecord_of_none hr]
  | some r =>
    cases hc : e.ch.current with
    | none => rwa [closeRecord_of_no_profile hc]
    | some cp =>
      obtain ⟨ho, hw⟩ := StagingFits.open_of_record h hr
      rw [closeRecord_of_open hr hc]
      refine stagingFits_of_none rfl ?_ (by simpa using hw)
      rw [occupancy_eq] at ho ⊢
      have hbytes := closingBytes_length_le cp.content r e.ch.pack
      have hemit := pendingBytes_emitBytes_le (closingBytes cp.content r e.ch.pack) e.ch.runs
      dsimp only
      rw [pendingBytes_dropFinished, pendingBytes_closeRun]
      change _ + 0 ≤ 4096
      omega

/-- A unit's bytes and the room its incomplete pair holds are what its check asked for; a value that completes a pair takes the
room that was held (R56). -/
theorem packUnit_room (p : Profile) (pack : Option (BitVec 12)) (g : Group) :
    (packUnit p pack (groupValues p g)).1.length + heldBytes (packUnit p pack (groupValues p g)).2 ≤
      (unitSize p pack).getD 0 + heldBytes pack := by
  obtain ⟨factor, mode, width, offset, recordLen⟩ := p
  cases mode <;> cases width <;> cases pack <;>
    simp [packUnit, groupValues, stage1, unitSize, heldBytes, valueBytes, pairBytes]

/-- A unit is not checked only where it completes a pair. -/
theorem pack_of_unitSize_none {p : Profile} {pack : Option (BitVec 12)} (h : unitSize p pack = none) : pack.isSome := by
  obtain ⟨factor, mode, width, offset, recordLen⟩ := p
  cases pack with
  | some a => rfl
  | none => cases mode <;> cases width <;> simp [unitSize] at h

theorem stagingOpen_emitUnit {p : Profile} {g : Group} {r : OpenRecord} (hfits : unitFits p e.ch = true)
    (hw : e.ch.waiting.length ≤ 1) (hpack : e.ch.pack.isSome → e.ch.occupancy ≤ 4093) : StagingOpen (emitUnit p g r e).ch := by
  refine ⟨?_, hw⟩
  have hroom := packUnit_room p e.ch.pack g
  have hruns : pendingBytes (if r.valueCount = 0 then e.ch.runs ++ [⟨r.block, r.offset, 0, [], false⟩] else e.ch.runs)
      = pendingBytes e.ch.runs := by
    split
    · simp [pendingBytes_append]
    · rfl
  have hemit := pendingBytes_emitBytes_le (packUnit p e.ch.pack (groupValues p g)).1
    (if r.valueCount = 0 then e.ch.runs ++ [⟨r.block, r.offset, 0, [], false⟩] else e.ch.runs)
  rw [hruns] at hemit
  change pendingBytes (emitBytes (packUnit p e.ch.pack (groupValues p g)).1
      (if r.valueCount = 0 then e.ch.runs ++ [⟨r.block, r.offset, 0, [], false⟩] else e.ch.runs))
    + heldBytes (packUnit p e.ch.pack (groupValues p g)).2 ≤ 4093
  rw [occupancy_eq] at hpack
  cases hsize : unitSize p e.ch.pack with
  | none =>
    have := hpack (pack_of_unitSize_none hsize)
    rw [hsize] at hroom
    simp only [Option.getD_none] at hroom
    omega
  | some n =>
    have hroomy : pendingBytes e.ch.runs + heldBytes e.ch.pack + n + 3 ≤ 4096 := by
      simpa [unitFits, hsize, occupancy_eq, Config.padReserve, Config.stagingSize] using hfits
    rw [hsize] at hroom
    simp only [Option.getD_some] at hroom
    omega

/-- What a unit asks of the staging buffer, with a record just opened or already holding values. -/
theorem stagingFits_placeUnit (p : Profile) (g : Group) (hrec : RecordSound e.ch) (ho : e.ch.occupancy ≤ 4096)
    (hw : ∀ r, e.ch.record = some r → e.ch.waiting.length ≤ 1 ∧ (0 < r.valueCount → e.ch.occupancy ≤ 4093))
    (hnone : e.ch.record = none → StagingFits e.ch) : StagingFits (placeUnit p g e).1.ch := by
  unfold placeUnit
  split
  · next hr => exact hnone hr
  · next r hr =>
    obtain ⟨hwait, hocc⟩ := hw r hr
    split
    · next hfits =>
      have hopen : StagingOpen (emitUnit p g r e).ch := stagingOpen_emitUnit hfits hwait fun hp => by
        obtain ⟨r', hr', hpos⟩ := hrec.2 hp
        rw [hr] at hr'
        cases hr'
        exact hocc hpos
      dsimp only
      split
      · exact stagingFits_closeRecord .split (stagingFits_of_open hopen)
      · exact stagingFits_of_open hopen
    · split
      · dsimp only
        rw [(abandonRecord_frame e).2]
        exact stagingFits_of_none rfl ho (hwait.trans (by decide))
      · next hz => exact stagingFits_of_open ⟨hocc (Nat.pos_of_ne_zero hz), hwait⟩

/-- What staging reads of a channel. -/
theorem stagingFits_congr {ch' : Channel} (h : StagingFits ch) (hr : ch'.record = ch.record) (hp : ch'.pack = ch.pack)
    (hruns : ch'.runs = ch.runs) (hw : ch'.waiting = ch.waiting) : StagingFits ch' := by
  rwa [StagingFits, occupancy_eq, hr, hp, hruns, hw, ← occupancy_eq]

theorem openRecord_staging (v : Env) (need : Nat) (g : Group) (e : Engine) :
    (openRecord v need g e).ch.runs = e.ch.runs ∧ (openRecord v need g e).ch.waiting = e.ch.waiting ∧
    ((openRecord v need g e).ch.record = e.ch.record ∨ ∃ r, (openRecord v need g e).ch.record = some r ∧ r.valueCount = 0) := by
  unfold openRecord
  split
  · exact ⟨rfl, rfl, .inl rfl⟩
  · exact ⟨rfl, rfl, .inr ⟨_, rfl, rfl⟩⟩

/-- R59: a record opens in the block that was ensured, with a header slot free, or a cause is named. -/
theorem startRecord_cases (v : Env) (p : Profile) (g : Group) (e : Engine) :
    (∃ cause, startRecord v p g e = ((ensureBlock v (recordSize p.width p.recordLen) e).1, some cause)) ∨
    ((ensureBlock v (recordSize p.width p.recordLen) e).1.ch.emptySlots ≠ 0 ∧ startRecord v p g e =
      (openRecord v (recordSize p.width p.recordLen) g (ensureBlock v (recordSize p.width p.recordLen) e).1, none)) := by
  unfold startRecord
  rcases ensureBlock v (recordSize p.width p.recordLen) e with ⟨e1, _ | _⟩
  · exact .inl ⟨_, rfl⟩
  · dsimp only
    split
    · exact .inl ⟨_, rfl⟩
    · next h => exact .inr ⟨h, rfl⟩

/-- The first value of a record just opened. -/
theorem stagingFits_opened {p : Profile} {need : Nat} (g : Group) (hr : e.ch.record = none) (hslots : e.ch.emptySlots ≠ 0)
    (hrec : RecordSound (openRecord v need g e).ch) (h : StagingFits e.ch) :
    StagingFits (placeUnit p g (openRecord v need g e)).1.ch := by
  obtain ⟨hruns, hw, hrecord⟩ := openRecord_staging v need g e
  have hocc : (openRecord v need g e).ch.occupancy = e.ch.occupancy := by
    rw [occupancy_eq, occupancy_eq, hruns, openRecord_pack]
  have hwait : e.ch.waiting.length ≤ 1 := by
    simp only [Channel.emptySlots, hr, Option.isSome_none] at hslots
    simp at hslots
    omega
  refine stagingFits_placeUnit p g hrec (hocc.trans_le h.1) (fun r hr' => ⟨by rwa [hw], fun hpos => ?_⟩)
    fun hn => stagingFits_of_none hn (hocc.trans_le h.1) (by rw [hw]; exact hwait.trans (by decide))
  rcases hrecord with hsame | ⟨r', hr'', hz⟩
  · rw [hsame, hr] at hr'; cases hr'
  · rw [hr''] at hr'; cases hr'; omega

theorem stagingFits_place (v : Env) (g : Group) (hrec : RecordSound e.ch) (h : StagingFits e.ch) :
    StagingFits (place v g e).1.ch := by
  unfold place
  split
  · exact h
  · next cp hcp =>
    split
    · exact stagingFits_placeUnit _ g hrec h.1
        (fun r hr => (StagingFits.open_of_record h hr).symm.imp_right fun ho _ => ho) fun _ => h
    · next hnot =>
      have hr := Option.not_isSome_iff_eq_none.mp hnot
      obtain ⟨hr1, hp1, hruns1, hw1⟩ := ensureBlock_record v (recordSize cp.content.width cp.content.recordLen) e
      have h1 : StagingFits (ensureBlock v (recordSize cp.content.width cp.content.recordLen) e).1.ch :=
        stagingFits_congr h hr1 hp1 hruns1 hw1
      have hstart := recordSound_startRecord (v := v) cp.content g (by rw [hcp]; rfl) hrec hr
      rcases startRecord_cases v cp.content g e with ⟨cause, he⟩ | ⟨hslots, he⟩ <;> rw [he] at hstart ⊢
      · exact h1
      · exact stagingFits_opened g (hr1.trans hr) hslots hstart h1

theorem stagingFits_placeGroup {g : Group} (hrec : RecordSound e.ch) (h : StagingFits e.ch) : StagingFits (placeGroup v g e).ch := by
  have hplace : StagingFits (place v g { e with ch := { e.ch with group := none } }).1.ch :=
    stagingFits_place v g (hrec.congr rfl rfl rfl) (stagingFits_congr h rfl rfl rfl rfl)
  rcases hp : place v g { e with ch := { e.ch with group := none } } with ⟨e1, _ | cause⟩ <;> rw [hp] at hplace
  · rwa [placeGroup_of_success hp]
  · rw [placeGroup_of_failure hp]
    refine stagingFits_congr (stagingFits_closeRecord .break_ hplace) ?_ ?_ ?_ ?_ <;>
      unfold failPlacement lose <;> dsimp only <;> split <;> rfl

theorem closeIfDone_staging (ch : Channel) : ch.closeIfDone.record = ch.record ∧ ch.closeIfDone.pack = ch.pack ∧
    ch.closeIfDone.runs = ch.runs ∧ ch.closeIfDone.waiting = ch.waiting := by
  unfold Channel.closeIfDone
  split <;> exact ⟨rfl, rfl, rfl, rfl⟩

theorem stagingFits_closeIfDone (h : StagingFits ch) : StagingFits ch.closeIfDone := by
  obtain ⟨h1, h2, h3, h4⟩ := closeIfDone_staging ch
  exact stagingFits_congr h h1 h2 h3 h4

theorem EngineMove.stagingFits (hm : EngineMove v e e') (hrec : RecordSound e.ch) (h : StagingFits e.ch) : StagingFits e'.ch := by
  cases hm with
  | sealed cause =>
    obtain ⟨-, -, -, -, -, -, -, -, hr, hp, hruns, hw, -⟩ := sealFilling_frame v cause e
    exact stagingFits_congr h hr hp hruns hw
  | placed g _ _ => exact stagingFits_placeGroup hrec h
  | ended kind => exact stagingFits_closeRecord kind h
  | exitLoss _ hok =>
    rw [offerGap_of_accepted hok]
    exact stagingFits_congr h rfl rfl rfl rfl
  | closing _ _ =>
    refine stagingFits_closeIfDone ?_
    obtain ⟨-, -, hch⟩ := giveUpBlock_frame v e
    rcases offerGap_ch (giveUpBlock v e) with ho | ho <;> rw [ho, hch] <;> exact stagingFits_congr h rfl rfl rfl rfl
  | offeredAgain =>
    unfold offerAgain
    split
    · refine stagingFits_closeIfDone ?_
      rcases offerGap_ch e with ho | ho <;> rw [ho]
      · exact h
      · exact stagingFits_congr h rfl rfl rfl rfl
    · exact h
  | _ => exact stagingFits_congr h rfl rfl rfl rfl

/-- A channel that is sound with its staging within bounds stays so under its events. -/
theorem ChannelEvent.stagingFits {c : Instr} {st : StreamState} {f : Env → Engine → Engine} (hf : ChannelEvent c st f)
    (hs : ChannelSound e.ch) (h : StagingFits e.ch) : StagingFits (f v e).ch := by
  rcases hf.moves (v := v) (e := e) with hm | ⟨-, -, -, he⟩
  · exact (hm.keep (P := fun e => ChannelSound e.ch ∧ StagingFits e.ch)
      (fun _ _ hm h => ⟨hm.channelSound h.1, hm.stagingFits (.of_sound h.1) h.2⟩) ⟨hs, h⟩).2
  · rw [he]
    exact stagingFits_congr h rfl rfl rfl rfl

end

/-! ## The staging buffers of the part -/

/-- A write shrinks what is staged. -/
theorem stagingFits_shrink {ch : Channel} {runs : List StagedRun} {waiting : List WaitingHeader} (h : StagingFits ch)
    (hruns : pendingBytes runs ≤ pendingBytes ch.runs) (hw : waiting.length ≤ ch.waiting.length) :
    StagingFits { ch with runs := runs, waiting := waiting } := by
  obtain ⟨ho, hopen, hwait⟩ := h
  rw [occupancy_eq] at ho hopen
  have hocc : ({ ch with runs := runs, waiting := waiting } : Channel).occupancy ≤ pendingBytes ch.runs + heldBytes ch.pack :=
    Nat.add_le_add_right hruns _
  exact ⟨hocc.trans ho, fun hr => hocc.trans (hopen hr), (Nat.add_le_add_right hw _).trans hwait⟩

theorem pendingBytes_pieceWritten_le (n : Nat) (runs : List StagedRun) : pendingBytes (pieceWritten n runs) ≤ pendingBytes runs := by
  cases runs with
  | nil => exact Nat.le_refl _
  | cons r t =>
    rw [pendingBytes_pieceWritten, pendingBytes_cons]
    omega

section
variable {c : Instr} {s t : State}

theorem stagingFits_empty {ch : Channel} (hr : ch.record = none) (hp : ch.pack = none) (hruns : ch.runs = [])
    (hw : ch.waiting = []) : StagingFits ch :=
  stagingFits_of_none hr (by rw [occupancy_eq, hp, hruns]; decide) (by rw [hw]; decide)

theorem Move.stagingFits (hm : Move c s t) (hs : ChannelsSound s) (h : ∀ k : ChannelId, StagingFits s.chans[k]) (k : ChannelId) :
    StagingFits t.chans[k] := by
  cases hm with
  | event j f hf => exact forall_put (P := fun _ => StagingFits) h (hf.stagingFits (hs.1 j) (h j)) k
  | headerWritten j b =>
    refine forall_put (P := fun _ => StagingFits) h (stagingFits_closeIfDone ?_) k
    exact stagingFits_shrink (runs := (s.chans[j]).runs) (h j) (Nat.le_refl _) (by simp)
  | payloadWritten j b n =>
    refine forall_put (P := fun _ => StagingFits) h (stagingFits_closeIfDone ?_) k
    exact stagingFits_shrink (waiting := (s.chans[j]).waiting) (h j) (pendingBytes_pieceWritten_le n _) (Nat.le_refl _)
  | startUpOver run _ _ =>
    cases run
    · exact h k
    · change StagingFits (autostart s.ts s.chans)[k]
      rw [autostart_get]
      split
      · exact stagingFits_congr (h k) rfl rfl rfl rfl
      · exact h k
  | deviceReset straps _ =>
    have hget : (Vector.replicate 16 Channel.reset)[k] = Channel.reset := Vector.getElem_replicate k.isLt
    exact hget.symm ▸ stagingFits_empty rfl rfl rfl rfl
  | captureReset ps _ =>
    have hget : (mapV Channel.streamReset s.chans)[k] = (s.chans[k]).streamReset := get_mapV _ s.chans k k.isLt
    exact hget.symm ▸ stagingFits_empty rfl rfl rfl rfl
  | _ => exact h k

/-- Settles O8: soundness and the bounds together are kept by every move. -/
theorem stagingStaysWithinItsBuffer : Obligations.StagingStaysWithinItsBuffer :=
  fun _ _ hs h hstep =>
    (step_keeps (P := fun s => ChannelsSound s ∧ ∀ k : ChannelId, StagingFits s.chans[k]) (fun _ _ => id)
      (fun _ _ _ hm h => ⟨hm.channelsSound h.1, hm.stagingFits h.1 h.2⟩) ⟨hs, h⟩ hstep).2

end

end Sys2Proof.Machine
end

section
/-! PROOFS. What every engine move does at RM and at MK; the queues and counts stay in range. -/

namespace Sys2Proof.Machine

open Sys2Proof.Safety

/-! ## Gap marks -/

/-- MK after gap marks were queued: none at a full queue, and nothing else changes (R128, R130). -/
def GapsQueued (m m' : MarkUnit) : Prop :=
  m'.skip = m.skip ∧ m'.headInTx = m.headInTx ∧ (m.queue.length ≤ 64 → m'.queue.length ≤ 64) ∧
  ∃ gaps : List Gap, m'.queue = m.queue ++ gaps.map Mark.gap ∧ (64 ≤ m.queue.length → gaps = [])

theorem GapsQueued.refl (m : MarkUnit) : GapsQueued m m := ⟨rfl, rfl, id, [], by simp, fun _ => rfl⟩

theorem GapsQueued.trans {a b c : MarkUnit} (h : GapsQueued a b) (h' : GapsQueued b c) : GapsQueued a c := by
  obtain ⟨hs, hh, hl, gaps, hq, hfull⟩ := h
  obtain ⟨hs', hh', hl', gaps', hq', hfull'⟩ := h'
  refine ⟨hs'.trans hs, hh'.trans hh, fun h => hl' (hl h), gaps ++ gaps', by rw [hq', hq]; simp, fun h => ?_⟩
  rw [hfull h, hfull' (by rw [hq, hfull h]; simpa using h)]
  rfl

theorem GapsQueued.within {m m' : MarkUnit} (h : GapsQueued m m') (hm : m.within) : m'.within := by
  obtain ⟨hs, -, hl, -⟩ := h
  exact ⟨hl hm.1, hs.trans_le hm.2⟩

section
variable {v : Env} {e e' : Engine}

theorem offerGap_gapsQueued (e : Engine) : GapsQueued e.marks (offerGap e).1.marks := by
  rcases offerGap_cases e with ⟨-, he⟩ | ⟨g, -, -, he⟩ | ⟨g, -, -, hroom, he⟩ | ⟨g, -, -, -, he⟩ <;> rw [he]
  · exact .refl _
  · exact .refl _
  · exact ⟨rfl, rfl, fun _ => by simpa using hroom, [g], rfl, fun hfull => absurd hroom (Nat.not_lt.mpr hfull)⟩
  · exact .refl _

theorem EngineMove.gapsQueued (hm : EngineMove v e e') : GapsQueued e.marks e'.marks := by
  cases hm with
  | sealed cause => rw [(sealFilling_frame v cause e).1]; exact .refl _
  | placed g _ _ => rw [(placeGroup_frame v g e).2.1]; exact .refl _
  | ended kind => rw [(closeRecord_frame kind e).1]; exact .refl _
  | exitLoss _ _ => exact offerGap_gapsQueued e
  | closing _ _ =>
    have h := offerGap_gapsQueued (giveUpBlock v e)
    rwa [(giveUpBlock_frame v e).1] at h
  | offeredAgain =>
    unfold offerAgain
    split
    · exact offerGap_gapsQueued e
    · exact .refl _
  | _ => exact .refl _

theorem ChannelEvent.gapsQueued {c : Instr} {st : StreamState} {f : Env → Engine → Engine} (hf : ChannelEvent c st f) :
    GapsQueued e.marks (f v e).marks := by
  rcases hf.moves (v := v) (e := e) with hm | ⟨-, -, -, he⟩
  · exact hm.rel (R := fun a b => GapsQueued a.marks b.marks) (fun _ => .refl _) (fun _ _ _ => .trans)
      fun _ _ => EngineMove.gapsQueued
  · rw [he]; exact .refl _

end

/-! ## A channel's filling block at RM -/

/-- A change of a descriptor that leaves its state, its class, its pins and its seal cause. -/
def KeepsPlace (f : Descriptor → Descriptor) : Prop :=
  ∀ d, (f d).state = d.state ∧ (f d).cls = d.cls ∧ (f d).pins = d.pins ∧ (f d).cause = d.cause

/-- One move of a channel's filling block and RM. -/
inductive FillMove (v : Env) : Option BlockId × Ring → Option BlockId × Ring → Prop where
  | sealed (rm : Ring) (b : BlockId) (cause : SealCause) : FillMove v (some b, rm) (none, rm.seal b v.config.cls cause)
  | allocated (rm rm' : Ring) (b : BlockId) (run : Byte) (h : rm.allocate v.ts.settings v.c run = some (b, rm')) :
      FillMove v (none, rm) (some b, rm')
  | released (rm : Ring) (b : BlockId) : FillMove v (some b, rm) (none, rm.releaseEmpty v.ts.settings b)
  | edited (o : Option BlockId) (rm : Ring) (b : BlockId) (f : Descriptor → Descriptor) (hf : KeepsPlace f) :
      FillMove v (o, rm) (o, rm.modify b f)

/-- A chain of such moves. -/
abbrev FillMoves (v : Env) : Option BlockId × Ring → Option BlockId × Ring → Prop := Relation.ReflTransGen (FillMove v)

theorem FillMoves.keep {v : Env} {P : Option BlockId × Ring → Prop} (hP : ∀ x y, FillMove v x y → P x → P y)
    {x y : Option BlockId × Ring} (h : FillMoves v x y) (hx : P x) : P y := by
  induction h with
  | refl => exact hx
  | tail _ hm ih => exact hP _ _ hm ih

/-- The filling block and RM as an engine holds them. -/
def Engine.filled (e : Engine) : Option BlockId × Ring := (e.ch.filling, e.rm)

section
variable {v : Env} {e e' : Engine}

theorem fillMoves_sealFilling (cause : SealCause) : FillMoves v e.filled (sealFilling v cause e).filled := by
  unfold sealFilling
  split
  · exact .refl
  · next b hb =>
    unfold Engine.filled
    rw [hb]
    exact .single (.sealed e.rm b cause)

theorem fillMoves_edited {b : BlockId} {f : Descriptor → Descriptor} (hf : KeepsPlace f) (hfill : e'.ch.filling = e.ch.filling)
    (hrm : e'.rm = e.rm.modify b f) : FillMoves v e.filled e'.filled := by
  unfold Engine.filled
  rw [hfill, hrm]
  exact .single (.edited _ _ b f hf)

theorem fillMoves_kept (hfill : e'.ch.filling = e.ch.filling) (hrm : e'.rm = e.rm) : FillMoves v e.filled e'.filled := by
  unfold Engine.filled
  rw [hfill, hrm]

theorem fillMoves_closeRecord (kind : EndKind) : FillMoves v e.filled (closeRecord kind e).filled := by
  unfold closeRecord
  split
  · exact fillMoves_edited (f := Descriptor.recordClosed _ _ _) (fun _ => ⟨rfl, rfl, rfl, rfl⟩) rfl rfl
  · exact .refl

theorem fillMoves_abandonRecord : FillMoves v e.filled (abandonRecord e).filled := by
  unfold abandonRecord
  split
  · exact .refl
  · next r _ => exact fillMoves_edited (f := fun d => { d with bytesUsed := r.offset }) (fun _ => ⟨rfl, rfl, rfl, rfl⟩) rfl rfl

theorem fillMoves_ensureBlock (need : Nat) : FillMoves v e.filled (ensureBlock v need e).1.filled := by
  have hseal : FillMoves v e.filled
      (if e.ch.filling.isSome && decide (Config.blockSize < e.fillingUsed + need) then sealFilling v .full e else e).filled := by
    split
    · exact fillMoves_sealFilling .full
    · exact .refl
  refine hseal.trans ?_
  unfold ensureBlock
  generalize (if e.ch.filling.isSome && decide (Config.blockSize < e.fillingUsed + need) then sealFilling v .full e else e) = e1
  dsimp only
  split
  · exact .refl
  · next hnone =>
    split
    · exact .refl
    · next b rm' halloc =>
      unfold Engine.filled
      rw [hnone]
      exact .single (.allocated e1.rm rm' b _ halloc)

theorem fillMoves_openRecord (need : Nat) (g : Group) : FillMoves v e.filled (openRecord v need g e).filled := by
  unfold openRecord
  split
  · exact .refl
  · next b _ =>
    exact fillMoves_edited (f := fun d => { d with bytesUsed := (e.rm.block b).bytesUsed + need }) (fun _ => ⟨rfl, rfl, rfl, rfl⟩)
      rfl rfl

theorem fillMoves_startRecord (p : Profile) (g : Group) : FillMoves v e.filled (startRecord v p g e).1.filled := by
  rcases startRecord_cases v p g e with ⟨cause, he⟩ | ⟨-, he⟩ <;> rw [he]
  · exact fillMoves_ensureBlock _
  · exact (fillMoves_ensureBlock _).trans (fillMoves_openRecord _ g)

theorem fillMoves_placeUnit (p : Profile) (g : Group) : FillMoves v e.filled (placeUnit p g e).1.filled := by
  have hemit : ∀ r, FillMoves v e.filled (emitUnit p g r e).filled := fun r =>
    fillMoves_edited (f := fun d =>
      { d with unwritten := d.unwritten + (packUnit p e.ch.pack (groupValues p g)).1.length }) (fun _ => ⟨rfl, rfl, rfl, rfl⟩) rfl rfl
  unfold placeUnit
  split
  · exact .refl
  · next r _ =>
    split
    · dsimp only
      split
      · exact (hemit r).trans (fillMoves_closeRecord .split)
      · exact hemit r
    · split
      · exact fillMoves_abandonRecord
      · exact .refl

theorem fillMoves_place (g : Group) : FillMoves v e.filled (place v g e).1.filled := by
  unfold place
  split
  · exact .refl
  · next cp _ =>
    split
    · exact fillMoves_placeUnit _ g
    · have h := fillMoves_startRecord (v := v) (e := e) cp.content g
      split
      · next he => rw [he] at h; exact h
      · next he => rw [he] at h; exact h.trans (fillMoves_placeUnit _ g)

theorem fillMoves_placeGroup (g : Group) : FillMoves v e.filled (placeGroup v g e).filled := by
  have hplace : FillMoves v e.filled (place v g { e with ch := { e.ch with group := none } }).1.filled :=
    fillMoves_place (e := { e with ch := { e.ch with group := none } }) g
  rcases hp : place v g { e with ch := { e.ch with group := none } } with ⟨e1, _ | cause⟩ <;> rw [hp] at hplace
  · rwa [placeGroup_of_success hp]
  · rw [placeGroup_of_failure hp]
    refine (hplace.trans (fillMoves_closeRecord .break_)).trans (fillMoves_kept ?_ rfl)
    exact (lose_frame v _ _ _ _ _).2.2.2.2

theorem fillMoves_giveUpBlock : FillMoves v e.filled (giveUpBlock v e).filled := by
  unfold giveUpBlock
  split
  · exact .refl
  · next b hb =>
    split
    · exact fillMoves_sealFilling .stop
    · unfold Engine.filled
      rw [hb]
      exact .single (.released e.rm b)

theorem offerGap_filled (e : Engine) : (offerGap e).1.filled = e.filled := by
  unfold Engine.filled
  rw [offerGap_rm]
  rcases offerGap_ch e with h | h <;> rw [h]

theorem closeIfDone_filling (ch : Channel) : ch.closeIfDone.filling = ch.filling := by
  unfold Channel.closeIfDone
  split <;> rfl

theorem EngineMove.fillMoves (hm : EngineMove v e e') : FillMoves v e.filled e'.filled := by
  cases hm with
  | sealed cause => exact fillMoves_sealFilling cause
  | placed g _ _ => exact fillMoves_placeGroup g
  | ended kind => exact fillMoves_closeRecord kind
  | exitLoss _ _ =>
    change FillMoves v e.filled (offerGap e).1.filled
    rw [offerGap_filled]
  | closing _ _ =>
    refine (fillMoves_giveUpBlock.trans ?_).trans (fillMoves_kept (e := (offerGap (giveUpBlock v e)).1) (closeIfDone_filling _) rfl)
    rw [offerGap_filled]
  | offeredAgain =>
    unfold offerAgain
    split
    · refine Relation.ReflTransGen.trans ?_ (fillMoves_kept (e := (offerGap e).1) (closeIfDone_filling _) rfl)
      rw [offerGap_filled]
    · exact .refl
  | _ => exact .refl

theorem ChannelEvent.fillMoves {c : Instr} {st : StreamState} {f : Env → Engine → Engine} (hf : ChannelEvent c st f) :
    FillMoves v e.filled (f v e).filled := by
  rcases hf.moves (v := v) (e := e) with hm | ⟨-, -, -, he⟩
  · exact hm.rel (R := fun a b => FillMoves v a.filled b.filled) (fun _ => .refl) (fun _ _ _ h h' => h.trans h')
      fun _ _ => EngineMove.fillMoves
  · rw [he]; exact .refl

end

/-! ## Pin counts -/

/-- Every pin count is at most 3 (R87). -/
def Ring.pinsWithin (rm : Ring) : Prop := ∀ e ∈ rm.blocks, e.2.pins ≤ 3

section
variable {rm : Ring} {b : BlockId}

theorem pinsWithin_of_no_blocks (h : rm.blocks = []) : rm.pinsWithin := by
  intro e he
  rw [h] at he
  cases he

theorem Ring.pinsWithin_modify {f : Descriptor → Descriptor} (hf : ∀ d, rm.block b = d → d.pins ≤ 3 → (f d).pins ≤ 3)
    (h : rm.pinsWithin) : (rm.modify b f).pinsWithin := by
  unfold Ring.modify
  split
  · next d hd =>
    intro e he
    rcases mem_tablePut he with rfl | he
    · exact hf d (Ring.block_of_get hd) (h _ (mem_of_tableGet hd))
    · exact h e he
  · exact h

theorem Ring.pinsWithin_toFree (h : rm.pinsWithin) : (rm.toFree b).pinsWithin := fun e he => h e (mem_tableDel he)

theorem Ring.pinsWithin_release (h : rm.pinsWithin) : (rm.release b).pinsWithin := by
  unfold Ring.release
  split
  · exact pinsWithin_toFree h
  · exact pinsWithin_modify (fun _ _ => id) h

theorem Ring.pinsWithin_enqueue (h : rm.pinsWithin) : (rm.enqueue b).pinsWithin := by
  unfold Ring.enqueue
  split
  · exact h
  · exact pinsWithin_modify (f := fun d => { d with state := .queued }) (fun _ _ => id) h

theorem Ring.pinsWithin_seal {k : ClassId} {cause : SealCause} (h : rm.pinsWithin) : (rm.seal b k cause).pinsWithin := by
  have hm : (rm.modify b (fun d => { d with state := .sealing, cls := some k, cause := some cause })).pinsWithin :=
    pinsWithin_modify (fun _ _ => id) h
  unfold Ring.seal
  dsimp only
  split
  · exact pinsWithin_enqueue hm
  · exact hm

theorem Ring.pinsWithin_written {n : Nat} (h : rm.pinsWithin) : (rm.written b n).pinsWithin := by
  have hm : (rm.modify b (fun d => { d with unwritten := d.unwritten - n })).pinsWithin := pinsWithin_modify (fun _ _ => id) h
  unfold Ring.written
  dsimp only
  split
  · exact pinsWithin_enqueue hm
  · exact hm

theorem Ring.pinsWithin_evaluateSince {st : Settings} {old : Ring} (h : rm.pinsWithin) : (rm.evaluateSince st old).pinsWithin := by
  rwa [Ring.pinsWithin, Ring.evaluateSince_blocks]

theorem Ring.pinsWithin_allocate {st : Settings} {rm' : Ring} {c : ChannelId} {run : Byte}
    (halloc : rm.allocate st c run = some (b, rm')) (h : rm.pinsWithin) : rm'.pinsWithin := by
  obtain ⟨p, rest, -, -, rfl⟩ := Ring.allocate_some halloc
  intro e he
  rcases mem_tablePut he with rfl | he
  · exact Nat.zero_le 3
  · exact h e he

theorem Ring.pinsWithin_pin (h : rm.pinsWithin) : (rm.pin b).2.pinsWithin := by
  rcases rm.pin_cases b with ⟨-, hlt, hp⟩ | ⟨-, -, hp⟩ | ⟨-, hp⟩ <;> rw [hp]
  · refine pinsWithin_modify (fun d hd _ => ?_) h
    rw [hd] at hlt
    exact hlt
  · exact h
  · exact h

theorem Ring.pinsWithin_unpin {st : Settings} (h : rm.pinsWithin) : (rm.unpin st b).2.pinsWithin := by
  have hm : (rm.modify b (fun d => { d with pins := d.pins - 1 })).pinsWithin :=
    pinsWithin_modify (fun _ _ hd => (Nat.sub_le _ _).trans hd) h
  unfold Ring.unpin
  split
  · exact h
  · dsimp only
    split
    · exact pinsWithin_toFree hm
    · exact hm

theorem FillMove.pinsWithin {v : Env} {x y : Option BlockId × Ring} (hm : FillMove v x y) (h : x.2.pinsWithin) :
    y.2.pinsWithin := by
  cases hm with
  | sealed rm b cause => exact Ring.pinsWithin_seal h
  | allocated rm rm' b run halloc => exact Ring.pinsWithin_allocate halloc h
  | released rm b => exact Ring.pinsWithin_toFree h
  | edited o rm b f hf => exact Ring.pinsWithin_modify (fun d _ hd => (hf d).2.2.1.trans_le hd) h

/-! ### DS -/

theorem pinsWithin_selectOnce {allowed : Bool} {w : Vector Nat 4} {x : Drain × Ring} (h : x.2.pinsWithin) :
    (selectOnce allowed w x).2.pinsWithin := by
  rcases selectOnce_cases allowed w x with he | ⟨-, -, ⟨m, rest, -, he⟩ | ⟨-, -, he⟩⟩ <;> rw [he]
  · exact h
  · exact Ring.pinsWithin_modify (fun _ _ => id) h
  · rcases selectNew_cases w x with hn | ⟨k, cur, turn, b, rest, -, -, -, hn⟩ <;> rw [hn]
    · exact h
    · exact Ring.pinsWithin_modify (rm := { x.2 with queues := _ }) (fun _ _ => id) h

theorem pinsWithin_dataEnd {st : Settings} {h : Fin 2} {x : Drain × Ring} (hx : x.2.pinsWithin) :
    (dataEnd st h x).2.pinsWithin := by
  unfold dataEnd finishBlock
  dsimp only
  split
  · split
    · split
      · exact Ring.pinsWithin_evaluateSince (Ring.pinsWithin_release hx)
      · exact Ring.pinsWithin_modify (fun _ _ => id) hx
    · exact hx
  · exact hx

theorem pinsWithin_foldl_release (l : List Sequenced) (h : rm.pinsWithin) :
    (l.foldl (fun rm m => rm.release m.block) rm).pinsWithin := by
  induction l generalizing rm with
  | nil => exact h
  | cons m l ih => exact ih (Ring.pinsWithin_release h)

theorem pinsWithin_takeFlow {st : Settings} {g a : Word32} {x : Drain × Ring} (h : x.2.pinsWithin) :
    (takeFlow st g a x).2.pinsWithin := by
  unfold takeFlow
  dsimp only
  split
  · exact h
  · exact Ring.pinsWithin_evaluateSince (pinsWithin_foldl_release _ h)

theorem pinsWithin_slotDown (l : List SlotEntry) {x : Drain × Ring} (h : x.2.pinsWithin) : (l.foldl slotDown x).2.pinsWithin := by
  induction l generalizing x with
  | nil => exact h
  | cons e l ih =>
    refine ih ?_
    unfold slotDown
    split
    · exact Ring.pinsWithin_release h
    · exact Ring.pinsWithin_modify (fun _ _ => id) h

theorem pinsWithin_sentDown (l : List Sequenced) {x : Drain × Ring} (h : x.2.pinsWithin) : (l.foldl sentDown x).2.pinsWithin := by
  induction l generalizing x with
  | nil => exact h
  | cons m l ih => exact ih (Ring.pinsWithin_modify (f := fun b => { b with state := .redrain }) (fun _ _ => id) h)

theorem pinsWithin_collectionsDown {st : Settings} {x : Drain × Ring} (h : x.2.pinsWithin) :
    (collectionsDown st x).2.pinsWithin :=
  Ring.pinsWithin_evaluateSince (pinsWithin_sentDown _ (pinsWithin_slotDown _ h))

end

/-! ## Settings reach the free lists and the level alone -/

@[simp] theorem changePlane_blocks (old new : BitVec 4) (ready : Bool) (p : PlaneId) (rm : Ring) :
    (Ring.changePlane old new ready p rm).blocks = rm.blocks := by
  unfold Ring.changePlane
  split_ifs <;> rfl

@[simp] theorem takeMask_blocks (s : State) (new : Settings) (rm : Ring) : (takeMask s new rm).blocks = rm.blocks := by
  unfold takeMask
  dsimp only
  split
  · rfl
  · simp

@[simp] theorem takeMarks_blocks (old new : Settings) (rm : Ring) : (takeMarks old new rm).blocks = rm.blocks := by
  unfold takeMarks
  split <;> rfl

theorem planeReady_blocks (p : PlaneId) (s : State) : (planeReady p s).rm.blocks = s.rm.blocks := by
  change (if inPlaneSet s.ts.settings.planeMask p then (s.rm.enablePlane p).evaluate s.ts.settings else s.rm).blocks = _
  split <;> rfl

/-! ## Ranges -/

/-- What the ranges are of, part by part. -/
theorem withinBounds_iff (s : State) : WithinBounds s ↔
    s.mu.within ∧ s.marks.within ∧ s.sl.rejected ≤ 65535 ∧ (∀ p : PlaneId, (s.planes[p]).owed ≤ 8) ∧ s.rm.pinsWithin := by
  unfold WithinBounds Management.within MarkUnit.within Ring.pinsWithin
  tauto

section
variable {c : Instr} {s t : State}

theorem Move.withinBounds (hm : Move c s t) (h : WithinBounds s) : WithinBounds t := by
  rw [withinBounds_iff] at h ⊢
  obtain ⟨hmu, hmarks, hsl, howed, hpins⟩ := id h
  cases hm with
  | event k f hf =>
    exact ⟨hmu, hf.gapsQueued.within hmarks, hsl, howed,
      hf.fillMoves.keep (P := fun x => x.2.pinsWithin) (fun _ _ => FillMove.pinsWithin) hpins⟩
  | settings new _ => exact ⟨hmu, hmarks, hsl, howed, by simpa [Ring.pinsWithin, applySettings] using hpins⟩
  | select allowed w => exact ⟨hmu, hmarks, hsl, howed, pinsWithin_selectOnce hpins⟩
  | planes ps hps => exact ⟨hmu, hmarks, hsl, fun p => (hps p).2.2.1 (howed p), hpins⟩
  | headerWritten k b => exact ⟨hmu, hmarks, hsl, howed, Ring.pinsWithin_written hpins⟩
  | payloadWritten k b n => exact ⟨hmu, hmarks, hsl, howed, Ring.pinsWithin_written hpins⟩
  | planeReady p _ _ =>
    refine ⟨hmu, hmarks, hsl, forall_put (P := fun _ (pl : Plane) => pl.owed ≤ 8) howed (Nat.zero_le _), ?_⟩
    rwa [Ring.pinsWithin, planeReady_blocks]
  | planeFaulty p _ => exact ⟨hmu, hmarks, hsl, forall_put (P := fun _ (pl : Plane) => pl.owed ≤ 8) howed (Nat.zero_le _), hpins⟩
  | requests m hw _ => exact ⟨hw hmu, hmarks, hsl, howed, hpins⟩
  | link l hl _ => exact ⟨hmu, hmarks, hl hsl, howed, hpins⟩
  | marks m hw => exact ⟨hmu, hw hmarks, hsl, howed, hpins⟩
  | pin b => exact ⟨hmu, hmarks, hsl, howed, Ring.pinsWithin_pin hpins⟩
  | unpin b => exact ⟨hmu, hmarks, hsl, howed, Ring.pinsWithin_unpin hpins⟩
  | flow g a => exact ⟨hmu, hmarks, hsl, howed, pinsWithin_takeFlow hpins⟩
  | dataSent k => exact ⟨hmu, hmarks, hsl, howed, pinsWithin_dataEnd hpins⟩
  | drainDown =>
    refine ⟨hmu, hmarks, hsl, fun p => ?_, pinsWithin_collectionsDown hpins⟩
    have hget : (withdrawLoads s.planes)[p] = { s.planes[p] with drain := [] } := get_mapV _ s.planes p p.isLt
    exact (congrArg Plane.owed hget).trans_le (howed p)
  | deviceReset straps _ =>
    refine ⟨⟨Nat.zero_le _, Nat.zero_le _, nofun⟩, ⟨Nat.zero_le _, Nat.zero_le _⟩, Nat.zero_le _, fun p => ?_,
      pinsWithin_of_no_blocks (rm := Ring.reset) rfl⟩
    have hget : (Vector.replicate 4 Plane.reset)[p] = Plane.reset := Vector.getElem_replicate p.isLt
    exact (congrArg Plane.owed hget).trans_le (Nat.zero_le _)
  | captureReset ps _ =>
    exact ⟨hmu, hmarks, hsl, howed, pinsWithin_of_no_blocks (rm := s.rm.streamReset s.ts.settings) rfl⟩
  | _ => exact h

/-- Settles O5: every move keeps every range. -/
theorem queuesAndCountsStayInRange : Obligations.QueuesAndCountsStayInRange :=
  fun _ _ => step_keeps (fun _ _ => id) fun _ _ _ => Move.withinBounds

end

end Sys2Proof.Machine
end

section
/-! PROOFS. The drain counters stay in serial order and the lists in sequence order (R108 to R123). -/

namespace Sys2Proof.Machine

open Sys2Proof.Safety

/-! ## Serial comparison -/

/-- A sequence lies after the base of its window or at most 256 ahead of it. -/
theorem seqAfter_iff (a b : Word32) : seqAfter a b = true ↔ 1 ≤ (a - b).toNat ∧ (a - b).toNat < 2 ^ 31 := decide_eq_true_iff

/-- The distance between two points of a window is the difference of their distances from its base. -/
theorem distance_of_le {c x y : Word32} (h : (x - c).toNat ≤ (y - c).toNat) : (y - x).toNat = (y - c).toNat - (x - c).toNat := by
  bv_omega

/-- Within half the number circle of a base, serial order is the order of the distances. -/
theorem seqAfter_iff_distance {c x y : Word32} (hx : (x - c).toNat < 2 ^ 31) (hy : (y - c).toNat < 2 ^ 31) :
    seqAfter x y = true ↔ (y - c).toNat < (x - c).toNat := by
  rw [seqAfter_iff]
  bv_omega

theorem seqAtOrBefore_iff_distance {c x y : Word32} (hx : (x - c).toNat < 2 ^ 31) (hy : (y - c).toNat < 2 ^ 31) :
    seqAtOrBefore x y = true ↔ (x - c).toNat ≤ (y - c).toNat := by
  rw [seqAtOrBefore, Bool.not_eq_true', ← Bool.not_eq_true, seqAfter_iff_distance hx hy, Nat.not_lt]

/-! ## Lists in sequence order (R111) -/

/-- The distances of a list's sequences from `c`. -/
def distances (c : Word32) (l : List Sequenced) : List Nat := l.map (fun m => (m.seq - c).toNat)

/-- A list in strictly increasing sequence from `c` on. -/
def InSequence (c : Word32) (l : List Sequenced) : Prop := (distances c l).Pairwise (fun a b => a < b)

theorem inSequence_nil (c : Word32) : InSequence c [] := .nil

theorem inSequence_cons {c : Word32} {m : Sequenced} {l : List Sequenced} :
    InSequence c (m :: l) ↔ (∀ x ∈ l, (m.seq - c).toNat < (x.seq - c).toNat) ∧ InSequence c l := by
  simp [InSequence, distances, List.pairwise_cons]

theorem InSequence.sublist {c : Word32} {l l' : List Sequenced} (h : InSequence c l) (hl : l'.Sublist l) : InSequence c l' :=
  List.Pairwise.sublist (hl.map _) h

/-- A list stays in sequence from a later point on that all its members lie behind. -/
theorem InSequence.rebase {c c' : Word32} : ∀ {l : List Sequenced}, InSequence c l →
    (∀ m ∈ l, (c' - c).toNat ≤ (m.seq - c).toNat) → InSequence c' l
  | [], _, _ => inSequence_nil c'
  | m :: l, h, hl => by
    rw [inSequence_cons] at h ⊢
    refine ⟨fun x hx => ?_, h.2.rebase fun y hy => hl y (List.mem_cons_of_mem _ hy)⟩
    have hm := hl m List.mem_cons_self
    rw [distance_of_le hm, distance_of_le (hl x (List.mem_cons_of_mem _ hx))]
    have := h.1 x hx
    omega

theorem insertBySeq_perm (m : Sequenced) : ∀ l, (insertBySeq m l).Perm (m :: l)
  | [] => .refl _
  | y :: t => by
    unfold insertBySeq
    split
    · exact .refl _
    · exact ((insertBySeq_perm m t).cons y).trans (.swap m y t)

/-- A block joins a list at the place its sequence puts it. -/
theorem inSequence_insertBySeq {c : Word32} {m : Sequenced} (hm : (m.seq - c).toNat < 2 ^ 31) : ∀ {l : List Sequenced},
    InSequence c l → (∀ x ∈ l, (x.seq - c).toNat < 2 ^ 31) → (∀ x ∈ l, x.seq ≠ m.seq) → InSequence c (insertBySeq m l)
  | [], _, _, _ => by simp [insertBySeq, InSequence, distances]
  | y :: t, h, hl, hne => by
    have hy := hl y List.mem_cons_self
    have ht := inSequence_cons.mp h
    unfold insertBySeq
    split
    · next hafter =>
      have hlt := (seqAfter_iff_distance hy hm).mp hafter
      refine inSequence_cons.mpr ⟨fun x hx => ?_, h⟩
      rcases List.mem_cons.mp hx with rfl | hx
      · exact hlt
      · exact hlt.trans (ht.1 x hx)
    · next hafter =>
      have hle : (y.seq - c).toNat ≤ (m.seq - c).toNat := by
        rw [seqAfter_iff_distance hy hm] at hafter
        exact Nat.not_lt.mp hafter
      have hlt : (y.seq - c).toNat < (m.seq - c).toNat := by
        refine hle.lt_of_ne fun heq => hne y List.mem_cons_self ?_
        bv_omega
      refine inSequence_cons.mpr ⟨fun x hx => ?_, inSequence_insertBySeq hm ht.2 (fun x hx => hl x (List.mem_cons_of_mem _ hx))
        fun x hx => hne x (List.mem_cons_of_mem _ hx)⟩
      rcases mem_insertBySeq.mp hx with rfl | hx
      · exact hlt
      · exact ht.1 x hx

/-- Blocks that join a list one after another (R123). -/
def joinAll (l : List Sequenced) (r : List Sequenced) : List Sequenced := l.foldl (fun r m => insertBySeq m r) r

theorem joinAll_perm : ∀ (l r : List Sequenced), (joinAll l r).Perm (l ++ r)
  | [], r => .refl r
  | m :: l, r => by
    refine (joinAll_perm l (insertBySeq m r)).trans ?_
    exact ((insertBySeq_perm m r).append_left l).trans List.perm_middle

theorem mem_joinAll {l r : List Sequenced} {m : Sequenced} : m ∈ joinAll l r ↔ m ∈ l ∨ m ∈ r := by
  rw [(joinAll_perm l r).mem_iff, List.mem_append]

theorem inSequence_joinAll {c : Word32} : ∀ {l r : List Sequenced}, InSequence c r →
    (∀ m ∈ l ++ r, (m.seq - c).toNat < 2 ^ 31) → ((l ++ r).map (fun m => m.seq)).Nodup → InSequence c (joinAll l r)
  | [], r, h, _, _ => h
  | m :: l, r, h, hd, hn => by
    have hperm : (l ++ insertBySeq m r).Perm (m :: (l ++ r)) := ((insertBySeq_perm m r).append_left l).trans List.perm_middle
    rw [List.cons_append, List.map_cons, List.nodup_cons] at hn
    have hin : InSequence c (insertBySeq m r) :=
      inSequence_insertBySeq (hd m (by simp)) h (fun x hx => hd x (by simp [hx])) fun x hx heq =>
        hn.1 (List.mem_map.mpr ⟨x, by simp [hx], heq⟩)
    refine inSequence_joinAll (l := l) (r := insertBySeq m r) hin (fun x hx => hd x (hperm.subset hx)) ?_
    rw [(hperm.map _).nodup_iff, List.map_cons, List.nodup_cons]
    exact hn

/-! ## Reading the order -/

/-- The counters of a drain in order, with the window its sequences lie in. -/
structure Counters (d : Drain) : Prop where
  next : d.nextSeq = d.highest + 1#32
  transmitted : Ahead d d.transmitted ≤ Ahead d d.highest
  limit : Ahead d d.highest ≤ 256
  granted : Ahead d d.highest ≤ Ahead d d.granted
  window : Ahead d d.granted < 2 ^ 31

/-- A sequence after committed_through and at most highest_sent. -/
def Outstanding (d : Drain) (x : Word32) : Prop := 1 ≤ Ahead d x ∧ Ahead d x ≤ Ahead d d.highest

/-- A sequence at or before committed_through, at most 256 behind highest_sent. -/
def Behind (d : Drain) (x : Word32) : Prop := (d.committed - x).toNat ≤ (d.highest - x).toNat ∧ (d.highest - x).toNat ≤ 256

theorem drainOrdered_iff (d : Drain) : DrainOrdered d ↔
    Counters d ∧ (∀ m ∈ d.sent ++ d.redrain, Outstanding d m.seq) ∧ d.slot.length ≤ 2 ∧
    (∀ e ∈ d.slot, e.covered = false → Outstanding d e.seq) ∧ (∀ e ∈ d.slot, e.covered = true → Behind d e.seq) ∧
    (∀ e, d.slot.getLast? = some e → (d.highest - e.seq).toNat ≤ 255) := by
  constructor
  · rintro ⟨h1, h2, h3, h4, h5, h6, h7, h8, h9, h10⟩
    exact ⟨⟨h1, h2, h3, h4, h5⟩, h6, h7, h8, h9, h10⟩
  · rintro ⟨⟨h1, h2, h3, h4, h5⟩, h6, h7, h8, h9, h10⟩
    exact ⟨h1, h2, h3, h4, h5, h6, h7, h8, h9, h10⟩

/-- The sequences of the uncovered blocks of a slot. -/
def uncoveredSeqs (l : List SlotEntry) : List Word32 := (l.filter (fun e => !e.covered)).map (fun e => e.seq)

theorem drainSequenced_iff (d : Drain) : DrainSequenced d ↔
    InSequence d.committed d.sent ∧ InSequence d.committed d.redrain ∧
    (d.sent.map (fun m => m.seq) ++ d.redrain.map (fun m => m.seq) ++ uncoveredSeqs d.slot).Nodup := Iff.rfl

section
variable {d : Drain}

theorem Outstanding.window {x : Word32} (hc : Counters d) (h : Outstanding d x) : (x - d.committed).toNat < 2 ^ 31 := by
  have := hc.limit
  have := h.2
  change Ahead d x < 2 ^ 31
  omega

theorem Outstanding.behind_highest {x : Word32} (hc : Counters d) (h : Outstanding d x) : (d.highest - x).toNat ≤ 255 := by
  have hlimit := hc.limit
  obtain ⟨h1, h2⟩ := h
  have := distance_of_le (c := d.committed) (x := x) (y := d.highest) h2
  unfold Ahead at *
  omega

/-! ## Selection (R112 to R116) -/

theorem mem_getLast_of_short {l : List SlotEntry} (h : l.length < 2) {e : SlotEntry} (he : e ∈ l) : l.getLast? = some e := by
  match l, h with
  | [a], _ => rw [List.mem_singleton.mp he]; rfl

/-- A selection is within the credit: the next sequence is granted and at most 256 ahead (R114). -/
theorem credit_iff (hc : Counters d) : d.credit = true → Ahead d d.nextSeq ≤ Ahead d d.granted ∧ Ahead d d.nextSeq ≤ 256 ∧
    Ahead d d.nextSeq = Ahead d d.highest + 1 := by
  obtain ⟨hnext, -, hlimit, hgranted, hwindow⟩ := hc
  intro h
  obtain ⟨hafter, hlim⟩ : seqAtOrBefore d.nextSeq d.granted = true ∧ (d.nextSeq - d.committed).toNat ≤ 256 := by
    have h2 := (Bool.and_eq_true _ _).mp h
    exact ⟨h2.1, of_decide_eq_true h2.2⟩
  have hsucc : Ahead d d.nextSeq = Ahead d d.highest + 1 := by
    unfold Ahead at *
    rw [hnext]
    bv_omega
  refine ⟨?_, hlim, hsucc⟩
  refine (seqAtOrBefore_iff_distance (c := d.committed) ?_ hwindow).mp hafter
  exact hlim.trans_lt (by decide)

/-- The drain after a new block was selected. -/
def Drain.withNew (cur : ClassId) (turn : Nat) (b : BlockId) (d : Drain) : Drain :=
  { d with currentClass := cur, turn := turn, highest := d.nextSeq, nextSeq := d.nextSeq + 1#32
           slot := d.slot ++ [⟨b, d.nextSeq, false, false, 0, 0⟩] }

theorem counters_withNew (cur : ClassId) (turn : Nat) (b : BlockId) (hc : Counters d) (hcredit : d.credit = true) :
    Counters (d.withNew cur turn b) := by
  obtain ⟨hg, hl, hs⟩ := credit_iff hc hcredit
  refine ⟨rfl, ?_, hl, hg, hc.window⟩
  have := hc.transmitted
  change Ahead d d.transmitted ≤ Ahead d d.nextSeq
  omega

theorem outstanding_withNew {x : Word32} (cur : ClassId) (turn : Nat) (b : BlockId) (hc : Counters d) (hcredit : d.credit = true)
    (h : Outstanding d x) : Outstanding (d.withNew cur turn b) x := by
  obtain ⟨-, -, hs⟩ := credit_iff hc hcredit
  refine ⟨h.1, h.2.trans ?_⟩
  change Ahead d d.highest ≤ Ahead d d.nextSeq
  omega

theorem drainOrdered_withNew (cur : ClassId) (turn : Nat) (b : BlockId) (h : DrainOrdered d) (hcredit : d.credit = true)
    (hroom : d.slot.length < 2) : DrainOrdered (d.withNew cur turn b) := by
  rw [drainOrdered_iff] at h ⊢
  obtain ⟨hc, hlists, -, huncovered, hcovered, hlast⟩ := h
  obtain ⟨-, hl, hs⟩ := credit_iff hc hcredit
  refine ⟨counters_withNew cur turn b hc hcredit, fun m hm => outstanding_withNew cur turn b hc hcredit (hlists m hm), ?_, ?_, ?_, ?_⟩
  · simpa [Drain.withNew] using hroom
  · intro e he hunc
    rcases List.mem_append.mp he with he | he
    · exact outstanding_withNew cur turn b hc hcredit (huncovered e he hunc)
    · rw [List.mem_singleton.mp he]
      exact ⟨show 1 ≤ Ahead d d.nextSeq by omega, Nat.le_refl (Ahead d d.nextSeq)⟩
  · intro e he hcov
    rcases List.mem_append.mp he with he | he
    · have hnear := hlast e (mem_getLast_of_short hroom he)
      obtain ⟨hb1, -⟩ := hcovered e he hcov
      change (d.committed - e.seq).toNat ≤ (d.nextSeq - e.seq).toNat ∧ (d.nextSeq - e.seq).toNat ≤ 256
      rw [hc.next]
      bv_omega
    · rw [List.mem_singleton.mp he] at hcov
      cases hcov
  · intro e he
    have : e.seq = d.nextSeq := by
      simp only [Drain.withNew, List.getLast?_append, List.getLast?_singleton, Option.some_or, Option.some.injEq] at he
      rw [← he]
    change (d.nextSeq - e.seq).toNat ≤ 255
    rw [this]
    simp

theorem uncoveredSeqs_append (l : List SlotEntry) (e : SlotEntry) (he : e.covered = false) :
    uncoveredSeqs (l ++ [e]) = uncoveredSeqs l ++ [e.seq] := by
  simp [uncoveredSeqs, he]

theorem mem_uncoveredSeqs {l : List SlotEntry} {x : Word32} (h : x ∈ uncoveredSeqs l) : ∃ e ∈ l, e.covered = false ∧ e.seq = x := by
  obtain ⟨e, he, rfl⟩ := List.mem_map.mp h
  obtain ⟨hmem, hunc⟩ := List.mem_filter.mp he
  exact ⟨e, hmem, by simpa using hunc, rfl⟩

theorem drainSequenced_withNew (cur : ClassId) (turn : Nat) (b : BlockId) (h : DrainOrdered d) (hcredit : d.credit = true)
    (hseq : DrainSequenced d) : DrainSequenced (d.withNew cur turn b) := by
  rw [drainOrdered_iff] at h
  obtain ⟨hc, hlists, -, huncovered, -, -⟩ := h
  obtain ⟨-, -, hs⟩ := credit_iff hc hcredit
  obtain ⟨hsent, hredrain, hnodup⟩ := hseq
  refine ⟨hsent, hredrain, ?_⟩
  change (d.sent.map (fun m => m.seq) ++ d.redrain.map (fun m => m.seq) ++ uncoveredSeqs (d.slot ++ [_])).Nodup
  rw [uncoveredSeqs_append _ _ rfl, ← List.append_assoc, List.nodup_append]
  refine ⟨hnodup, List.nodup_singleton _, fun x hx y hy => ?_⟩
  rw [List.mem_singleton.mp hy]
  have hout : Outstanding d x := by
    rw [← List.map_append, List.mem_append] at hx
    rcases hx with hx | hx
    · obtain ⟨m, hm, rfl⟩ := List.mem_map.mp hx
      exact hlists m hm
    · obtain ⟨e, he, hunc, rfl⟩ := mem_uncoveredSeqs hx
      exact huncovered e he hunc
  rintro rfl
  have hle : Ahead d d.nextSeq ≤ Ahead d d.highest := hout.2
  omega

/-- The drain after the head of REDRAIN was selected. -/
def Drain.withRedrained (m : Sequenced) (rest : List Sequenced) (d : Drain) : Drain :=
  { d with redrain := rest, slot := d.slot ++ [⟨m.block, m.seq, false, true, 0, 0⟩] }

theorem drainOrdered_withRedrained {m : Sequenced} {rest : List Sequenced} (hr : d.redrain = m :: rest) (h : DrainOrdered d)
    (hroom : d.slot.length < 2) : DrainOrdered (d.withRedrained m rest) := by
  rw [drainOrdered_iff] at h ⊢
  obtain ⟨hc, hlists, -, huncovered, hcovered, -⟩ := h
  have hm : Outstanding d m.seq := hlists m (by simp [hr])
  refine ⟨⟨hc.next, hc.transmitted, hc.limit, hc.granted, hc.window⟩, fun x hx => hlists x ?_, ?_, ?_, ?_, ?_⟩
  · rcases List.mem_append.mp hx with hx | hx
    · exact List.mem_append_left _ hx
    · exact List.mem_append_right _ (hr ▸ List.mem_cons_of_mem _ hx)
  · simpa [Drain.withRedrained] using hroom
  · intro e he hunc
    rcases List.mem_append.mp he with he | he
    · exact huncovered e he hunc
    · rw [List.mem_singleton.mp he]; exact hm
  · intro e he hcov
    rcases List.mem_append.mp he with he | he
    · exact hcovered e he hcov
    · rw [List.mem_singleton.mp he] at hcov; cases hcov
  · intro e he
    simp only [Drain.withRedrained, List.getLast?_append, List.getLast?_singleton, Option.some_or, Option.some.injEq] at he
    rw [← he]
    exact Outstanding.behind_highest (d := d) hc hm

theorem drainSequenced_withRedrained {m : Sequenced} {rest : List Sequenced} (hr : d.redrain = m :: rest)
    (hseq : DrainSequenced d) : DrainSequenced (d.withRedrained m rest) := by
  obtain ⟨hsent, hredrain, hnodup⟩ := hseq
  rw [hr] at hredrain hnodup
  refine ⟨hsent, (inSequence_cons.mp hredrain).2, ?_⟩
  change (d.sent.map (fun m => m.seq) ++ rest.map (fun m => m.seq) ++ uncoveredSeqs (d.slot ++ [_])).Nodup
  rw [uncoveredSeqs_append _ _ rfl]
  refine (List.Perm.nodup_iff ?_).mp hnodup
  simp only [List.map_cons, List.append_assoc, List.cons_append]
  refine List.Perm.append_left _ ?_
  change (m.seq :: (rest.map (fun m => m.seq) ++ uncoveredSeqs d.slot)).Perm _
  rw [← List.append_assoc]
  exact (List.perm_append_singleton _ _).symm

/-! ## FLOW (R120, R121) -/

theorem counters_takeGrant (g : Word32) (hc : Counters d) : Counters (d.takeGrant g) := by
  unfold Drain.takeGrant
  split
  · next h =>
    obtain ⟨hafter, hwindow⟩ := h
    have hlt := (seqAfter_iff_distance (c := d.committed) hwindow hc.window).mp hafter
    exact ⟨hc.next, hc.transmitted, hc.limit, hc.granted.trans hlt.le, hwindow⟩
  · exact hc

theorem takeGrant_frame (g : Word32) (d : Drain) : d.takeGrant g = { d with granted := (d.takeGrant g).granted } := by
  unfold Drain.takeGrant
  split <;> rfl

theorem drainOrdered_takeGrant (g : Word32) (h : DrainOrdered d) : DrainOrdered (d.takeGrant g) := by
  rw [drainOrdered_iff] at h ⊢
  obtain ⟨hc, hrest⟩ := h
  have hc' := counters_takeGrant g hc
  rw [takeGrant_frame] at hc' ⊢
  exact ⟨hc', hrest⟩

theorem drainSequenced_takeGrant (g : Word32) (h : DrainSequenced d) : DrainSequenced (d.takeGrant g) := by
  rw [takeGrant_frame]
  exact h

/-- The commit a FLOW brings lies between committed_through and transmitted_through (R121). -/
theorem clampCommit_within (c : Word32) (hc : Counters d) : Ahead d (d.clampCommit c) ≤ Ahead d d.transmitted := by
  have hwindow : Ahead d d.transmitted < 2 ^ 31 := (hc.transmitted.trans hc.limit).trans_lt (by decide)
  unfold Drain.clampCommit
  split
  · next hafter =>
    obtain ⟨-, hw⟩ := (seqAfter_iff c d.committed).mp hafter
    split
    · exact Nat.le_refl _
    · next hnot =>
      rw [seqAfter_iff_distance (c := d.committed) hw hwindow] at hnot
      exact Nat.not_lt.mp hnot
  · unfold Ahead
    simp

/-- The drain after a commit to `c`. -/
def Drain.committedTo (c : Word32) (d : Drain) : Drain :=
  { d with committed := c
           sent := d.sent.filter (fun m => seqAfter m.seq c)
           redrain := d.redrain.filter (fun m => seqAfter m.seq c)
           slot := d.slot.map (fun e => { e with covered := e.covered || seqAtOrBefore e.seq c }) }

section
variable {c : Word32} (hc : Counters d) (hcommit : Ahead d c ≤ Ahead d d.transmitted)
include hc hcommit

theorem commit_window : (c - d.committed).toNat < 2 ^ 31 := by
  have := hc.transmitted
  have := hc.limit
  change Ahead d c < 2 ^ 31
  omega


theorem counters_committedTo : Counters (d.committedTo c) := by
  obtain ⟨hnext, htransmitted, hlimit, hgranted, hwindow⟩ := hc
  have h1 : Ahead (d.committedTo c) d.transmitted = _ := distance_of_le hcommit
  have h2 : Ahead (d.committedTo c) d.highest = _ := distance_of_le (hcommit.trans htransmitted)
  have h3 : Ahead (d.committedTo c) d.granted = _ := distance_of_le ((hcommit.trans htransmitted).trans hgranted)
  refine ⟨hnext, ?_, ?_, ?_, ?_⟩
  · change Ahead (d.committedTo c) d.transmitted ≤ Ahead (d.committedTo c) d.highest
    rw [h1, h2]; unfold Ahead at *; omega
  · change Ahead (d.committedTo c) d.highest ≤ 256
    rw [h2]; unfold Ahead at *; omega
  · change Ahead (d.committedTo c) d.highest ≤ Ahead (d.committedTo c) d.granted
    rw [h2, h3]; unfold Ahead at *; omega
  · change Ahead (d.committedTo c) d.granted < 2 ^ 31
    rw [h3]; unfold Ahead at *; omega

/-- A sequence the commit does not cover stays outstanding. -/
theorem outstanding_committedTo {x : Word32} (h : Outstanding d x) (hafter : seqAfter x c = true) :
    Outstanding (d.committedTo c) x := by
  have hlt := (seqAfter_iff_distance (h.window hc) (commit_window hc hcommit)).mp hafter
  have h1 : Ahead (d.committedTo c) x = Ahead d x - Ahead d c := distance_of_le hlt.le
  have h2 : Ahead (d.committedTo c) d.highest = Ahead d d.highest - Ahead d c := distance_of_le (hcommit.trans hc.transmitted)
  have hle := h.2
  change Ahead d c < Ahead d x at hlt
  refine ⟨?_, ?_⟩
  · rw [h1]; omega
  · change Ahead (d.committedTo c) x ≤ Ahead (d.committedTo c) d.highest
    rw [h1, h2]
    unfold Ahead at *
    omega

/-- A sequence behind committed_through is behind the new one. -/
theorem behind_committedTo {x : Word32} (h : Behind d x) : Behind (d.committedTo c) x := by
  have hle := hcommit.trans hc.transmitted
  have hlimit := hc.limit
  obtain ⟨h1, h2⟩ := h
  refine ⟨?_, h2⟩
  change (c - x).toNat ≤ (d.highest - x).toNat
  unfold Ahead at *
  bv_omega

/-- A sequence the commit covers is behind it. -/
theorem behind_of_covered {x : Word32} (h : Outstanding d x) (hcov : seqAtOrBefore x c = true) : Behind (d.committedTo c) x := by
  have hle := (seqAtOrBefore_iff_distance (h.window hc) (commit_window hc hcommit)).mp hcov
  have hhigh := hcommit.trans hc.transmitted
  refine ⟨?_, (h.behind_highest hc).trans (by decide)⟩
  change (c - x).toNat ≤ (d.highest - x).toNat
  rw [distance_of_le hle, distance_of_le (hle.trans hhigh)]
  unfold Ahead at *
  omega

end

theorem drainOrdered_committedTo {c : Word32} (h : DrainOrdered d) (hcommit : Ahead d c ≤ Ahead d d.transmitted) :
    DrainOrdered (d.committedTo c) := by
  rw [drainOrdered_iff] at h ⊢
  obtain ⟨hc, hlists, hlen, huncovered, hcovered, hlast⟩ := h
  refine ⟨counters_committedTo hc hcommit, ?_, by simpa [Drain.committedTo] using hlen, ?_, ?_, ?_⟩
  · intro m hm
    simp only [Drain.committedTo, ← List.filter_append, List.mem_filter] at hm
    exact outstanding_committedTo hc hcommit (hlists m hm.1) hm.2
  · intro e he hunc
    obtain ⟨e0, he0, rfl⟩ := List.mem_map.mp he
    obtain ⟨hunc0, hafter⟩ : e0.covered = false ∧ seqAfter e0.seq c = true := by
      simpa [seqAtOrBefore] using hunc
    exact outstanding_committedTo hc hcommit (huncovered e0 he0 hunc0) hafter
  · intro e he hcov
    obtain ⟨e0, he0, rfl⟩ := List.mem_map.mp he
    cases hcov0 : e0.covered with
    | true => exact behind_committedTo hc hcommit (hcovered e0 he0 hcov0)
    | false => exact behind_of_covered hc hcommit (huncovered e0 he0 hcov0) (by simpa [hcov0] using hcov)
  · intro e he
    simp only [Drain.committedTo, List.getLast?_map, Option.map_eq_some_iff] at he
    obtain ⟨e0, he0, rfl⟩ := he
    exact hlast e0 he0

theorem uncoveredSeqs_sublist (c : Word32) (l : List SlotEntry) :
    (uncoveredSeqs (l.map (fun e => { e with covered := e.covered || seqAtOrBefore e.seq c }))).Sublist (uncoveredSeqs l) := by
  induction l with
  | nil => exact .slnil
  | cons e l ih =>
    unfold uncoveredSeqs at ih ⊢
    simp only [List.map_cons, List.filter_cons]
    cases e.covered <;> cases seqAtOrBefore e.seq c <;> simp only [Bool.or_true, Bool.or_false, Bool.not_true, Bool.not_false,
      if_true, if_false, List.map_cons, Bool.false_eq_true]
    · exact ih.cons_cons _
    · exact ih.cons _
    · exact ih
    · exact ih

theorem drainSequenced_committedTo {c : Word32} (h : DrainOrdered d) (hcommit : Ahead d c ≤ Ahead d d.transmitted)
    (hseq : DrainSequenced d) : DrainSequenced (d.committedTo c) := by
  rw [drainOrdered_iff] at h
  obtain ⟨hc, hlists, -⟩ := h
  obtain ⟨hsent, hredrain, hnodup⟩ := hseq
  have hbehind : ∀ m ∈ d.sent ++ d.redrain, seqAfter m.seq c = true → (c - d.committed).toNat ≤ (m.seq - d.committed).toNat :=
    fun m hm hafter => ((seqAfter_iff_distance ((hlists m hm).window hc) (commit_window hc hcommit)).mp hafter).le
  refine ⟨?_, ?_, ?_⟩
  · refine (InSequence.sublist hsent List.filter_sublist).rebase fun m hm => ?_
    exact hbehind m (List.mem_append_left _ (List.mem_filter.mp hm).1) (List.mem_filter.mp hm).2
  · refine (InSequence.sublist hredrain List.filter_sublist).rebase fun m hm => ?_
    exact hbehind m (List.mem_append_right _ (List.mem_filter.mp hm).1) (List.mem_filter.mp hm).2
  · exact hnodup.sublist (((List.filter_sublist.map _).append (List.filter_sublist.map _)).append (uncoveredSeqs_sublist c d.slot))

theorem takeFlow_fst (st : Settings) (g c : Word32) (x : Drain × Ring) :
    (takeFlow st g c x).1 = x.1.takeGrant g ∨
    (takeFlow st g c x).1 = (x.1.takeGrant g).committedTo ((x.1.takeGrant g).clampCommit c) := by
  unfold takeFlow
  dsimp only
  split
  · exact .inl rfl
  · exact .inr rfl

theorem drainOrdered_takeFlow {st : Settings} {g c : Word32} {x : Drain × Ring} (h : DrainOrdered x.1) :
    DrainOrdered (takeFlow st g c x).1 := by
  have hg := drainOrdered_takeGrant g h
  have hc := ((drainOrdered_iff _).mp hg).1
  rcases takeFlow_fst st g c x with he | he <;> rw [he]
  · exact hg
  · exact drainOrdered_committedTo hg (clampCommit_within c hc)

theorem drainSequenced_takeFlow {st : Settings} {g c : Word32} {x : Drain × Ring} (h : DrainOrdered x.1)
    (hseq : DrainSequenced x.1) : DrainSequenced (takeFlow st g c x).1 := by
  have hg := drainOrdered_takeGrant g h
  have hc := ((drainOrdered_iff _).mp hg).1
  rcases takeFlow_fst st g c x with he | he <;> rw [he]
  · exact drainSequenced_takeGrant g hseq
  · exact drainSequenced_committedTo hg (clampCommit_within c hc) (drainSequenced_takeGrant g hseq)

/-! ## End of transmission (R119) -/

/-- The drain after its first block left the slot. -/
def Drain.finished (e : SlotEntry) (rest : List SlotEntry) (d : Drain) : Drain :=
  { d with slot := rest, transmitted := if seqAfter e.seq d.transmitted then e.seq else d.transmitted
           sent := if e.covered then d.sent else insertBySeq ⟨e.block, e.seq⟩ d.sent }

theorem finishBlock_fst (st : Settings) (e : SlotEntry) (rest : List SlotEntry) (x : Drain × Ring) :
    (finishBlock st e rest x).1 = x.1.finished e rest := by
  unfold finishBlock Drain.finished
  cases e.covered <;> rfl

/-- The sequence of a covered block is not after transmitted_through. -/
theorem not_after_transmitted {x : Word32} (hc : Counters d) (h : Behind d x) : seqAfter x d.transmitted = false := by
  rw [← Bool.not_eq_true, seqAfter_iff]
  have h1 := hc.transmitted
  have h2 := hc.limit
  obtain ⟨h3, h4⟩ := h
  unfold Ahead at *
  bv_omega

theorem drainOrdered_finished {e : SlotEntry} {rest : List SlotEntry} (hslot : d.slot = e :: rest) (h : DrainOrdered d) :
    DrainOrdered (d.finished e rest) := by
  rw [drainOrdered_iff] at h ⊢
  obtain ⟨hc, hlists, hlen, huncovered, hcovered, hlast⟩ := h
  have he : e ∈ d.slot := by rw [hslot]; exact List.mem_cons_self
  have hrest : ∀ x ∈ rest, x ∈ d.slot := fun x hx => by rw [hslot]; exact List.mem_cons_of_mem _ hx
  refine ⟨⟨hc.next, ?_, hc.limit, hc.granted, hc.window⟩, ?_, ?_, fun x hx => huncovered x (hrest x hx),
    fun x hx => hcovered x (hrest x hx), ?_⟩
  · change Ahead d (if seqAfter e.seq d.transmitted then e.seq else d.transmitted) ≤ Ahead d d.highest
    split
    · next hafter =>
      cases hcov : e.covered with
      | false => exact (huncovered e he hcov).2
      | true =>
        rw [not_after_transmitted hc (hcovered e he hcov)] at hafter
        cases hafter
    · exact hc.transmitted
  · intro m hm
    change Outstanding d m.seq
    rcases List.mem_append.mp hm with hm | hm
    · unfold Drain.finished at hm
      cases hcov : e.covered with
      | true =>
        rw [hcov] at hm
        exact hlists m (List.mem_append_left _ hm)
      | false =>
        rw [hcov] at hm
        rcases mem_insertBySeq.mp hm with rfl | hm
        · exact huncovered e he hcov
        · exact hlists m (List.mem_append_left _ hm)
    · exact hlists m (List.mem_append_right _ hm)
  · rw [hslot] at hlen
    exact (Nat.le_succ _).trans hlen
  · intro x hx
    refine hlast x ?_
    rw [hslot, List.getLast?_cons]
    change rest.getLast? = some x at hx
    rw [hx]
    rfl

theorem drainSequenced_finished {e : SlotEntry} {rest : List SlotEntry} (hslot : d.slot = e :: rest) (h : DrainOrdered d)
    (hseq : DrainSequenced d) : DrainSequenced (d.finished e rest) := by
  rw [drainOrdered_iff] at h
  obtain ⟨hc, hlists, -, huncovered, -, -⟩ := h
  rw [drainSequenced_iff, hslot] at hseq
  obtain ⟨hsent, hredrain, hnodup⟩ := hseq
  unfold Drain.finished uncoveredSeqs at *
  cases hcov : e.covered with
  | true =>
    refine ⟨hsent, hredrain, ?_⟩
    simpa [hcov] using hnodup
  | false =>
    have he : Outstanding d e.seq := huncovered e (by rw [hslot]; exact List.mem_cons_self) hcov
    simp only [List.filter_cons, hcov, Bool.not_false, if_true, List.map_cons] at hnodup
    have hperm : (d.sent.map (fun m => m.seq) ++ d.redrain.map (fun m => m.seq) ++
        e.seq :: (rest.filter (fun e => !e.covered)).map (fun e => e.seq)).Perm
        ((insertBySeq ⟨e.block, e.seq⟩ d.sent).map (fun m => m.seq) ++ d.redrain.map (fun m => m.seq) ++
          (rest.filter (fun e => !e.covered)).map (fun e => e.seq)) := by
      refine List.perm_middle.trans ?_
      exact (((insertBySeq_perm ⟨e.block, e.seq⟩ d.sent).map (fun m => m.seq)).symm.append_right _).append_right _
    refine ⟨?_, hredrain, hperm.nodup_iff.mp hnodup⟩
    refine inSequence_insertBySeq (he.window hc) hsent (fun m hm => (hlists m (List.mem_append_left _ hm)).window hc) ?_
    intro m hm heq
    rw [List.nodup_append] at hnodup
    exact hnodup.2.2 m.seq (List.mem_append_left _ (List.mem_map.mpr ⟨m, hm, rfl⟩)) e.seq List.mem_cons_self heq

/-- The end of a DATA frame: its half is emptied, and the first block may leave the slot. -/
theorem dataEnd_cases (st : Settings) (h : Fin 2) (x : Drain × Ring) :
    dataEnd st h x = ({ x.1 with halves := put x.1.halves h ⟨.empty, none⟩ }, x.2) ∨
    ∃ f e rest, (x.1.halves[h]).frame = some f ∧ f.frame + 1 = f.frameCount ∧ x.1.slot = e :: rest ∧
      dataEnd st h x = finishBlock st e rest ({ x.1 with halves := put x.1.halves h ⟨.empty, none⟩ }, x.2) := by
  unfold dataEnd
  dsimp only
  split
  · next f e rest hf hs =>
    split
    · next hl => exact .inr ⟨f, e, rest, hf, hl, hs, rfl⟩
    · exact .inl rfl
  · exact .inl rfl

theorem drainOrdered_dataEnd {st : Settings} {k : Fin 2} {x : Drain × Ring} (h : DrainOrdered x.1) :
    DrainOrdered (dataEnd st k x).1 := by
  rcases dataEnd_cases st k x with he | ⟨f, e, rest, -, -, hs, he⟩ <;> rw [he]
  · exact h
  · rw [finishBlock_fst]
    exact drainOrdered_finished hs h

theorem drainSequenced_dataEnd {st : Settings} {k : Fin 2} {x : Drain × Ring} (h : DrainOrdered x.1) (hseq : DrainSequenced x.1) :
    DrainSequenced (dataEnd st k x).1 := by
  rcases dataEnd_cases st k x with he | ⟨f, e, rest, -, -, hs, he⟩ <;> rw [he]
  · exact hseq
  · rw [finishBlock_fst]
    exact drainSequenced_finished hs h hseq

/-! ## Link loss (R123) -/

/-- The blocks of a slot that a link loss sends to REDRAIN. -/
def uncoveredBlocks (l : List SlotEntry) : List Sequenced := (l.filter (fun e => !e.covered)).map (fun e => ⟨e.block, e.seq⟩)

theorem foldl_slotDown_fst : ∀ (l : List SlotEntry) (x : Drain × Ring),
    (l.foldl slotDown x).1 = { x.1 with redrain := joinAll (uncoveredBlocks l) x.1.redrain }
  | [], _ => rfl
  | e :: l, x => by
    rw [List.foldl_cons, foldl_slotDown_fst l]
    unfold slotDown uncoveredBlocks
    cases hc : e.covered <;> simp [hc, joinAll]

theorem foldl_sentDown_fst : ∀ (l : List Sequenced) (x : Drain × Ring),
    (l.foldl sentDown x).1 = { x.1 with redrain := joinAll l x.1.redrain }
  | [], _ => rfl
  | m :: l, x => by
    rw [List.foldl_cons, foldl_sentDown_fst l]
    rfl

theorem joinAll_append (l l' r : List Sequenced) : joinAll (l ++ l') r = joinAll l' (joinAll l r) := List.foldl_append

/-- The drain after a link loss, but for its halves. -/
def Drain.down (d : Drain) : Drain :=
  { d with slot := [], sent := [], redrain := joinAll (uncoveredBlocks d.slot ++ d.sent) d.redrain }

theorem collectionsDown_fst (st : Settings) (x : Drain × Ring) : (collectionsDown st x).1 = x.1.down := by
  unfold collectionsDown
  dsimp only
  rw [foldl_sentDown_fst, foldl_slotDown_fst, Drain.down, joinAll_append]

theorem map_seq_uncoveredBlocks (l : List SlotEntry) : (uncoveredBlocks l).map (fun m => m.seq) = uncoveredSeqs l := by
  simp [uncoveredBlocks, uncoveredSeqs, Function.comp_def]

theorem outstanding_of_down (h : DrainOrdered d) : ∀ m ∈ uncoveredBlocks d.slot ++ d.sent ++ d.redrain, Outstanding d m.seq := by
  rw [drainOrdered_iff] at h
  obtain ⟨-, hlists, -, huncovered, -, -⟩ := h
  intro m hm
  rw [List.append_assoc, List.mem_append] at hm
  rcases hm with hm | hm
  · obtain ⟨e, he, hunc, heq⟩ := mem_uncoveredSeqs
      (show m.seq ∈ uncoveredSeqs d.slot from map_seq_uncoveredBlocks d.slot ▸ List.mem_map.mpr ⟨m, hm, rfl⟩)
    rw [← heq]
    exact huncovered e he hunc
  · exact hlists m hm

theorem drainOrdered_down (h : DrainOrdered d) : DrainOrdered d.down := by
  have hout := outstanding_of_down h
  rw [drainOrdered_iff] at h ⊢
  obtain ⟨hc, -⟩ := h
  refine ⟨⟨hc.next, hc.transmitted, hc.limit, hc.granted, hc.window⟩, fun m hm => ?_, Nat.zero_le _, nofun, nofun, nofun⟩
  refine hout m (List.mem_append.mpr ?_)
  exact mem_joinAll.mp (by simpa [Drain.down] using hm)

theorem drainSequenced_down (h : DrainOrdered d) (hseq : DrainSequenced d) : DrainSequenced d.down := by
  have hout := outstanding_of_down h
  have hc := ((drainOrdered_iff d).mp h).1
  obtain ⟨-, hredrain, hnodup⟩ := (drainSequenced_iff d).mp hseq
  have hperm : (d.sent.map (fun m => m.seq) ++ d.redrain.map (fun m => m.seq) ++ uncoveredSeqs d.slot).Perm
      ((uncoveredBlocks d.slot ++ d.sent ++ d.redrain).map (fun m => m.seq)) := by
    rw [List.map_append, List.map_append, map_seq_uncoveredBlocks, List.append_assoc (uncoveredSeqs d.slot)]
    exact List.perm_append_comm
  have hnodup' := hperm.nodup_iff.mp hnodup
  have hwindow : ∀ m ∈ uncoveredBlocks d.slot ++ d.sent ++ d.redrain, (m.seq - d.committed).toNat < 2 ^ 31 :=
    fun m hm => (hout m hm).window hc
  refine ⟨.nil, inSequence_joinAll hredrain hwindow hnodup', ?_⟩
  change ([] ++ (joinAll (uncoveredBlocks d.slot ++ d.sent) d.redrain).map (fun m : Sequenced => m.seq) ++ uncoveredSeqs []).Nodup
  simp only [uncoveredSeqs, List.filter_nil, List.map_nil, List.append_nil, List.nil_append]
  exact (((joinAll_perm _ _).map _).nodup_iff).mpr hnodup'

/-! ## Resets -/

theorem drainOrdered_reset : DrainOrdered Drain.reset :=
  (drainOrdered_iff _).mpr ⟨⟨rfl, by decide, by decide, by decide, by decide⟩, nofun, by decide, nofun, nofun, nofun⟩

theorem drainSequenced_reset : DrainSequenced Drain.reset := ⟨.nil, .nil, .nil⟩

/-- A stream reset takes committed_through and transmitted_through to highest_sent (R127). -/
theorem drainOrdered_streamReset (ps : Vector Plane 4) (h : DrainOrdered d) : DrainOrdered (d.streamReset ps) := by
  rw [drainOrdered_iff] at h ⊢
  obtain ⟨hc, -⟩ := h
  have hgranted : (d.granted - d.highest).toNat = _ := distance_of_le hc.granted
  have hwindow := hc.window
  have hzero : (d.highest - d.highest).toNat = 0 := by simp
  refine ⟨⟨hc.next, ?_, ?_, ?_, ?_⟩, nofun, Nat.zero_le _, nofun, nofun, nofun⟩
  · exact Nat.le_refl (d.highest - d.highest).toNat
  · exact hzero.trans_le (Nat.zero_le _)
  · exact hzero.trans_le (Nat.zero_le _)
  · change (d.granted - d.highest).toNat < 2 ^ 31
    unfold Ahead at hwindow
    omega

theorem drainSequenced_streamReset (ps : Vector Plane 4) (d : Drain) : DrainSequenced (d.streamReset ps) := ⟨.nil, .nil, .nil⟩

end

/-! ## The drain under every move -/

section
variable {c : Instr} {s t : State}

/-- A claim or a frame start keeps what the order reads of the slot. -/
theorem drainOrdered_slot {d : Drain} {l : List SlotEntry} (hs : Vector Half 2)
    (hl : l.map SlotEntry.identity = d.slot.map SlotEntry.identity) (h : DrainOrdered d) :
    DrainOrdered { d with slot := l, halves := hs } := by
  rw [drainOrdered_iff] at h ⊢
  obtain ⟨hc, hlists, hlen, huncovered, hcovered, hlast⟩ := h
  have hback : ∀ e ∈ l, ∃ e0 ∈ d.slot, e0.seq = e.seq ∧ e0.covered = e.covered := fun e he => by
    have : e.identity ∈ d.slot.map SlotEntry.identity := hl ▸ List.mem_map.mpr ⟨e, he, rfl⟩
    obtain ⟨e0, he0, heq⟩ := List.mem_map.mp this
    simp only [SlotEntry.identity, Prod.mk.injEq] at heq
    exact ⟨e0, he0, heq.2.1, heq.2.2.1⟩
  refine ⟨⟨hc.next, hc.transmitted, hc.limit, hc.granted, hc.window⟩, hlists, ?_, ?_, ?_, ?_⟩
  · have := congrArg List.length hl
    simp only [List.length_map] at this
    exact this.trans_le hlen
  · intro e he hunc
    obtain ⟨e0, he0, hseq, hcov⟩ := hback e he
    exact hseq ▸ huncovered e0 he0 (hcov.trans hunc)
  · intro e he hcov'
    obtain ⟨e0, he0, hseq, hcov⟩ := hback e he
    exact hseq ▸ hcovered e0 he0 (hcov.trans hcov')
  · intro e he
    have := congrArg List.getLast? hl
    rw [List.getLast?_map, List.getLast?_map, he] at this
    obtain ⟨e0, he0, heq⟩ := Option.map_eq_some_iff.mp this.symm
    simp only [SlotEntry.identity, Prod.mk.injEq] at heq
    exact heq.2.1 ▸ hlast e0 he0

theorem uncoveredSeqs_of_identity {l l' : List SlotEntry} (h : l.map SlotEntry.identity = l'.map SlotEntry.identity) :
    uncoveredSeqs l = uncoveredSeqs l' := by
  have hread : ∀ l : List SlotEntry, uncoveredSeqs l = ((l.map SlotEntry.identity).filter (fun x => !x.2.2.1)).map (fun x => x.2.1) :=
    fun l => by simp [uncoveredSeqs, List.filter_map, SlotEntry.identity, Function.comp_def]
  rw [hread, hread, h]

theorem drainSequenced_slot {d : Drain} {l : List SlotEntry} (hs : Vector Half 2)
    (hl : l.map SlotEntry.identity = d.slot.map SlotEntry.identity) (h : DrainSequenced d) :
    DrainSequenced { d with slot := l, halves := hs } := by
  rw [drainSequenced_iff] at h ⊢
  rw [← uncoveredSeqs_of_identity hl] at h
  exact h

/-- What a selection does to the drain. -/
theorem selectOnce_fst (allowed : Bool) (w : Vector Nat 4) (x : Drain × Ring) :
    (selectOnce allowed w x).1 = x.1 ∨ (x.1.slot.length < 2 ∧
      ((∃ m rest, x.1.redrain = m :: rest ∧ (selectOnce allowed w x).1 = x.1.withRedrained m rest) ∨
       (x.1.credit = true ∧ ∃ cur turn b, (selectOnce allowed w x).1 = x.1.withNew cur turn b))) := by
  rcases selectOnce_cases allowed w x with he | ⟨-, hroom, ⟨m, rest, hr, he⟩ | ⟨-, hcredit, he⟩⟩
  · exact .inl (by rw [he])
  · exact .inr ⟨hroom, .inl ⟨m, rest, hr, by rw [he]; rfl⟩⟩
  · rcases selectNew_cases w x with hn | ⟨k, cur, turn, b, rest, -, -, hn, -⟩
    · exact .inl (by rw [he, hn])
    · exact .inr ⟨hroom, .inr ⟨hcredit, cur, turn, b, by rw [he, hn]; rfl⟩⟩

theorem Move.drainOrdered (hm : Move c s t) (h : DrainOrdered s.ds) : DrainOrdered t.ds := by
  cases hm with
  | select allowed w =>
    rcases selectOnce_fst allowed w (s.ds, s.rm) with he | ⟨hroom, ⟨m, rest, hr, he⟩ | ⟨hcredit, cur, turn, b, he⟩⟩
    · exact he.symm ▸ h
    · exact he.symm ▸ drainOrdered_withRedrained hr h hroom
    · exact he.symm ▸ drainOrdered_withNew cur turn b h hcredit hroom
  | slot l hs hl => exact drainOrdered_slot hs hl h
  | flow g a => exact drainOrdered_takeFlow (x := (s.ds, s.rm)) h
  | dataSent k => exact drainOrdered_dataEnd (x := (s.ds, s.rm)) h
  | drainDown =>
    change DrainOrdered { (collectionsDown s.ts.settings (s.ds, s.rm)).1 with halves := _ }
    rw [collectionsDown_fst]
    exact drainOrdered_down (d := s.ds) h
  | deviceReset straps _ => exact drainOrdered_reset
  | captureReset ps _ => exact drainOrdered_streamReset ps h
  | _ => exact h

theorem Move.drainSequenced (hm : Move c s t) (h : DrainOrdered s.ds) (hseq : DrainSequenced s.ds) : DrainSequenced t.ds := by
  cases hm with
  | select allowed w =>
    rcases selectOnce_fst allowed w (s.ds, s.rm) with he | ⟨-, ⟨m, rest, hr, he⟩ | ⟨hcredit, cur, turn, b, he⟩⟩
    · exact he.symm ▸ hseq
    · exact he.symm ▸ drainSequenced_withRedrained hr hseq
    · exact he.symm ▸ drainSequenced_withNew cur turn b h hcredit hseq
  | slot l hs hl => exact drainSequenced_slot hs hl hseq
  | flow g a => exact drainSequenced_takeFlow (x := (s.ds, s.rm)) h hseq
  | dataSent k => exact drainSequenced_dataEnd (x := (s.ds, s.rm)) h hseq
  | drainDown =>
    change DrainSequenced { (collectionsDown s.ts.settings (s.ds, s.rm)).1 with halves := _ }
    rw [collectionsDown_fst]
    exact drainSequenced_down (d := s.ds) h hseq
  | deviceReset straps _ => exact drainSequenced_reset
  | captureReset ps _ => exact drainSequenced_streamReset ps _
  | _ => exact hseq

/-- Settles O6: every move keeps the order, and with it the sequence of the lists. -/
theorem drainStaysInOrder : Obligations.DrainStaysInOrder := by
  intro s t h hstep
  refine ⟨step_keeps (P := fun s => DrainOrdered s.ds) (fun _ _ => id) (fun _ _ _ => Move.drainOrdered) h hstep, fun hseq => ?_⟩
  exact (step_keeps (P := fun s => DrainOrdered s.ds ∧ DrainSequenced s.ds) (fun _ _ => id)
    (fun _ _ _ hm h => ⟨hm.drainOrdered h.1, hm.drainSequenced h.1 h.2⟩) ⟨h, hseq⟩ hstep).2

end

end Sys2Proof.Machine
end

section
/-! PROOFS. Blocks stay members of the collections their states name (R68, R71): a change takes a block out of its collection, gives it
another state, and puts it into the collection of that state. -/

namespace Sys2Proof.Machine

open Sys2Proof.Safety

/-! ## Who holds a block -/

/-- What holds blocks: RM, each channel's filling block, and DS's slot and lists. -/
structure Holdings where
  rm : Ring
  fill : ChannelId → Option BlockId
  slot : List BlockId
  sent : List BlockId
  redrain : List BlockId

/-- The blocks of a SENDING slot, and of a list. -/
def slotBlocks (l : List SlotEntry) : List BlockId := l.map (fun e => e.block)
def listBlocks (l : List Sequenced) : List BlockId := l.map (fun m => m.block)

def State.holdings (s : State) : Holdings :=
  ⟨s.rm, fun c => (s.chans[c]).filling, slotBlocks s.ds.slot, listBlocks s.ds.sent, listBlocks s.ds.redrain⟩

/-- A member of the collection a state names. -/
def Holdings.Member (h : Holdings) (st : BlockState) (b : BlockId) : Prop :=
  match st with
  | .filling => ∃ c : ChannelId, h.fill c = some b
  | .queued => ∃ k : ClassId, b ∈ h.rm.queues[k]
  | .sending => b ∈ h.slot
  | .sent => b ∈ h.sent
  | .redrain => b ∈ h.redrain
  | .free => ∃ l, h.rm.free[planeOf b] = some l ∧ b ∈ l
  | .offline | .sealing | .retired => False

/-- The Block Table and the free lists agree (R67, R69, R71). -/
structure Ring.Tabled (rm : Ring) : Prop where
  rising : tableRising rm.blocks = true
  held : ∀ b, rm.holds b → b < 8192 ∧ (rm.block b).state ≠ .free ∧ (rm.block b).state ≠ .offline ∧ (rm.free[planeOf b]).isSome
  lists : ∀ (p : PlaneId) (l : List BlockId), rm.free[p] = some l → l.Nodup ∧ ∀ b ∈ l, b < 8192 ∧ planeOf b = p

/-- No collection holds a block twice, and a class queue holds blocks of its class. -/
structure Holdings.Distinct (h : Holdings) : Prop where
  fill : ∀ (c d : ChannelId) (b : BlockId), h.fill c = some b → h.fill d = some b → c = d
  queues : ∀ k : ClassId, (h.rm.queues[k]).Nodup ∧ ∀ b ∈ h.rm.queues[k], (h.rm.block b).cls = some k
  slot : h.slot.Nodup
  sent : h.sent.Nodup
  redrain : h.redrain.Nodup

/-- The block is in exactly the collection its state names. -/
def Holdings.Placed (h : Holdings) (b : BlockId) : Prop := ∀ st ∈ collecting, h.Member st b ↔ (h.rm.block b).state = st

/-- The block is held and in no collection. -/
def Holdings.Loose (h : Holdings) (b : BlockId) : Prop := h.rm.holds b ∧ ∀ st, ¬ h.Member st b

/-- Every block is placed but those of `L`, which are in no collection. -/
structure Holdings.Kept (h : Holdings) (L : Set BlockId) : Prop where
  tabled : h.rm.Tabled
  distinct : h.Distinct
  loose : ∀ b ∈ L, h.Loose b
  placed : ∀ b, b ∉ L → h.Placed b

theorem collecting_of_member {h : Holdings} {st : BlockState} {b : BlockId} (hm : h.Member st b) : st ∈ collecting := by
  cases st with
  | offline | sealing | retired => exact hm.elim
  | _ => decide

/-- A plane has a free list exactly when it is READY and in plane_mask. -/
def PlanesListed (s : State) : Prop :=
  ∀ p : PlaneId, (s.rm.free[p]).isSome ↔ (s.planes[p]).state = .ready ∧ inPlaneSet s.ts.settings.planeMask p

theorem tableGet_of_mem {α : Type} : ∀ {l : List (Nat × α)} {e : Nat × α}, tableRising l = true → e ∈ l →
    tableGet l e.1 = some e.2
  | (k, w) :: t, e, hr, he => by
    rcases List.mem_cons.mp he with rfl | he
    · simp [tableGet]
    · have hlt : k < e.1 := keysAbove_of_rising hr e he
      simp only [tableGet, if_neg (Nat.ne_of_gt hlt)]
      exact tableGet_of_mem (rising_tail hr) he

section
variable {rm : Ring} {b : BlockId}

/-- A block RM holds no descriptor for is FREE or OFFLINE. -/
theorem holds_of_state (h1 : (rm.block b).state ≠ .free) (h2 : (rm.block b).state ≠ .offline) : rm.holds b := by
  cases hg : tableGet rm.blocks b with
  | some d => simp [Ring.holds, hg]
  | none =>
    rcases Ring.block_of_none hg with hb | hb <;> rw [hb] at h1 h2
    · exact absurd rfl h1
    · exact absurd rfl h2

theorem tabled_iff (hr : tableRising rm.blocks = true) :
    (∀ e ∈ rm.blocks, e.1 < 8192 ∧ e.2.state ≠ .free ∧ e.2.state ≠ .offline ∧ (rm.free[planeOf e.1]).isSome) ↔
    ∀ b, rm.holds b → b < 8192 ∧ (rm.block b).state ≠ .free ∧ (rm.block b).state ≠ .offline ∧ (rm.free[planeOf b]).isSome := by
  constructor
  · intro h b hb
    exact h (b, rm.block b) (mem_of_tableGet (Ring.get_of_holds hb))
  · intro h e he
    have hget := tableGet_of_mem hr he
    have := h e.1 (by simp [Ring.holds, hget])
    rwa [Ring.block_of_get hget] at this

theorem Ring.Tabled.offline (h : rm.Tabled) (hb : 8192 ≤ b) : (rm.block b).state = .offline := by
  cases hg : tableGet rm.blocks b with
  | some d =>
    exact absurd (h.held b (by simp [Ring.holds, hg])).1 (Nat.not_lt.mpr hb)
  | none =>
    have : ¬ b < Config.blockCount := Nat.not_lt.mpr hb
    simp [Ring.block, hg, this, Descriptor.cleared]

end

theorem blocksCollected_iff (s : State) : BlocksCollected s ↔ PlanesListed s ∧ s.holdings.Kept ∅ := by
  constructor
  · rintro ⟨hr, hheld, hlisted, hlists, hstate, houtside, hfill, hqueues, hslot, hsent, hredrain⟩
    have htab : s.rm.Tabled := ⟨hr, (tabled_iff hr).mp hheld, hlists⟩
    refine ⟨hlisted, htab, ⟨hfill, hqueues, hslot, hsent, hredrain⟩, nofun, fun b _ st hst => ?_⟩
    by_cases hb : b < 8192
    · exact hstate b hb st hst
    · refine iff_of_false (houtside b (Nat.not_lt.mp hb) st hst) ?_
      change (s.rm.block b).state ≠ st
      rw [htab.offline (Nat.not_lt.mp hb)]
      rintro rfl
      simp [collecting] at hst
  · rintro ⟨hlisted, htab, ⟨hfill, hqueues, hslot, hsent, hredrain⟩, -, hplaced⟩
    refine ⟨htab.rising, (tabled_iff htab.rising).mpr htab.held, hlisted, htab.lists, fun b _ => hplaced b id, ?_, hfill, hqueues,
      hslot, hsent, hredrain⟩
    intro b hb st hst hm
    have hstate := (hplaced b id st hst).mp hm
    rw [show (s.holdings.rm.block b).state = .offline from htab.offline hb] at hstate
    subst hstate
    simp [collecting] at hst

/-! ## Changes -/

section
variable {h h' : Holdings} {L : Set BlockId} {b : BlockId}

/-- A member is placed, and its state names its collection. -/
theorem Holdings.Kept.state_of_member (hk : h.Kept L) {st : BlockState} (hm : h.Member st b) :
    b ∉ L ∧ (h.rm.block b).state = st := by
  have hb : b ∉ L := fun hL => (hk.loose b hL).2 st hm
  exact ⟨hb, (hk.placed b hb st (collecting_of_member hm)).mp hm⟩

/-- RM's level and rotation hold no block. -/
theorem Holdings.Kept.congr (hk : h.Kept L) (hb : h'.rm.blocks = h.rm.blocks) (hf : h'.rm.free = h.rm.free)
    (hq : h'.rm.queues = h.rm.queues) (hfill : h'.fill = h.fill) (hslot : h'.slot = h.slot) (hsent : h'.sent = h.sent)
    (hredrain : h'.redrain = h.redrain) : h'.Kept L := by
  obtain ⟨⟨bl, fr, ro, le, qu⟩, fi, sl, se, re⟩ := h
  obtain ⟨⟨bl', fr', ro', le', qu'⟩, fi', sl', se', re'⟩ := h'
  dsimp only at *
  subst hb hf hq hfill hslot hsent hredrain
  exact ⟨⟨hk.tabled.rising, hk.tabled.held, hk.tabled.lists⟩,
    ⟨hk.distinct.fill, hk.distinct.queues, hk.distinct.slot, hk.distinct.sent, hk.distinct.redrain⟩, hk.loose, hk.placed⟩

theorem Holdings.Kept.evaluateSince (st : Settings) (old : Ring) (hk : h.Kept L) :
    Holdings.Kept { h with rm := h.rm.evaluateSince st old } L := hk.congr (by simp) (by simp) (by simp) rfl rfl rfl rfl

/-- RM's tables are the same. -/
structure SameTables (h h' : Holdings) : Prop where
  blocks : h'.rm.blocks = h.rm.blocks
  free : h'.rm.free = h.rm.free

theorem SameTables.block (hs : SameTables h h') (b : BlockId) : h'.rm.block b = h.rm.block b := by
  unfold Ring.block
  rw [hs.blocks, hs.free]

theorem SameTables.holds (hs : SameTables h h') (b : BlockId) : h'.rm.holds b ↔ h.rm.holds b := by
  unfold Ring.holds
  rw [hs.blocks]

theorem SameTables.tabled (hs : SameTables h h') (ht : h.rm.Tabled) : h'.rm.Tabled := by
  refine ⟨hs.blocks ▸ ht.rising, fun b hb => ?_, hs.free ▸ ht.lists⟩
  rw [hs.block, hs.free]
  exact ht.held b ((hs.holds b).mp hb)

/-- Blocks leave their collections: those for which `R` says from which. -/
theorem Holdings.Kept.take (hk : h.Kept L) {R : BlockState → BlockId → Prop} (hs : SameTables h h') (hd : h'.Distinct)
    (hR : ∀ st b, R st b → h.Member st b ∧ st ≠ .free) (hm : ∀ st b, h'.Member st b ↔ h.Member st b ∧ ¬ R st b) :
    h'.Kept (L ∪ {b | ∃ st, R st b}) := by
  refine ⟨hs.tabled hk.tabled, hd, fun b hb => ?_, fun b hb st hst => ?_⟩
  · rcases hb with hb | ⟨st, hr⟩
    · exact ⟨(hs.holds b).mpr (hk.loose b hb).1, fun st hmem => (hk.loose b hb).2 st ((hm st b).mp hmem).1⟩
    · obtain ⟨hmem, hfree⟩ := hR st b hr
      obtain ⟨-, hstate⟩ := hk.state_of_member hmem
      refine ⟨(hs.holds b).mpr (holds_of_state (hstate ▸ hfree) ?_), fun st' hmem' => ?_⟩
      · rw [hstate]
        rintro rfl
        exact hmem
      · obtain ⟨hmem'', hnot⟩ := (hm st' b).mp hmem'
        have : st' = st := (hk.state_of_member hmem'').2.symm.trans hstate
        exact hnot (this ▸ hr)
  · rw [hm, hs.block]
    have hplaced := hk.placed b (fun hL => hb (.inl hL)) st hst
    rw [← hplaced]
    exact and_iff_left fun hr => hb (.inr ⟨st, hr⟩)

/-- A block with the state of a collection joins it. -/
theorem Holdings.Kept.place (hk : h.Kept L) {X : BlockState} (hs : SameTables h h') (hd : h'.Distinct) (hb : b ∈ L)
    (hX : (h.rm.block b).state = X) (hc : X ∈ collecting) (hm : ∀ st x, h'.Member st x ↔ h.Member st x ∨ (st = X ∧ x = b)) :
    h'.Kept (L \ {b}) := by
  refine ⟨hs.tabled hk.tabled, hd, fun x hx => ?_, fun x hx st hst => ?_⟩
  · refine ⟨(hs.holds x).mpr (hk.loose x hx.1).1, fun st hmem => ?_⟩
    rcases (hm st x).mp hmem with hmem | ⟨-, hxb⟩
    · exact (hk.loose x hx.1).2 st hmem
    · exact hx.2 hxb
  · rw [hm, hs.block]
    by_cases hxb : x = b
    · subst hxb
      have hnot := (hk.loose x hb).2 st
      constructor
      · rintro (hmem | ⟨rfl, -⟩)
        · exact absurd hmem hnot
        · exact hX
      · intro hstate
        exact .inr ⟨hstate.symm.trans hX, rfl⟩
    · rw [← hk.placed x (fun hL => hx ⟨hL, hxb⟩) st hst]
      exact or_iff_left fun hand => hxb hand.2

/-- A block whose state names no collection needs none. -/
theorem Holdings.Kept.drop (hk : h.Kept L) (hb : b ∈ L) (hX : (h.rm.block b).state ∉ collecting) : h.Kept (L \ {b}) := by
  refine ⟨hk.tabled, hk.distinct, fun x hx => hk.loose x hx.1, fun x hx st hst => ?_⟩
  by_cases hxb : x = b
  · subst hxb
    exact iff_of_false ((hk.loose x hb).2 st) fun hstate => hX (hstate ▸ hst)
  · exact hk.placed x (fun hL => hx ⟨hL, hxb⟩) st hst

/-- A held block whose state names no collection is in none. -/
theorem Holdings.Kept.lift (hk : h.Kept L) (hb : h.rm.holds b) (hX : (h.rm.block b).state ∉ collecting) : h.Kept (insert b L) := by
  refine ⟨hk.tabled, hk.distinct, fun x hx => ?_, fun x hx st hst => hk.placed x (fun hL => hx (.inr hL)) st hst⟩
  rcases hx with rfl | hx
  · by_cases hL : x ∈ L
    · exact hk.loose x hL
    · exact ⟨hb, fun st hmem => hX ((hk.state_of_member hmem).2 ▸ collecting_of_member hmem)⟩
  · exact hk.loose x hx

theorem tabled_modify {rm : Ring} {f : Descriptor → Descriptor} (ht : rm.Tabled)
    (hf : rm.holds b → (f (rm.block b)).state ≠ .free ∧ (f (rm.block b)).state ≠ .offline) : (rm.modify b f).Tabled := by
  refine ⟨?_, fun x hx => ?_, ?_⟩
  · unfold Ring.modify
    split
    · exact rising_tablePut _ _ ht.rising
    · exact ht.rising
  · rw [Ring.holds_modify] at hx
    obtain ⟨hlt, h1, h2, hp⟩ := ht.held x hx
    rw [Ring.modify_free]
    by_cases hxb : x = b
    · subst hxb
      rw [Ring.block_modify f hx]
      exact ⟨hlt, (hf hx).1, (hf hx).2, hp⟩
    · rw [Ring.block_modify_ne f hxb]
      exact ⟨hlt, h1, h2, hp⟩
  · rw [Ring.modify_free]
    exact ht.lists

/-- A change of a descriptor changes no membership. -/
theorem member_modify (h : Holdings) (b : BlockId) (f : Descriptor → Descriptor) (st : BlockState) (x : BlockId) :
    Holdings.Member { h with rm := h.rm.modify b f } st x ↔ h.Member st x := by
  cases st <;> simp [Holdings.Member]

/-- A block in no collection takes another state. -/
theorem Holdings.Kept.restate (hk : h.Kept L) (hb : b ∈ L) {f : Descriptor → Descriptor}
    (hf : (f (h.rm.block b)).state ≠ .free ∧ (f (h.rm.block b)).state ≠ .offline) :
    Holdings.Kept { h with rm := h.rm.modify b f } L := by
  obtain ⟨hheld, hnone⟩ := hk.loose b hb
  refine ⟨tabled_modify hk.tabled fun _ => hf, ⟨hk.distinct.fill, fun k => ?_, hk.distinct.slot, hk.distinct.sent,
    hk.distinct.redrain⟩, fun x hx => ?_, fun x hx st hst => ?_⟩
  · dsimp only
    rw [Ring.modify_queues]
    refine ⟨(hk.distinct.queues k).1, fun x hx => ?_⟩
    rw [Ring.block_modify_ne f (by rintro rfl; exact hnone .queued ⟨k, hx⟩)]
    exact (hk.distinct.queues k).2 x hx
  · exact ⟨(Ring.holds_modify _ _ _ f).mpr (hk.loose x hx).1, fun st hm => (hk.loose x hx).2 st ((member_modify h b f st x).mp hm)⟩
  · rw [member_modify, hk.placed x hx st hst]
    dsimp only
    rw [Ring.block_modify_ne f (by rintro rfl; exact hx hb)]

/-- A descriptor keeps its state and class. -/
theorem Holdings.Kept.edit (hk : h.Kept L) (b : BlockId) {f : Descriptor → Descriptor}
    (hf : ∀ d, (f d).state = d.state ∧ (f d).cls = d.cls) :
    Holdings.Kept { h with rm := h.rm.modify b f } L := by
  have hblock : ∀ x, ((h.rm.modify b f).block x).state = (h.rm.block x).state ∧ ((h.rm.modify b f).block x).cls = (h.rm.block x).cls := by
    intro x
    by_cases hxb : x = b
    · subst hxb
      by_cases hx : h.rm.holds x
      · rw [Ring.block_modify f hx]
        exact hf _
      · have hnone : tableGet h.rm.blocks x = none := by simpa [Ring.holds] using hx
        have : h.rm.modify x f = h.rm := by unfold Ring.modify; rw [hnone]
        rw [this]
        exact ⟨rfl, rfl⟩
    · rw [Ring.block_modify_ne f hxb]
      exact ⟨rfl, rfl⟩
  refine ⟨tabled_modify hk.tabled fun hheld => ?_, ⟨hk.distinct.fill, fun k => ?_, hk.distinct.slot, hk.distinct.sent,
    hk.distinct.redrain⟩, fun x hx => ?_, fun x hx st hst => ?_⟩
  · rw [(hf _).1]
    obtain ⟨-, h1, h2, -⟩ := hk.tabled.held b hheld
    exact ⟨h1, h2⟩
  · dsimp only
    rw [Ring.modify_queues]
    refine ⟨(hk.distinct.queues k).1, fun x hx => ?_⟩
    rw [(hblock x).2]
    exact (hk.distinct.queues k).2 x hx
  · exact ⟨(Ring.holds_modify _ _ _ f).mpr (hk.loose x hx).1, fun st hm => (hk.loose x hx).2 st ((member_modify h b f st x).mp hm)⟩
  · rw [member_modify, hk.placed x hx st hst]
    dsimp only
    rw [(hblock x).1]

/-- One block leaves its collection. -/
theorem Holdings.Kept.take_one (hk : h.Kept L) {X : BlockState} (hs : SameTables h h') (hd : h'.Distinct)
    (hX : h.Member X b) (hfree : X ≠ .free) (hm : ∀ st x, h'.Member st x ↔ h.Member st x ∧ ¬ (st = X ∧ x = b)) :
    h'.Kept (insert b L) := by
  have hset : insert b L = L ∪ {x | ∃ st, st = X ∧ x = b} := by
    ext x
    simp
  rw [hset]
  refine hk.take hs hd (fun st x hR => ?_) hm
  obtain ⟨rfl, rfl⟩ := hR
  exact ⟨hX, hfree⟩

/-! ## RM's operations on a block in no collection -/

theorem tabled_toFree {rm : Ring} (ht : rm.Tabled) (hheld : rm.holds b) (hb : ∀ l, rm.free[planeOf b] = some l → b ∉ l) :
    (rm.toFree b).Tabled := by
  obtain ⟨hlt, -, -, -⟩ := ht.held b hheld
  refine ⟨rising_tableDel b ht.rising, fun x hx => ?_, fun p l hl => ?_⟩
  · have hxb : x ≠ b := by
      rintro rfl
      simp [Ring.holds, Ring.get_toFree _ _ ht.rising] at hx
    have hx' : rm.holds x := by simpa [Ring.holds, Ring.get_toFree _ _ ht.rising, hxb] using hx
    rw [Ring.block_toFree_ne ht.rising hxb, Ring.isSome_free_toFree]
    exact ht.held x hx'
  · by_cases hp : p = planeOf b
    · subst hp
      rw [Ring.free_toFree] at hl
      obtain ⟨l0, hl0, rfl⟩ := Option.map_eq_some_iff.mp hl
      obtain ⟨hnodup, hmem⟩ := ht.lists _ l0 hl0
      refine ⟨List.nodup_append.mpr ⟨hnodup, List.nodup_singleton b, fun x hx y hy => ?_⟩, fun x hx => ?_⟩
      · rw [List.mem_singleton.mp hy]
        rintro rfl
        exact hb l0 hl0 hx
      · rcases List.mem_append.mp hx with hx | hx
        · exact hmem x hx
        · rw [List.mem_singleton.mp hx]
          exact ⟨hlt, rfl⟩
    · rw [Ring.free_toFree_ne _ _ hp] at hl
      exact ht.lists p l hl

theorem member_toFree (hp : (h.rm.free[planeOf b]).isSome) (st : BlockState) (x : BlockId) :
    Holdings.Member { h with rm := h.rm.toFree b } st x ↔ h.Member st x ∨ (st = .free ∧ x = b) := by
  cases st with
  | free =>
    simp only [Holdings.Member, true_and]
    obtain ⟨l0, hl0⟩ := Option.isSome_iff_exists.mp hp
    by_cases hpx : planeOf x = planeOf b
    · simp only [hpx, Ring.free_toFree_of_some hl0, hl0]
      simp
    · rw [Ring.free_toFree_ne _ _ hpx]
      exact (or_iff_left (by rintro rfl; exact hpx rfl)).symm
  | _ => simp [Holdings.Member, Ring.toFree]

/-- The block becomes FREE. -/
theorem Holdings.Kept.toFree (hk : h.Kept L) (hb : b ∈ L) : Holdings.Kept { h with rm := h.rm.toFree b } (L \ {b}) := by
  obtain ⟨hheld, hnone⟩ := hk.loose b hb
  obtain ⟨hlt, -, -, hp⟩ := hk.tabled.held b hheld
  have hr := hk.tabled.rising
  refine ⟨tabled_toFree hk.tabled hheld fun l hl hmem => hnone .free ⟨l, hl, hmem⟩,
    ⟨hk.distinct.fill, fun k => ?_, hk.distinct.slot, hk.distinct.sent, hk.distinct.redrain⟩, fun x hx => ?_, fun x hx st hst => ?_⟩
  · refine ⟨(hk.distinct.queues k).1, fun x hx => ?_⟩
    have hxb : x ≠ b := by rintro rfl; exact hnone .queued ⟨k, hx⟩
    exact (congrArg Descriptor.cls (Ring.block_toFree_ne hr hxb)).trans ((hk.distinct.queues k).2 x hx)
  · obtain ⟨hxheld, hxnone⟩ := hk.loose x hx.1
    refine ⟨?_, fun st hm => ?_⟩
    · have hxb : x ≠ b := hx.2
      simpa [Ring.holds, Ring.get_toFree _ _ hr, hxb] using hxheld
    · rcases (member_toFree hp st x).mp hm with hm | ⟨-, hxb⟩
      · exact hxnone st hm
      · exact hx.2 hxb
  · rw [member_toFree hp]
    dsimp only
    by_cases hxb : x = b
    · subst hxb
      rw [Ring.block_toFree hr hlt hp]
      simp [hnone, Descriptor.cleared, eq_comm]
    · rw [Ring.block_toFree_ne hr hxb, hk.placed x (fun hL => hx ⟨hL, hxb⟩) st hst]
      exact or_iff_left fun hand => hxb hand.2

/-- R82: the block becomes FREE, or RETIRED while it has pins. -/
theorem Holdings.Kept.release (hk : h.Kept L) (hb : b ∈ L) : Holdings.Kept { h with rm := h.rm.release b } (L \ {b}) := by
  unfold Ring.release
  split
  · exact hk.toFree hb
  · have hk' := hk.restate hb (f := fun d => { d with state := .retired }) ⟨nofun, nofun⟩
    refine hk'.drop hb ?_
    dsimp only
    rw [Ring.block_modify _ (hk.loose b hb).1]
    exact (by decide : BlockState.retired ∉ collecting)

theorem member_queued (k : ClassId) (st : BlockState) (x : BlockId) :
    Holdings.Member { h with rm := { h.rm with queues := put h.rm.queues k (h.rm.queues[k] ++ [b]) } } st x ↔
      h.Member st x ∨ (st = .queued ∧ x = b) := by
  cases st with
  | queued =>
    simp only [Holdings.Member, true_and]
    constructor
    · rintro ⟨k', hx⟩
      by_cases hkk : k = k'
      · subst hkk
        rw [get_put_self, List.mem_append] at hx
        rcases hx with hx | hx
        · exact .inl ⟨k, hx⟩
        · exact .inr (List.mem_singleton.mp hx)
      · rw [get_put_ne _ _ hkk] at hx
        exact .inl ⟨k', hx⟩
    · rintro (⟨k', hx⟩ | rfl)
      · refine ⟨k', ?_⟩
        by_cases hkk : k = k'
        · subst hkk
          rw [get_put_self]
          exact List.mem_append_left _ hx
        · rwa [get_put_ne _ _ hkk]
      · exact ⟨k, by rw [get_put_self]; simp⟩
  | _ => simp [Holdings.Member]

/-- R80: the block joins the class queue of its class. -/
theorem Holdings.Kept.enqueue (hk : h.Kept L) (hb : b ∈ L) {k : ClassId} (hcls : (h.rm.block b).cls = some k) :
    Holdings.Kept { h with rm := h.rm.enqueue b } (L \ {b}) := by
  have hk' := hk.restate hb (f := fun d => { d with state := .queued }) ⟨nofun, nofun⟩
  obtain ⟨hheld, hnone⟩ := hk.loose b hb
  have hblock := Ring.block_modify (fun d => { d with state := .queued }) hheld
  rw [Ring.enqueue_eq hcls, ← Ring.modify_queues h.rm b (fun d => { d with state := .queued })]
  refine hk'.place (X := .queued) ⟨rfl, rfl⟩ ⟨hk.distinct.fill, ?_, hk.distinct.slot, hk.distinct.sent, hk.distinct.redrain⟩ hb
    (congrArg Descriptor.state hblock) (by decide : BlockState.queued ∈ collecting) (fun st x => member_queued (h := { h with rm := _ }) k st x)
  refine forall_put (P := fun k (l : List BlockId) => l.Nodup ∧
    ∀ x ∈ l, ((h.rm.modify b (fun d => { d with state := .queued })).block x).cls = some k) hk'.distinct.queues ⟨?_, fun x hx => ?_⟩
  · refine List.nodup_append.mpr ⟨(hk'.distinct.queues k).1, List.nodup_singleton b, fun x hx y hy => ?_⟩
    rw [List.mem_singleton.mp hy]
    rintro rfl
    rw [Ring.modify_queues] at hx
    exact hnone .queued ⟨k, hx⟩
  · rcases List.mem_append.mp hx with hx | hx
    · exact (hk'.distinct.queues k).2 x hx
    · rw [List.mem_singleton.mp hx, hblock]
      exact hcls

/-- R79: the block is SEALING, or QUEUED when it has no unwritten bytes. -/
theorem Holdings.Kept.seal (hk : h.Kept L) (hb : b ∈ L) (k : ClassId) (cause : SealCause) :
    Holdings.Kept { h with rm := h.rm.seal b k cause } (L \ {b}) := by
  have hk' := hk.restate hb (f := fun d => { d with state := .sealing, cls := some k, cause := some cause }) ⟨nofun, nofun⟩
  have hblock := Ring.block_modify (fun d => { d with state := .sealing, cls := some k, cause := some cause }) (hk.loose b hb).1
  unfold Ring.seal
  dsimp only
  split
  · exact hk'.enqueue hb (congrArg Descriptor.cls hblock)
  · refine hk'.drop hb ?_
    dsimp only
    rw [hblock]
    exact (by decide : BlockState.sealing ∉ collecting)

/-- R80, R100: a block whose bytes were written, QUEUED when it was SEALING and these were its last. -/
theorem Holdings.Kept.written (hk : h.Kept ∅) (b : BlockId) (n : Nat) : Holdings.Kept { h with rm := h.rm.written b n } ∅ := by
  have hk' := hk.edit b (f := fun d => { d with unwritten := d.unwritten - n }) fun _ => ⟨rfl, rfl⟩
  unfold Ring.written
  dsimp only
  split
  · next hseal =>
    cases hcls : ((h.rm.modify b (fun d => { d with unwritten := d.unwritten - n })).block b).cls with
    | none =>
      unfold Ring.enqueue
      rw [hcls]
      exact hk'
    | some k =>
      have hheld : (h.rm.modify b (fun d => { d with unwritten := d.unwritten - n })).holds b := by
        refine holds_of_state ?_ ?_ <;> rw [hseal.1] <;> nofun
      have hlift := hk'.lift hheld (by dsimp only; rw [hseal.1]; decide)
      have := hlift.enqueue (Set.mem_insert b ∅) hcls
      simpa using this
  · exact hk'

/-! ## A channel's filling block -/

/-- RM after a grant, before the evaluation of pressure (R72). -/
def Ring.granted (rm : Ring) (p : PlaneId) (b : BlockId) (rest : List BlockId) (d : Descriptor) : Ring :=
  { rm with free := put rm.free p (some rest), rotation := p, blocks := tablePut rm.blocks b d }

theorem Ring.block_granted (rm : Ring) (p : PlaneId) (b : BlockId) (rest : List BlockId) (d : Descriptor) :
    (rm.granted p b rest d).block b = d :=
  Ring.block_of_get (by simp [Ring.granted])

theorem Ring.isSome_free_granted {rm : Ring} {p : PlaneId} {rest : List BlockId} (d : Descriptor) (hp : (rm.free[p]).isSome)
    (q : PlaneId) : ((rm.granted p b rest d).free[q]).isSome = (rm.free[q]).isSome := by
  by_cases hq : p = q
  · subst hq
    exact (congrArg Option.isSome (get_put_self _ _ _)).trans hp.symm
  · exact congrArg Option.isSome (get_put_ne _ _ hq)

theorem Ring.block_granted_ne {rm : Ring} {p : PlaneId} {rest : List BlockId} {d : Descriptor} (hp : (rm.free[p]).isSome)
    {x : BlockId} (hx : x ≠ b) : (rm.granted p b rest d).block x = rm.block x := by
  have hget : tableGet (rm.granted p b rest d).blocks x = tableGet rm.blocks x := by simp [Ring.granted, hx]
  simp only [Ring.block, hget, Ring.isSome_free_granted d hp]

theorem Ring.holds_granted {rm : Ring} {p : PlaneId} {rest : List BlockId} {d : Descriptor} (x : BlockId) :
    (rm.granted p b rest d).holds x ↔ x = b ∨ rm.holds x := by
  by_cases hx : x = b <;> simp [Ring.holds, Ring.granted, hx]

/-- The holdings with another filling block of one channel, and another RM. -/
def Holdings.withFill (h : Holdings) (c : ChannelId) (o : Option BlockId) (rm : Ring) : Holdings :=
  { h with fill := Function.update h.fill c o, rm := rm }

section
variable {c : ChannelId} {rm : Ring} {p : PlaneId} {rest : List BlockId} {d : Descriptor}

/-- A channel gives its filling block up. -/
theorem Holdings.Kept.unfill (hk : (h.withFill c (some b) rm).Kept L) : (h.withFill c none rm).Kept (insert b L) := by
  have hfill : ∀ {x : ChannelId} {o : Option BlockId}, Function.update h.fill c o x = if x = c then o else h.fill x :=
    fun {x o} => Function.update_apply h.fill c o x
  refine hk.take_one (X := .filling) ⟨rfl, rfl⟩ ⟨fun x y a hx hy => ?_, hk.distinct.queues, hk.distinct.slot, hk.distinct.sent,
    hk.distinct.redrain⟩ ⟨c, by simp [Holdings.withFill]⟩ nofun fun st a => ?_
  · simp only [Holdings.withFill, hfill] at hx hy
    split at hx
    · cases hx
    · split at hy
      · cases hy
      · next hxc hyc =>
        refine hk.distinct.fill x y a ?_ ?_
        · simp only [Holdings.withFill, hfill, if_neg hxc, hx]
        · simp only [Holdings.withFill, hfill, if_neg hyc, hy]
  · cases st with
    | filling =>
      simp only [Holdings.Member, true_and]
      constructor
      · rintro ⟨x, hx⟩
        simp only [Holdings.withFill, hfill] at hx
        split at hx
        · cases hx
        · next hxc =>
          have hxa : (h.withFill c (some b) rm).fill x = some a := by simp only [Holdings.withFill, hfill, if_neg hxc, hx]
          refine ⟨⟨x, hxa⟩, ?_⟩
          rintro rfl
          exact hxc (hk.distinct.fill x c a hxa (by simp [Holdings.withFill]))
      · rintro ⟨⟨x, hx⟩, hab⟩
        simp only [Holdings.withFill, hfill] at hx
        split at hx
        · exact absurd (Option.some.inj hx).symm hab
        · next hxc => exact ⟨x, by simp only [Holdings.withFill, hfill, if_neg hxc, hx]⟩
    | _ => simp [Holdings.Member, Holdings.withFill]

theorem tabled_granted (ht : rm.Tabled) (hp : rm.free[p] = some (b :: rest)) (hd : d.state ≠ .free ∧ d.state ≠ .offline) :
    (rm.granted p b rest d).Tabled := by
  have hsome : (rm.free[p]).isSome := by rw [hp]; rfl
  obtain ⟨hnodup, hmem⟩ := ht.lists p _ hp
  refine ⟨rising_tablePut _ _ ht.rising, fun x hx => ?_, fun q l hl => ?_⟩
  · rw [Ring.isSome_free_granted d hsome]
    by_cases hxb : x = b
    · subst hxb
      obtain ⟨hlt, hplane⟩ := hmem x List.mem_cons_self
      rw [Ring.block_granted]
      exact ⟨hlt, hd.1, hd.2, by rw [hplane]; exact hsome⟩
    · rw [Ring.block_granted_ne hsome hxb]
      exact ht.held x ((Ring.holds_granted x).mp hx |>.resolve_left hxb)
  · by_cases hq : p = q
    · subst hq
      simp only [Ring.granted, get_put_self, Option.some.injEq] at hl
      subst hl
      exact ⟨(List.nodup_cons.mp hnodup).2, fun x hx => hmem x (List.mem_cons_of_mem _ hx)⟩
    · simp only [Ring.granted, get_put_ne _ _ hq] at hl
      exact ht.lists q l hl

/-- R72: the head of a free list becomes a channel's filling block. -/
theorem Holdings.Kept.grant (hk : (h.withFill c none rm).Kept ∅) (hp : rm.free[p] = some (b :: rest)) (hd : d.state = .filling) :
    (h.withFill c (some b) (rm.granted p b rest d)).Kept ∅ := by
  have hsome : (rm.free[p]).isSome := by rw [hp]; rfl
  obtain ⟨hnodup, hmem⟩ := hk.tabled.lists p _ hp
  obtain ⟨hlt, hplane⟩ := hmem b List.mem_cons_self
  have hfree : (h.withFill c none rm).Member .free b := ⟨b :: rest, by subst hplane; exact hp, List.mem_cons_self⟩
  obtain ⟨-, hstate⟩ := hk.state_of_member hfree
  have hother : ∀ st, st ≠ .free → ¬ (h.withFill c none rm).Member st b := fun st hne hm =>
    hne ((hk.state_of_member hm).2.symm.trans hstate)
  have hfill : ∀ {x : ChannelId} {o : Option BlockId}, Function.update h.fill c o x = if x = c then o else h.fill x :=
    fun {x o} => Function.update_apply h.fill c o x
  have hkeep : ∀ x a, x ≠ c → h.fill x = some a → (h.withFill c none rm).Member .filling a := fun x a hxc hx =>
    ⟨x, by simp only [Holdings.withFill, hfill, if_neg hxc, hx]⟩
  refine ⟨tabled_granted hk.tabled hp (by rw [hd]; exact ⟨nofun, nofun⟩), ⟨fun x y a hx hy => ?_, fun k => ?_, hk.distinct.slot,
    hk.distinct.sent, hk.distinct.redrain⟩, nofun, fun x _ st hst => ?_⟩
  · simp only [Holdings.withFill, hfill] at hx hy
    split at hx
    · next hxc =>
      split at hy
      · next hyc => exact hxc.trans hyc.symm
      · next hyc => exact absurd (hkeep y a hyc hy) (Option.some.inj hx ▸ hother .filling nofun)
    · next hxc =>
      split at hy
      · next hyc => exact absurd (hkeep x a hxc hx) (Option.some.inj hy ▸ hother .filling nofun)
      · next hyc =>
        refine hk.distinct.fill x y a ?_ ?_
        · simp only [Holdings.withFill, hfill, if_neg hxc, hx]
        · simp only [Holdings.withFill, hfill, if_neg hyc, hy]
  · refine ⟨(hk.distinct.queues k).1, fun x hx => ?_⟩
    have hxb : x ≠ b := by rintro rfl; exact hother .queued nofun ⟨k, hx⟩
    exact (congrArg Descriptor.cls (Ring.block_granted_ne hsome hxb)).trans ((hk.distinct.queues k).2 x hx)
  · by_cases hxb : x = b
    · subst hxb
      change _ ↔ ((rm.granted p x rest d).block x).state = st
      rw [Ring.block_granted, hd]
      constructor
      · intro hm
        by_contra hne
        cases st with
        | filling => exact hne rfl
        | free =>
          obtain ⟨l, hl, hx⟩ := hm
          subst hplane
          simp only [Holdings.withFill, Ring.granted, get_put_self, Option.some.injEq] at hl
          subst hl
          exact (List.nodup_cons.mp hnodup).1 hx
        | queued => exact hother .queued nofun hm
        | sending => exact hother .sending nofun hm
        | sent => exact hother .sent nofun hm
        | redrain => exact hother .redrain nofun hm
        | offline | sealing | retired => exact hm
      · rintro rfl
        exact ⟨c, by simp [Holdings.withFill]⟩
    · change _ ↔ ((rm.granted p b rest d).block x).state = st
      rw [Ring.block_granted_ne hsome hxb]
      refine Iff.trans ?_ (hk.placed x id st hst)
      cases st with
      | filling =>
        simp only [Holdings.Member, Holdings.withFill, hfill]
        refine exists_congr fun y => ?_
        split
        · simp [Ne.symm hxb]
        · rfl
      | free =>
        simp only [Holdings.Member, Holdings.withFill, Ring.granted]
        by_cases hq : p = planeOf x
        · subst hq
          simp [hp, hxb]
        · rw [get_put_ne _ _ hq]
      | _ => rfl

theorem insert_sdiff_empty (b : BlockId) : insert b (∅ : Set BlockId) \ {b} = ∅ :=
  Set.insert_sdiff_self_of_notMem (Set.notMem_empty b)

theorem FillMove.kept {v : Env} {x y : Option BlockId × Ring} (hm : FillMove v x y) (hk : (h.withFill c x.1 x.2).Kept ∅) :
    (h.withFill c y.1 y.2).Kept ∅ := by
  cases hm with
  | sealed rm b cause => exact insert_sdiff_empty b ▸ hk.unfill.seal (Set.mem_insert b ∅) v.config.cls cause
  | allocated rm rm' b run halloc =>
    obtain ⟨p, rest, -, hp, rfl⟩ := Ring.allocate_some halloc
    exact (hk.grant (d := .allocated v.c run) hp rfl).congr rfl rfl rfl rfl rfl rfl rfl
  | released rm b =>
    have := insert_sdiff_empty b ▸ hk.unfill.toFree (Set.mem_insert b ∅)
    exact this.congr rfl rfl rfl rfl rfl rfl rfl
  | edited o rm b f hf => exact hk.edit b fun d => ⟨(hf d).1, (hf d).2.1⟩

end

end

end Sys2Proof.Machine
end

section
/-! PROOFS. What DS, the pins, the masks and the resets do to the collections; every move keeps them (R68, R71, R85, R86, R90). -/

namespace Sys2Proof.Machine

open Sys2Proof.Safety

/-! ## DS's lists -/

/-- The states whose collections are DS's slot and lists. -/
def Listed (X : BlockState) : Prop := X = .sending ∨ X = .sent ∨ X = .redrain

/-- The blocks of one of them, and the holdings with others in it. -/
def Holdings.list (h : Holdings) : BlockState → List BlockId
  | .sending => h.slot
  | .sent => h.sent
  | .redrain => h.redrain
  | _ => []

def Holdings.withList (h : Holdings) (X : BlockState) (l : List BlockId) : Holdings :=
  match X with
  | .sending => { h with slot := l }
  | .sent => { h with sent := l }
  | .redrain => { h with redrain := l }
  | _ => h

section
variable {h : Holdings} {L : Set BlockId} {b : BlockId} {X : BlockState} {l : List BlockId}

theorem member_list (hX : Listed X) (x : BlockId) : h.Member X x ↔ x ∈ h.list X := by
  rcases hX with rfl | rfl | rfl <;> rfl

theorem member_withList (hX : Listed X) (st : BlockState) (x : BlockId) :
    (h.withList X l).Member st x ↔ if st = X then x ∈ l else h.Member st x := by
  rcases hX with rfl | rfl | rfl <;> cases st <;> rfl

theorem sameTables_withList (hX : Listed X) : SameTables h (h.withList X l) := by
  rcases hX with rfl | rfl | rfl <;> exact ⟨rfl, rfl⟩

theorem list_nodup (hX : Listed X) (hd : h.Distinct) : (h.list X).Nodup := by
  rcases hX with rfl | rfl | rfl
  · exact hd.slot
  · exact hd.sent
  · exact hd.redrain

theorem distinct_withList (hX : Listed X) (hd : h.Distinct) (hl : l.Nodup) : (h.withList X l).Distinct := by
  rcases hX with rfl | rfl | rfl
  · exact ⟨hd.fill, hd.queues, hl, hd.sent, hd.redrain⟩
  · exact ⟨hd.fill, hd.queues, hd.slot, hl, hd.redrain⟩
  · exact ⟨hd.fill, hd.queues, hd.slot, hd.sent, hl⟩

theorem Listed.collecting (hX : Listed X) : X ∈ collecting := by
  rcases hX with rfl | rfl | rfl <;> decide

theorem Listed.ne_free (hX : Listed X) : X ≠ .free := by
  rcases hX with rfl | rfl | rfl <;> nofun

theorem Listed.ne_offline (hX : Listed X) : X ≠ .offline := by
  rcases hX with rfl | rfl | rfl <;> nofun

/-- Blocks leave one of DS's lists. -/
theorem Holdings.Kept.unlist (hk : h.Kept L) (hX : Listed X) {T : Set BlockId} (hn : l.Nodup) (hT : ∀ x ∈ T, x ∈ h.list X)
    (hl : ∀ x, x ∈ l ↔ x ∈ h.list X ∧ x ∉ T) : (h.withList X l).Kept (L ∪ T) := by
  have hset : L ∪ T = L ∪ {x | ∃ st, st = X ∧ x ∈ T} := by simp
  rw [hset]
  refine hk.take (sameTables_withList hX) (distinct_withList hX hk.distinct hn) (fun st x hR => ?_) fun st x => ?_
  · obtain ⟨rfl, hx⟩ := hR
    exact ⟨(member_list hX x).mpr (hT x hx), hX.ne_free⟩
  · rw [member_withList hX]
    split
    · next hst =>
      subst hst
      rw [hl, member_list hX]
      simp
    · next hst => simp [hst]

/-- One block leaves. -/
theorem Holdings.Kept.unlist_one (hk : h.Kept L) (hX : Listed X) (hl : h.list X = b :: l) : (h.withList X l).Kept (insert b L) := by
  have hn := list_nodup hX hk.distinct
  rw [hl, List.nodup_cons] at hn
  rw [← Set.union_singleton]
  refine hk.unlist hX hn.2 (fun x hx => ?_) fun x => ?_
  · rw [hl, Set.mem_singleton_iff.mp hx]
    exact List.mem_cons_self
  · rw [hl, List.mem_cons, Set.mem_singleton_iff]
    constructor
    · intro hx
      exact ⟨.inr hx, by rintro rfl; exact hn.1 hx⟩
    · rintro ⟨rfl | hx, hne⟩
      · exact absurd rfl hne
      · exact hx

/-- A block with the list's state joins it. -/
theorem Holdings.Kept.enlist (hk : h.Kept L) (hX : Listed X) (hb : b ∈ L) (hs : (h.rm.block b).state = X)
    (hl : l.Perm (b :: h.list X)) : (h.withList X l).Kept (L \ {b}) := by
  have hnot : b ∉ h.list X := fun hx => (hk.loose b hb).2 X ((member_list hX b).mpr hx)
  refine hk.place (sameTables_withList hX) (distinct_withList hX hk.distinct ?_) hb hs hX.collecting fun st x => ?_
  · exact hl.nodup_iff.mpr (List.nodup_cons.mpr ⟨hnot, list_nodup hX hk.distinct⟩)
  · rw [member_withList hX]
    split
    · next hst =>
      subst hst
      rw [hl.mem_iff, List.mem_cons, member_list hX]
      simp [or_comm]
    · next hst => simp [hst]

/-- A block in no collection takes a list's state and joins the list. -/
theorem Holdings.Kept.move (hk : h.Kept L) (hX : Listed X) (hb : b ∈ L) {f : Descriptor → Descriptor}
    (hf : ∀ d, (f d).state = X) (hl : l.Perm (b :: h.list X)) :
    (Holdings.withList { h with rm := h.rm.modify b f } X l).Kept (L \ {b}) := by
  have hlist : Holdings.list { h with rm := h.rm.modify b f } X = h.list X := by rcases hX with rfl | rfl | rfl <;> rfl
  refine (hk.restate hb ⟨?_, ?_⟩).enlist hX hb ?_ (hlist.symm ▸ hl)
  · rw [hf]; exact hX.ne_free
  · rw [hf]; exact hX.ne_offline
  · exact (congrArg Descriptor.state (Ring.block_modify f (hk.loose b hb).1)).trans (hf _)

/-- The head of a class queue leaves it. -/
theorem Holdings.Kept.unqueue (hk : h.Kept L) {k : ClassId} (hq : h.rm.queues[k] = b :: l) :
    Holdings.Kept { h with rm := { h.rm with queues := put h.rm.queues k l } } (insert b L) := by
  obtain ⟨hn, hcls⟩ := hk.distinct.queues k
  rw [hq] at hn hcls
  obtain ⟨hb, hn⟩ := List.nodup_cons.mp hn
  refine hk.take_one (X := .queued) ⟨rfl, rfl⟩ ⟨hk.distinct.fill, ?_, hk.distinct.slot, hk.distinct.sent, hk.distinct.redrain⟩
    ⟨k, hq ▸ List.mem_cons_self⟩ nofun fun st x => ?_
  · exact forall_put (P := fun k (l : List BlockId) => l.Nodup ∧ ∀ x ∈ l, (h.rm.block x).cls = some k) hk.distinct.queues
      ⟨hn, fun x hx => hcls x (List.mem_cons_of_mem _ hx)⟩
  · cases st with
    | queued =>
      simp only [Holdings.Member, true_and]
      constructor
      · rintro ⟨k', hx⟩
        by_cases hkk : k = k'
        · subst hkk
          rw [get_put_self] at hx
          exact ⟨⟨k, hq ▸ List.mem_cons_of_mem _ hx⟩, by rintro rfl; exact hb hx⟩
        · rw [get_put_ne _ _ hkk] at hx
          refine ⟨⟨k', hx⟩, ?_⟩
          rintro rfl
          have h1 := (hk.distinct.queues k').2 x hx
          rw [hcls x List.mem_cons_self] at h1
          exact hkk (Option.some.inj h1)
      · rintro ⟨⟨k', hx⟩, hxb⟩
        refine ⟨k', ?_⟩
        by_cases hkk : k = k'
        · subst hkk
          rw [get_put_self]
          rw [hq] at hx
          exact (List.mem_cons.mp hx).resolve_left hxb
        · rwa [get_put_ne _ _ hkk]
    | _ => simp [Holdings.Member]

end

/-! ## DS -/

/-- The holdings of a channel assignment with DS and RM. -/
def drainHoldings (fill : ChannelId → Option BlockId) (x : Drain × Ring) : Holdings :=
  ⟨x.2, fill, slotBlocks x.1.slot, listBlocks x.1.sent, listBlocks x.1.redrain⟩

section
variable {fill : ChannelId → Option BlockId} {x : Drain × Ring}

theorem slotBlocks_append (l : List SlotEntry) (e : SlotEntry) : (slotBlocks (l ++ [e])).Perm (e.block :: slotBlocks l) := by
  rw [slotBlocks, List.map_append]
  exact List.perm_append_singleton _ _

theorem listBlocks_insertBySeq (m : Sequenced) (l : List Sequenced) : (listBlocks (insertBySeq m l)).Perm (m.block :: listBlocks l) :=
  (insertBySeq_perm m l).map _

/-- R112 to R116: a selection takes a block from REDRAIN or a class queue into the slot. -/
theorem kept_selectOnce (allowed : Bool) (w : Vector Nat 4) (hk : (drainHoldings fill x).Kept ∅) :
    (drainHoldings fill (selectOnce allowed w x)).Kept ∅ := by
  rcases selectOnce_cases allowed w x with he | ⟨-, -, ⟨m, rest, hr, he⟩ | ⟨-, -, he⟩⟩ <;> rw [he]
  · exact hk
  · have hlist : (drainHoldings fill x).list .redrain = m.block :: listBlocks rest := by
      simp [Holdings.list, drainHoldings, listBlocks, hr]
    have h1 := hk.unlist_one (.inr (.inr rfl)) hlist
    have h2 := h1.move (X := .sending) (.inl rfl) (Set.mem_insert _ _) (f := fun d => { d with state := .sending }) (fun _ => rfl)
      (slotBlocks_append x.1.slot ⟨m.block, m.seq, false, true, 0, 0⟩)
    rwa [insert_sdiff_empty] at h2
  · rcases selectNew_cases w x with hn | ⟨k, cur, turn, b, rest, -, hq, hd, hrm⟩
    · rw [hn]; exact hk
    · have h1 := hk.unqueue (k := k) (b := b) (l := rest) hq
      have h2 := h1.move (X := .sending) (.inl rfl) (Set.mem_insert _ _)
        (f := fun d => { d with state := .sending, seq := some x.1.nextSeq }) (fun _ => rfl)
        (slotBlocks_append x.1.slot ⟨b, x.1.nextSeq, false, false, 0, 0⟩)
      rw [insert_sdiff_empty] at h2
      unfold drainHoldings
      rw [hd, hrm]
      exact h2

/-- R84, R119: the end of a block's last frame. -/
theorem kept_finishBlock {st : Settings} {e : SlotEntry} {rest : List SlotEntry} (hs : x.1.slot = e :: rest)
    (hk : (drainHoldings fill x).Kept ∅) : (drainHoldings fill (finishBlock st e rest x)).Kept ∅ := by
  have hlist : (drainHoldings fill x).list .sending = e.block :: slotBlocks rest := by
    simp [Holdings.list, drainHoldings, slotBlocks, hs]
  have h1 := hk.unlist_one (.inl rfl) hlist
  unfold finishBlock
  dsimp only
  split
  · have h2 := (h1.release (Set.mem_insert _ _)).evaluateSince st x.2
    rw [insert_sdiff_empty] at h2
    exact h2
  · have h2 := h1.move (X := .sent) (.inr (.inl rfl)) (Set.mem_insert _ _) (f := fun d => { d with state := .sent }) (fun _ => rfl)
      (listBlocks_insertBySeq ⟨e.block, e.seq⟩ x.1.sent)
    rw [insert_sdiff_empty] at h2
    exact h2

theorem kept_dataEnd {st : Settings} {k : Fin 2} (hk : (drainHoldings fill x).Kept ∅) : (drainHoldings fill (dataEnd st k x)).Kept ∅ := by
  rcases dataEnd_cases st k x with he | ⟨f, e, rest, -, -, hs, he⟩ <;> rw [he]
  · exact hk
  · exact kept_finishBlock (x := ({ x.1 with halves := put x.1.halves k ⟨.empty, none⟩ }, x.2)) hs hk

/-! ### FLOW -/

/-- Blocks in no collection are released one after another. -/
theorem Holdings.Kept.releaseAll {h : Holdings} : ∀ {l : List Sequenced} {rm : Ring}, (listBlocks l).Nodup →
    Holdings.Kept { h with rm := rm } {b | b ∈ listBlocks l} →
    Holdings.Kept { h with rm := l.foldl (fun rm m => rm.release m.block) rm } ∅
  | [], rm, _, hk => by simpa [listBlocks] using hk
  | m :: l, rm, hn, hk => by
    obtain ⟨hm, hn⟩ := List.nodup_cons.mp hn
    have h1 := hk.release (b := m.block) (by simp [listBlocks])
    refine Holdings.Kept.releaseAll (l := l) hn ?_
    have hset : {b | b ∈ listBlocks (m :: l)} \ {m.block} = {b | b ∈ listBlocks l} := by
      ext b
      simp only [listBlocks, List.map_cons, List.mem_cons, Set.mem_sdiff, Set.mem_ofPred_eq, Set.mem_singleton_iff]
      constructor
      · rintro ⟨rfl | hb, hne⟩
        · exact absurd rfl hne
        · exact hb
      · intro hb
        exact ⟨.inr hb, by rintro rfl; exact hm hb⟩
    rwa [hset] at h1

/-- A filter of a list without a block twice parts its blocks. -/
theorem mem_listBlocks_filter {l : List Sequenced} (hn : (listBlocks l).Nodup) (q : Sequenced → Bool) (b : BlockId) :
    b ∈ listBlocks (l.filter q) ↔ b ∈ listBlocks l ∧ b ∉ listBlocks (l.filter (fun m => !q m)) := by
  simp only [listBlocks, List.mem_map, List.mem_filter]
  constructor
  · rintro ⟨m, ⟨hm, hq⟩, rfl⟩
    refine ⟨⟨m, hm, rfl⟩, ?_⟩
    rintro ⟨m', ⟨hm', hq'⟩, heq⟩
    have : m' = m := List.inj_on_of_nodup_map hn hm' hm heq
    subst this
    simp [hq] at hq'
  · rintro ⟨⟨m, hm, rfl⟩, hnot⟩
    refine ⟨m, ⟨hm, ?_⟩, rfl⟩
    by_contra hq
    exact hnot ⟨m, ⟨hm, by simpa using hq⟩, rfl⟩

theorem coveredBlocks_eq (c : Word32) (d : Drain) : coveredBlocks c d =
    joinAll (d.redrain.filter (fun m => seqAtOrBefore m.seq c)) (d.sent.filter (fun m => seqAtOrBefore m.seq c)) := rfl

theorem mem_coveredBlocks {c : Word32} {d : Drain} {m : Sequenced} :
    m ∈ coveredBlocks c d ↔ (m ∈ d.sent ∨ m ∈ d.redrain) ∧ seqAtOrBefore m.seq c = true := by
  rw [coveredBlocks_eq, mem_joinAll, List.mem_filter, List.mem_filter]
  tauto

/-- Two lists of DS have no block in common. -/
theorem Holdings.Kept.disjoint {h : Holdings} {L : Set BlockId} {X Y : BlockState} (hk : h.Kept L) (hX : Listed X) (hY : Listed Y)
    (hXY : X ≠ Y) {b : BlockId} (hb : b ∈ h.list X) : b ∉ h.list Y := fun hb' =>
  hXY ((hk.state_of_member ((member_list hX b).mpr hb)).2.symm.trans (hk.state_of_member ((member_list hY b).mpr hb')).2)

theorem coveredBlocks_nodup (c : Word32) (hk : (drainHoldings fill x).Kept ∅) : (listBlocks (coveredBlocks c x.1)).Nodup := by
  rw [coveredBlocks_eq]
  refine (((joinAll_perm _ _).map _).nodup_iff).mpr ?_
  rw [List.map_append]
  refine List.nodup_append.mpr ⟨?_, ?_, fun b hb b' hb' => ?_⟩
  · exact List.Pairwise.sublist (List.filter_sublist.map _) hk.distinct.redrain
  · exact List.Pairwise.sublist (List.filter_sublist.map _) hk.distinct.sent
  · rintro rfl
    exact hk.disjoint (X := .redrain) (Y := .sent) (.inr (.inr rfl)) (.inr (.inl rfl)) nofun
      ((List.filter_sublist.map _).subset hb) ((List.filter_sublist.map _).subset hb')

/-- The blocks of a list that a commit does not cover stay in it. -/
theorem Holdings.Kept.cover {h : Holdings} {L : Set BlockId} {X : BlockState} (hk : h.Kept L) (hX : Listed X) (c : Word32)
    {l : List Sequenced} (hl : h.list X = listBlocks l) :
    (h.withList X (listBlocks (l.filter (fun m => seqAfter m.seq c)))).Kept
      (L ∪ {b | b ∈ listBlocks (l.filter (fun m => seqAtOrBefore m.seq c))}) := by
  have hn : (listBlocks l).Nodup := hl ▸ list_nodup hX hk.distinct
  refine hk.unlist hX (List.Pairwise.sublist (List.filter_sublist.map _) hn) (fun b hb => ?_) fun b => ?_
  · rw [hl]
    exact (List.filter_sublist.map _).subset hb
  · rw [hl]
    exact mem_listBlocks_filter hn (fun m => seqAfter m.seq c) b

theorem slotBlocks_covered (l : List SlotEntry) (q : SlotEntry → Bool) :
    slotBlocks (l.map (fun e => { e with covered := q e })) = slotBlocks l := by
  simp [slotBlocks, Function.comp_def]

/-- R85, R121: a commit releases the SENT and REDRAIN blocks it covers. -/
theorem kept_commitTo (st : Settings) (c : Word32) (hk : (drainHoldings fill x).Kept ∅) :
    (drainHoldings fill (commitTo st c x)).Kept ∅ := by
  have h1 := (hk.cover (X := .sent) (.inr (.inl rfl)) c (l := x.1.sent) rfl).cover (X := .redrain) (.inr (.inr rfl)) c
    (l := x.1.redrain) rfl
  have hset : (∅ ∪ {b | b ∈ listBlocks (x.1.sent.filter (fun m => seqAtOrBefore m.seq c))}) ∪
      {b | b ∈ listBlocks (x.1.redrain.filter (fun m => seqAtOrBefore m.seq c))} = {b | b ∈ listBlocks (coveredBlocks c x.1)} := by
    ext b
    simp only [Set.empty_union, Set.mem_union, Set.mem_ofPred_eq, listBlocks, List.mem_map, List.mem_filter, mem_coveredBlocks]
    aesop
  rw [hset] at h1
  have h2 := Holdings.Kept.releaseAll (h := ⟨x.2, fill, slotBlocks x.1.slot, listBlocks (x.1.sent.filter (fun m => seqAfter m.seq c)),
    listBlocks (x.1.redrain.filter (fun m => seqAfter m.seq c))⟩) (coveredBlocks_nodup c hk) h1
  refine (h2.evaluateSince st x.2).congr rfl rfl rfl rfl ?_ rfl rfl
  exact slotBlocks_covered _ fun e => e.covered || seqAtOrBefore e.seq c

theorem kept_takeFlow (st : Settings) (g c : Word32) (hk : (drainHoldings fill x).Kept ∅) :
    (drainHoldings fill (takeFlow st g c x)).Kept ∅ := by
  have hgrant : (drainHoldings fill (x.1.takeGrant g, x.2)).Kept ∅ := by
    unfold Drain.takeGrant
    split <;> exact hk
  unfold takeFlow
  dsimp only
  split
  · exact hgrant
  · exact kept_commitTo st _ hgrant

/-! ### Link loss -/

/-- The blocks of a slot that went down are released or join REDRAIN. -/
theorem kept_slotDown : ∀ {l : List SlotEntry} {x : Drain × Ring} {M : Set BlockId}, (slotBlocks l).Nodup →
    (∀ b ∈ slotBlocks l, b ∉ M) → (drainHoldings fill x).Kept ({b | b ∈ slotBlocks l} ∪ M) →
    (drainHoldings fill (l.foldl slotDown x)).Kept M
  | [], x, M, _, _, hk => by simpa [slotBlocks] using hk
  | e :: l, x, M, hn, hM, hk => by
    obtain ⟨he, hn⟩ := List.nodup_cons.mp hn
    have hset : ({b | b ∈ slotBlocks (e :: l)} ∪ M) \ {e.block} = {b | b ∈ slotBlocks l} ∪ M := by
      ext b
      have heM := hM e.block (by simp [slotBlocks])
      by_cases hbe : b = e.block
      · subst hbe
        simp [heM]
        exact he
      · simp [slotBlocks, hbe]
    refine kept_slotDown (l := l) hn (fun b hb => hM b (List.mem_cons_of_mem _ hb)) ?_
    have hmem : e.block ∈ {b | b ∈ slotBlocks (e :: l)} ∪ M := .inl List.mem_cons_self
    rw [← hset]
    unfold slotDown
    split
    · exact hk.release hmem
    · exact hk.move (X := .redrain) (.inr (.inr rfl)) hmem (f := fun d => { d with state := .redrain }) (fun _ => rfl)
        (listBlocks_insertBySeq ⟨e.block, e.seq⟩ x.1.redrain)

/-- The SENT blocks that went down join REDRAIN. -/
theorem kept_sentDown : ∀ {l : List Sequenced} {x : Drain × Ring}, (listBlocks l).Nodup →
    (drainHoldings fill x).Kept {b | b ∈ listBlocks l} → (drainHoldings fill (l.foldl sentDown x)).Kept ∅
  | [], x, _, hk => by simpa [listBlocks] using hk
  | m :: l, x, hn, hk => by
    obtain ⟨hm, hn⟩ := List.nodup_cons.mp hn
    have hset : {b | b ∈ listBlocks (m :: l)} \ {m.block} = {b | b ∈ listBlocks l} := by
      ext b
      by_cases hbm : b = m.block
      · subst hbm
        simp
        exact hm
      · simp [listBlocks, hbm]
    refine kept_sentDown (l := l) hn ?_
    rw [← hset]
    exact hk.move (X := .redrain) (.inr (.inr rfl)) (b := m.block) List.mem_cons_self (f := fun d => { d with state := .redrain })
      (fun _ => rfl) (listBlocks_insertBySeq m x.1.redrain)

theorem kept_collectionsDown (st : Settings) (hk : (drainHoldings fill x).Kept ∅) :
    (drainHoldings fill (collectionsDown st x)).Kept ∅ := by
  have hslot : (drainHoldings fill ({ x.1 with slot := [] }, x.2)).Kept (∅ ∪ {b | b ∈ slotBlocks x.1.slot}) :=
    hk.unlist (X := .sending) (.inl rfl) List.nodup_nil (fun _ hb => hb) fun b => by
      simp [Holdings.list, drainHoldings, slotBlocks]
  have hsent : (drainHoldings fill ({ x.1 with slot := [], sent := [] }, x.2)).Kept
      (∅ ∪ {b | b ∈ slotBlocks x.1.slot} ∪ {b | b ∈ listBlocks x.1.sent}) :=
    hslot.unlist (X := .sent) (.inr (.inl rfl)) List.nodup_nil (fun _ hb => hb) fun b => by
      simp [Holdings.list, drainHoldings, listBlocks]
  rw [Set.empty_union] at hsent
  refine Holdings.Kept.evaluateSince (h := drainHoldings fill _) st x.2 ?_
  refine kept_sentDown hk.distinct.sent (kept_slotDown hk.distinct.slot (fun b hb hb' => ?_) hsent)
  exact hk.disjoint (X := .sending) (Y := .sent) (.inl rfl) (.inr (.inl rfl)) nofun hb hb'

end

/-! ## Pins (R87, R88) -/

section
variable {h : Holdings} {b : BlockId}

theorem Holdings.Kept.pin (hk : h.Kept ∅) (b : BlockId) : Holdings.Kept { h with rm := (h.rm.pin b).2 } ∅ := by
  rcases h.rm.pin_cases b with ⟨-, -, hp⟩ | ⟨-, -, hp⟩ | ⟨-, hp⟩ <;> rw [hp]
  · exact hk.edit b (f := fun d => { d with pins := d.pins + 1 }) fun _ => ⟨rfl, rfl⟩
  · exact hk
  · exact hk

theorem Holdings.Kept.unpin (hk : h.Kept ∅) (st : Settings) (b : BlockId) :
    Holdings.Kept { h with rm := (h.rm.unpin st b).2 } ∅ := by
  have hk' := hk.edit b (f := fun d => { d with pins := d.pins - 1 }) fun _ => ⟨rfl, rfl⟩
  unfold Ring.unpin
  dsimp only
  split
  · exact hk
  · split
    · next hret =>
      have hheld : (h.rm.modify b (fun d => { d with pins := d.pins - 1 })).holds b := by
        refine holds_of_state ?_ ?_ <;> rw [hret.1] <;> nofun
      have hX : ((h.rm.modify b (fun d => { d with pins := d.pins - 1 })).block b).state ∉ collecting := by
        rw [hret.1]
        decide
      have h1 := (hk'.lift hheld hX).toFree (Set.mem_insert b ∅)
      rw [insert_sdiff_empty] at h1
      exact h1.congr rfl rfl rfl rfl rfl rfl rfl
    · exact hk'

/-! ## Planes (R67, R71, R90, R91) -/

theorem mem_planeBlocks {p : PlaneId} {x : Nat} : x ∈ planeBlocks p ↔ x < 8192 ∧ planeOf x = p := by
  have hp := p.isLt
  rw [planeBlocks, List.mem_range'_1, Fin.ext_iff]
  change p.val * 2048 ≤ x ∧ x < p.val * 2048 + 2048 ↔ x < 8192 ∧ x / 2048 % 4 = p.val
  omega

theorem planeBlocks_nodup (p : PlaneId) : (planeBlocks p).Nodup := List.nodup_range' (step := 1)

theorem Holdings.Kept.not_holds_of_none {L : Set BlockId} (hk : h.Kept L) {p : PlaneId} (hp : h.rm.free[p] = none) {x : BlockId}
    (hx : planeOf x = p) : ¬ h.rm.holds x := fun hheld => by
  subst hx
  have := (hk.tabled.held x hheld).2.2.2
  rw [hp] at this
  cases this

/-- A change of one plane's free list is not seen by the blocks of other planes. -/
theorem block_free_ne {rm : Ring} {p : PlaneId} (o : Option (List BlockId)) {x : BlockId} (hx : p ≠ planeOf x) :
    Ring.block { rm with free := put rm.free p o } x = rm.block x := by
  simp only [Ring.block, get_put_ne _ _ hx]

theorem member_free_ne {p : PlaneId} (o : Option (List BlockId)) {x : BlockId} (hx : p ≠ planeOf x) (st : BlockState) :
    Holdings.Member { h with rm := { h.rm with free := put h.rm.free p o } } st x ↔ h.Member st x := by
  cases st with
  | free => simp only [Holdings.Member, get_put_ne _ _ hx]
  | _ => rfl

/-- A plane's free list is made or ended while no block of the plane is held. -/
theorem Holdings.Kept.relist (hk : h.Kept ∅) {p : PlaneId} (hp : ∀ x, planeOf x = p → ¬ h.rm.holds x)
    (o : Option (List BlockId)) (ho : ∀ l, o = some l → l = planeBlocks p) :
    Holdings.Kept { h with rm := { h.rm with free := put h.rm.free p o } } ∅ := by
  refine ⟨⟨hk.tabled.rising, fun x hx => ?_, fun q l hl => ?_⟩, ⟨hk.distinct.fill, fun k => ?_, hk.distinct.slot, hk.distinct.sent,
    hk.distinct.redrain⟩, nofun, fun x _ st hst => ?_⟩
  · have hpx : p ≠ planeOf x := fun heq => hp x heq.symm hx
    dsimp only
    rw [block_free_ne o hpx, get_put_ne _ _ hpx]
    exact hk.tabled.held x hx
  · by_cases hq : p = q
    · subst hq
      dsimp only at hl
      rw [get_put_self] at hl
      rw [ho l hl]
      exact ⟨planeBlocks_nodup p, fun b => mem_planeBlocks.mp⟩
    · dsimp only at hl
      rw [get_put_ne _ _ hq] at hl
      exact hk.tabled.lists q l hl
  · refine ⟨(hk.distinct.queues k).1, fun x hx => ?_⟩
    have hheld : h.rm.holds x := by
      obtain ⟨-, hstate⟩ := hk.state_of_member (st := .queued) ⟨k, hx⟩
      refine holds_of_state ?_ ?_ <;> rw [hstate] <;> nofun
    dsimp only
    rw [block_free_ne o fun heq => hp x heq.symm hheld]
    exact (hk.distinct.queues k).2 x hx
  · by_cases hpx : p = planeOf x
    · have hget : tableGet h.rm.blocks x = none := by simpa [Ring.holds] using hp x hpx.symm
      have hout : ∀ st, st ≠ .free → ¬ h.Member st x := fun st hne hm => by
        obtain ⟨-, hstate⟩ := hk.state_of_member hm
        rcases Ring.block_of_none hget with hb | hb <;> rw [hb] at hstate <;> subst hstate
        · exact hne rfl
        · exact hm
      subst hpx
      have hblock : ((Ring.block { h.rm with free := put h.rm.free (planeOf x) o } x).state = st) ↔
          st = if x < 8192 ∧ o.isSome then .free else .offline := by
        simp only [Ring.block, hget, get_put_self, Descriptor.cleared]
        exact eq_comm
      dsimp only
      rw [hblock]
      by_cases hst' : st = .free
      · subst hst'
        simp only [Holdings.Member, get_put_self]
        constructor
        · rintro ⟨l, rfl, hx⟩
          rw [ho l rfl] at hx
          rw [if_pos ⟨(mem_planeBlocks.mp hx).1, rfl⟩]
        · intro heq
          split at heq
          · next hand =>
            obtain ⟨l, hl⟩ := Option.isSome_iff_exists.mp hand.2
            refine ⟨l, hl, ?_⟩
            rw [ho l hl]
            exact mem_planeBlocks.mpr ⟨hand.1, rfl⟩
          · cases heq
      · have hm : ¬ Holdings.Member { h with rm := { h.rm with free := put h.rm.free (planeOf x) o } } st x := by
          have := hout st hst'
          cases st with
          | free => exact absurd rfl hst'
          | _ => exact this
        refine iff_of_false hm ?_
        split
        · exact hst'
        · rintro rfl
          simp [collecting] at hst
    · dsimp only
      rw [member_free_ne o hpx, block_free_ne o hpx]
      exact hk.placed x id st hst

/-- R90: a plane leaves plane_mask only while all its blocks are FREE, and one that joins it has no list before. -/
theorem Holdings.Kept.changePlane (hk : h.Kept ∅) {old new : BitVec 4} {ready : Bool} {p : PlaneId}
    (hjoin : inPlaneSet new p = true → inPlaneSet old p = false → h.rm.free[p] = none)
    (hleave : inPlaneSet old p = true → inPlaneSet new p = false → h.rm.planeAllFree p = true) :
    Holdings.Kept { h with rm := Ring.changePlane old new ready p h.rm } ∅ := by
  unfold Ring.changePlane
  split
  · next hnew =>
    split
    · have hand : inPlaneSet new p = true ∧ inPlaneSet old p = false := by simpa using hnew
      exact hk.relist (fun x hx => hk.not_holds_of_none (hjoin hand.1 hand.2) hx) (some (planeBlocks p))
        fun l hl => (Option.some.inj hl).symm
    · exact hk
  · split
    · next hold =>
      have hand : inPlaneSet old p = true ∧ inPlaneSet new p = false := by simpa using hold
      have hfree := hleave hand.1 hand.2
      refine hk.relist (fun x hx hheld => ?_) none nofun
      simp only [Ring.planeAllFree, Bool.and_eq_true, List.all_eq_true, bne_iff_ne, ne_eq] at hfree
      exact hfree.2 (x, _) (mem_of_tableGet (Ring.get_of_holds hheld)) hx
    · exact hk

/-- What a change of plane_mask does to a plane's free list. -/
theorem changePlane_free (old new : BitVec 4) (ready : Bool) (p q : PlaneId) (rm : Ring) :
    (Ring.changePlane old new ready p rm).free[q] = if p = q then
      (if (inPlaneSet new p && !inPlaneSet old p) = true then (if ready then some (planeBlocks p) else rm.free[q])
        else if (inPlaneSet old p && !inPlaneSet new p) = true then none else rm.free[q]) else rm.free[q] := by
  have hput : ∀ o : Option (List BlockId), (put rm.free p o)[q] = if p = q then o else rm.free[q] := fun o => by
    by_cases hpq : p = q
    · subst hpq; rw [get_put_self, if_pos rfl]
    · rw [get_put_ne _ _ hpq, if_neg hpq]
  unfold Ring.changePlane
  split_ifs <;> simp_all [Ring.enablePlane, Ring.disablePlane]

end

end Sys2Proof.Machine
end

section
/-! PROOFS. Every move keeps the blocks collected (R68, R71); the kept properties hold right after a device reset. -/

namespace Sys2Proof.Machine

open Sys2Proof.Safety

/-! ## Which planes have a free list -/

/-- The same planes have a free list. -/
def SameLists (rm rm' : Ring) : Prop := ∀ p : PlaneId, (rm'.free[p]).isSome = (rm.free[p]).isSome

theorem SameLists.of_free {rm rm' : Ring} (h : rm'.free = rm.free) : SameLists rm rm' := fun p => by rw [h]

theorem SameLists.trans {a b c : Ring} (h : SameLists a b) (h' : SameLists b c) : SameLists a c := fun p => (h' p).trans (h p)

section
variable {rm : Ring} {b : BlockId}

@[simp] theorem Ring.enqueue_free (rm : Ring) (b : BlockId) : (rm.enqueue b).free = rm.free := by
  unfold Ring.enqueue
  split
  · rfl
  · simp

@[simp] theorem Ring.seal_free (rm : Ring) (b : BlockId) (k : ClassId) (cause : SealCause) : (rm.seal b k cause).free = rm.free := by
  unfold Ring.seal
  dsimp only
  split <;> simp

@[simp] theorem Ring.written_free (rm : Ring) (b : BlockId) (n : Nat) : (rm.written b n).free = rm.free := by
  unfold Ring.written
  dsimp only
  split <;> simp

theorem sameLists_release (rm : Ring) (b : BlockId) : SameLists rm (rm.release b) := by
  unfold Ring.release
  split
  · exact fun p => Ring.isSome_free_toFree rm b p
  · exact .of_free (Ring.modify_free _ _ _)

theorem sameLists_pin (rm : Ring) (b : BlockId) : SameLists rm (rm.pin b).2 := by
  rcases rm.pin_cases b with ⟨-, -, hp⟩ | ⟨-, -, hp⟩ | ⟨-, hp⟩ <;> rw [hp]
  · exact .of_free (Ring.modify_free _ _ _)
  · exact .of_free rfl
  · exact .of_free rfl

theorem sameLists_unpin (st : Settings) (rm : Ring) (b : BlockId) : SameLists rm (rm.unpin st b).2 := by
  unfold Ring.unpin
  split
  · exact .of_free rfl
  · dsimp only
    split
    · exact SameLists.trans (.of_free (Ring.modify_free rm b fun d => { d with pins := d.pins - 1 }))
        fun p => Ring.isSome_free_toFree _ b p
    · exact .of_free (Ring.modify_free _ _ _)

theorem FillMove.sameLists {v : Env} {x y : Option BlockId × Ring} (hm : FillMove v x y) : SameLists x.2 y.2 := by
  cases hm with
  | sealed rm b cause => exact .of_free (Ring.seal_free rm b _ _)
  | allocated rm rm' b run halloc =>
    obtain ⟨p, rest, -, hp, rfl⟩ := Ring.allocate_some halloc
    exact fun q => Ring.isSome_free_granted (b := b) (.allocated v.c run) (by rw [hp]; rfl) q
  | released rm b => exact fun p => Ring.isSome_free_toFree rm b p
  | edited o rm b f hf => exact .of_free (Ring.modify_free _ _ _)

theorem sameLists_foldl_release (l : List Sequenced) (rm : Ring) : SameLists rm (l.foldl (fun rm m => rm.release m.block) rm) := by
  induction l generalizing rm with
  | nil => exact .of_free rfl
  | cons m l ih => exact (sameLists_release rm m.block).trans (ih _)

theorem sameLists_foldl_slotDown (l : List SlotEntry) (x : Drain × Ring) : SameLists x.2 (l.foldl slotDown x).2 := by
  induction l generalizing x with
  | nil => exact .of_free rfl
  | cons e l ih =>
    refine .trans ?_ (ih _)
    unfold slotDown
    split
    · exact sameLists_release _ _
    · exact .of_free (Ring.modify_free _ _ _)

theorem foldl_sentDown_free (l : List Sequenced) (x : Drain × Ring) : (l.foldl sentDown x).2.free = x.2.free := by
  induction l generalizing x with
  | nil => rfl
  | cons m l ih => exact (ih _).trans (Ring.modify_free _ _ _)

theorem selectOnce_free (allowed : Bool) (w : Vector Nat 4) (x : Drain × Ring) : (selectOnce allowed w x).2.free = x.2.free := by
  rcases selectOnce_cases allowed w x with he | ⟨-, -, ⟨m, rest, -, he⟩ | ⟨-, -, he⟩⟩ <;> rw [he]
  · exact Ring.modify_free _ _ _
  · rcases selectNew_cases w x with hn | ⟨k, cur, turn, b, rest, -, -, -, hn⟩ <;> rw [hn]
    exact Ring.modify_free _ _ _

theorem sameLists_dataEnd (st : Settings) (k : Fin 2) (x : Drain × Ring) : SameLists x.2 (dataEnd st k x).2 := by
  rcases dataEnd_cases st k x with he | ⟨f, e, rest, -, -, -, he⟩ <;> rw [he]
  · exact .of_free rfl
  · unfold finishBlock
    dsimp only
    split
    · exact (sameLists_release x.2 e.block).trans (.of_free (Ring.evaluateSince_free _ _ _))
    · exact .of_free (Ring.modify_free _ _ _)

theorem sameLists_takeFlow (st : Settings) (g c : Word32) (x : Drain × Ring) : SameLists x.2 (takeFlow st g c x).2 := by
  unfold takeFlow
  dsimp only
  split
  · exact .of_free rfl
  · exact (sameLists_foldl_release _ _).trans (.of_free (Ring.evaluateSince_free _ _ _))

theorem sameLists_collectionsDown (st : Settings) (x : Drain × Ring) : SameLists x.2 (collectionsDown st x).2 := by
  unfold collectionsDown
  dsimp only
  refine .trans ?_ (.of_free (Ring.evaluateSince_free _ _ _))
  exact (sameLists_foldl_slotDown x.1.slot ({ x.1 with slot := [], sent := [] }, x.2)).trans (.of_free (foldl_sentDown_free _ _))

end

/-! ## The masks -/

section
variable {s : State} {new : Settings}

theorem changePlane_free_ne (old m : BitVec 4) (ready : Bool) {p q : PlaneId} (h : p ≠ q) (rm : Ring) :
    (Ring.changePlane old m ready p rm).free[q] = rm.free[q] := by
  rw [changePlane_free, if_neg h]

theorem planeAllFree_changePlane (old m : BitVec 4) (ready : Bool) {p q : PlaneId} (h : p ≠ q) (rm : Ring) :
    (Ring.changePlane old m ready p rm).planeAllFree q = rm.planeAllFree q := by
  unfold Ring.planeAllFree
  rw [changePlane_free_ne _ _ _ h, changePlane_blocks]

/-- RM after the changes of a plane_mask, plane by plane (R90). -/
theorem takeMask_of_ne (s : State) (rm : Ring) (h : new.planeMask ≠ s.ts.settings.planeMask) :
    takeMask s new rm = Ring.evaluate new (([0, 1, 2, 3] : List PlaneId).foldl (fun rm p =>
      Ring.changePlane s.ts.settings.planeMask new.planeMask (decide ((s.planes[p]).state = .ready)) p rm) rm) := by
  unfold takeMask
  rw [if_neg h]
  rfl

/-- What a fold of plane changes does to one free list. -/
theorem foldl_changePlane_free (old m : BitVec 4) (ready : PlaneId → Bool) (q : PlaneId) : ∀ {l : List PlaneId}, l.Nodup →
    ∀ rm : Ring, (l.foldl (fun rm p => Ring.changePlane old m (ready p) p rm) rm).free[q] =
      if q ∈ l then (Ring.changePlane old m (ready q) q rm).free[q] else rm.free[q]
  | [], _, rm => rfl
  | p :: l, hn, rm => by
    obtain ⟨hp, hn⟩ := List.nodup_cons.mp hn
    rw [List.foldl_cons, foldl_changePlane_free old m ready q hn]
    by_cases hpq : p = q
    · subst hpq
      rw [if_neg hp, if_pos List.mem_cons_self]
    · rw [changePlane_free old m (ready q) q q, changePlane_free_ne _ _ _ hpq, changePlane_free old m (ready q) q q]
      simp [Ne.symm hpq]

theorem takeMask_free (s : State) (rm : Ring) (h : new.planeMask ≠ s.ts.settings.planeMask) (q : PlaneId) :
    (takeMask s new rm).free[q] =
      (Ring.changePlane s.ts.settings.planeMask new.planeMask (decide ((s.planes[q]).state = .ready)) q rm).free[q] := by
  rw [takeMask_of_ne s rm h]
  have hq : q ∈ ([0, 1, 2, 3] : List PlaneId) := by fin_cases q <;> decide
  exact (foldl_changePlane_free _ _ (fun p => decide ((s.planes[p]).state = .ready)) q (by decide) rm).trans (if_pos hq)

theorem Holdings.Kept.foldl_changePlane {old m : BitVec 4} {ready : PlaneId → Bool} : ∀ {l : List PlaneId} {h : Holdings}, l.Nodup →
    h.Kept ∅ → (∀ p ∈ l, inPlaneSet m p = true → inPlaneSet old p = false → h.rm.free[p] = none) →
    (∀ p ∈ l, inPlaneSet old p = true → inPlaneSet m p = false → h.rm.planeAllFree p = true) →
    Holdings.Kept { h with rm := l.foldl (fun rm p => Ring.changePlane old m (ready p) p rm) h.rm } ∅
  | [], h, _, hk, _, _ => hk
  | p :: l, h, hn, hk, hjoin, hleave => by
    obtain ⟨hp, hn⟩ := List.nodup_cons.mp hn
    have hne : ∀ q ∈ l, p ≠ q := fun q hq => by rintro rfl; exact hp hq
    have hk' := hk.changePlane (ready := ready p) (hjoin p List.mem_cons_self) (hleave p List.mem_cons_self)
    refine Holdings.Kept.foldl_changePlane (h := { h with rm := Ring.changePlane old m (ready p) p h.rm }) hn hk' ?_ ?_
    · intro q hq hm hold
      exact (changePlane_free_ne _ _ _ (hne q hq) _).trans (hjoin q (List.mem_cons_of_mem _ hq) hm hold)
    · intro q hq hold hm
      exact (planeAllFree_changePlane _ _ _ (hne q hq) _).trans (hleave q (List.mem_cons_of_mem _ hq) hold hm)

theorem maskAllowed_iff (m : BitVec 4) (s : State) : maskAllowed m s = true ↔ s.mu.stream = .standby ∧ m ≠ 0#4 ∧
    ∀ p : PlaneId, (inPlaneSet s.ts.settings.planeMask p = true → inPlaneSet m p = false → s.rm.planeAllFree p = true) ∧
      (inPlaneSet m p = true → inPlaneSet s.ts.settings.planeMask p = false → (s.planes[p]).state ≠ .faulty) := by
  have hall : ∀ p : PlaneId, p ∈ ([0, 1, 2, 3] : List PlaneId) := fun p => by fin_cases p <;> decide
  simp only [maskAllowed, Bool.and_eq_true, decide_eq_true_eq, List.all_eq_true, Bool.or_eq_true, Bool.not_eq_true',
    Bool.and_eq_false_iff, Bool.not_eq_false', hall, true_imp_iff, and_assoc]
  refine and_congr_right fun _ => and_congr_right fun _ => forall_congr' fun p => ?_
  cases inPlaneSet s.ts.settings.planeMask p <;> cases inPlaneSet m p <;> simp

theorem free_none_of_unmasked (hp : PlanesListed s) {p : PlaneId} (h : inPlaneSet s.ts.settings.planeMask p = false) :
    s.rm.free[p] = none := by
  rw [← Option.not_isSome_iff_eq_none, hp p, h]
  simp

@[simp] theorem takeMarks_free (old : Settings) (rm : Ring) : (takeMarks old new rm).free = rm.free := by
  unfold takeMarks
  split <;> rfl

@[simp] theorem takeMarks_queues (old : Settings) (rm : Ring) : (takeMarks old new rm).queues = rm.queues := by
  unfold takeMarks
  split <;> rfl

theorem blocksCollected_applySettings (h : new.planeMask = s.ts.settings.planeMask ∨ maskAllowed new.planeMask s = true)
    (hl : PlanesListed s) (hk : s.holdings.Kept ∅) : PlanesListed (applySettings new s) ∧ (applySettings new s).holdings.Kept ∅ := by
  have hmarks : Holdings.Kept { s.holdings with rm := takeMarks s.ts.settings new s.rm } ∅ :=
    hk.congr (by simp [State.holdings]) (by simp [State.holdings]) (by simp [State.holdings]) rfl rfl rfl rfl
  by_cases hm : new.planeMask = s.ts.settings.planeMask
  · have hrm : takeMask s new (takeMarks s.ts.settings new s.rm) = takeMarks s.ts.settings new s.rm := by
      unfold takeMask
      rw [if_pos hm]
    refine ⟨fun p => ?_, ?_⟩
    · change ((takeMask s new (takeMarks s.ts.settings new s.rm)).free[p]).isSome ↔
        (s.planes[p]).state = .ready ∧ inPlaneSet new.planeMask p
      rw [hrm, takeMarks_free, hm]
      exact hl p
    · change Holdings.Kept { s.holdings with rm := takeMask s new (takeMarks s.ts.settings new s.rm) } ∅
      rwa [hrm]
  · obtain ⟨-, -, hmask⟩ := (maskAllowed_iff _ _).mp (h.resolve_left hm)
    refine ⟨fun p => ?_, ?_⟩
    · change ((takeMask s new (takeMarks s.ts.settings new s.rm)).free[p]).isSome ↔
        (s.planes[p]).state = .ready ∧ inPlaneSet new.planeMask p
      rw [takeMask_free _ _ hm, changePlane_free, takeMarks_free, if_pos rfl]
      have hp := hl p
      cases hnew : inPlaneSet new.planeMask p <;> cases hold : inPlaneSet s.ts.settings.planeMask p <;> rw [hold] at hp <;>
        by_cases hr : (s.planes[p]).state = .ready <;> simp_all
    · have hfold := hmarks.foldl_changePlane (old := s.ts.settings.planeMask) (m := new.planeMask)
        (ready := fun p => decide ((s.planes[p]).state = .ready)) (l := [0, 1, 2, 3]) (by decide)
        (fun p _ _ hold => by
          dsimp only
          rw [takeMarks_free]
          exact free_none_of_unmasked hl hold)
        (fun p _ hold hnew => by
          have := (hmask p).1 hold hnew
          unfold Ring.planeAllFree at *
          dsimp only
          rwa [takeMarks_free, takeMarks_blocks])
      change Holdings.Kept { s.holdings with rm := takeMask s new (takeMarks s.ts.settings new s.rm) } ∅
      rw [takeMask_of_ne _ _ hm]
      exact hfold.congr rfl rfl rfl rfl rfl rfl rfl

end

/-! ## Every move -/

section
variable {c : Instr} {s t : State}

theorem PlanesListed.rm {rm : Ring} (h : PlanesListed s) (hrm : SameLists s.rm rm) : PlanesListed { s with rm := rm } := fun p =>
  (Bool.eq_iff_iff.mp (hrm p)).trans (h p)

/-- A change of one channel and of RM. -/
theorem holdings_put (s : State) (k : ChannelId) (ch : Channel) (rm : Ring) :
    State.holdings { s with chans := put s.chans k ch, rm := rm } = s.holdings.withFill k ch.filling rm := by
  have hfill : (fun c : ChannelId => ((put s.chans k ch)[c]).filling) =
      Function.update (fun c : ChannelId => (s.chans[c]).filling) k ch.filling := by
    funext c
    by_cases hkc : k = c
    · subst hkc
      rw [Function.update_self, get_put_self]
    · rw [Function.update_of_ne (Ne.symm hkc), get_put_ne _ _ hkc]
  unfold State.holdings Holdings.withFill
  rw [hfill]

theorem withFill_self (h : Holdings) (k : ChannelId) (rm : Ring) : h.withFill k (h.fill k) rm = { h with rm := rm } := by
  unfold Holdings.withFill
  rw [Function.update_eq_self]

/-- A write reaches RM and what the channel has staged. -/
theorem holdings_written {k : ChannelId} {ch : Channel} {rm : Ring} (h : ch.filling = (s.chans[k]).filling) :
    State.holdings { s with chans := put s.chans k ch, rm := rm } = { s.holdings with rm := rm } := by
  rw [holdings_put, h]
  exact withFill_self s.holdings k rm

theorem holdings_headerWritten (s : State) (k : ChannelId) (b : BlockId) :
    (headerWritten k b s).holdings = { s.holdings with rm := s.rm.written b Config.recordHeaderSize } :=
  holdings_written (closeIfDone_filling _)

theorem holdings_payloadWritten (s : State) (k : ChannelId) (b : BlockId) (n : Nat) :
    (payloadWritten k b n s).holdings = { s.holdings with rm := s.rm.written b n } :=
  holdings_written (closeIfDone_filling _)

/-- The reset values hold no block (R92, R93). -/
theorem kept_of_empty {h : Holdings} (hb : h.rm.blocks = []) (hf : ∀ (p : PlaneId) (l : List BlockId), h.rm.free[p] = some l → l = planeBlocks p)
    (hfill : ∀ c, h.fill c = none) (hq : ∀ k : ClassId, h.rm.queues[k] = []) (hslot : h.slot = []) (hsent : h.sent = [])
    (hredrain : h.redrain = []) : h.Kept ∅ := by
  have hget : ∀ x, tableGet h.rm.blocks x = none := fun x => by rw [hb]; rfl
  refine ⟨⟨by rw [hb]; rfl, fun x hx => ?_, fun p l hl => ?_⟩, ⟨fun x y a hx => ?_, fun k => ?_, by rw [hslot]; exact .nil,
    by rw [hsent]; exact .nil, by rw [hredrain]; exact .nil⟩, nofun, fun x _ st hst => ?_⟩
  · simp [Ring.holds, hget] at hx
  · rw [hf p l hl]
    exact ⟨planeBlocks_nodup p, fun b => mem_planeBlocks.mp⟩
  · rw [hfill] at hx
    cases hx
  · rw [hq]
    exact ⟨.nil, nofun⟩
  · simp only [Ring.block, hget, Descriptor.cleared]
    cases st with
    | free =>
      constructor
      · rintro ⟨l, hl, hx⟩
        rw [hf _ l hl] at hx
        rw [if_pos ⟨(mem_planeBlocks.mp hx).1, by rw [hl]; rfl⟩]
      · intro heq
        split at heq
        · next hand =>
          obtain ⟨l, hl⟩ := Option.isSome_iff_exists.mp hand.2
          refine ⟨l, hl, ?_⟩
          rw [hf _ l hl]
          exact mem_planeBlocks.mpr ⟨hand.1, rfl⟩
        · cases heq
    | offline | sealing | retired => simp [collecting] at hst
    | filling => simp [Holdings.Member, hfill]; split <;> nofun
    | queued => simp [Holdings.Member, hq]; split <;> nofun
    | sending => simp [Holdings.Member, hslot]; split <;> nofun
    | sent => simp [Holdings.Member, hsent]; split <;> nofun
    | redrain => simp [Holdings.Member, hredrain]; split <;> nofun

theorem streamReset_free (st : Settings) (rm : Ring) (p : PlaneId) :
    (rm.streamReset st).free[p] = (rm.free[p]).map (fun _ => planeBlocks p) := by
  fin_cases p <;> rfl

theorem kept_reset {fill : ChannelId → Option BlockId} (hfill : ∀ c, fill c = none) : (drainHoldings fill (Drain.reset, Ring.reset)).Kept ∅ := by
  refine kept_of_empty rfl (fun p l hl => ?_) hfill (fun k => Vector.getElem_replicate k.isLt) rfl rfl rfl
  have : (Vector.replicate 4 (none : Option (List BlockId)))[p] = none := Vector.getElem_replicate p.isLt
  exact absurd (this.symm.trans hl) nofun

theorem inPlaneSet_removePlane (m : BitVec 4) (p q : PlaneId) : inPlaneSet (removePlane m p) q = (inPlaneSet m q && q != p) := by
  revert m p q
  decide

/-- The planes' states, the plane mask and the free lists decide which planes are listed. -/
theorem PlanesListed.of_states (h : PlanesListed s) (hstate : ∀ p : PlaneId, (t.planes[p]).state = (s.planes[p]).state)
    (hmask : t.ts.settings.planeMask = s.ts.settings.planeMask) (hrm : SameLists s.rm t.rm) : PlanesListed t := fun p => by
  rw [hstate, hmask, hrm p]
  exact h p

theorem blocksCollected_planeReady {p : PlaneId} (hinit : (s.planes[p]).state = .initialising) (hl : PlanesListed s)
    (hk : s.holdings.Kept ∅) : PlanesListed (planeReady p s) ∧ (planeReady p s).holdings.Kept ∅ := by
  have hput : ∀ q : PlaneId, ((planeReady p s).planes[q]).state = if p = q then .ready else (s.planes[q]).state := fun q => by
    by_cases hpq : p = q
    · subst hpq
      rw [if_pos rfl]
      exact congrArg Plane.state (get_put_self _ _ _)
    · rw [if_neg hpq]
      exact congrArg Plane.state (get_put_ne _ _ hpq)
  have hnone : s.rm.free[p] = none := by
    rw [← Option.not_isSome_iff_eq_none, hl p, hinit]
    simp
  cases hmask : inPlaneSet s.ts.settings.planeMask p with
  | true =>
    have hrm : (planeReady p s).rm = (s.rm.enablePlane p).evaluate s.ts.settings := if_pos hmask
    refine ⟨fun q => ?_, ?_⟩
    · rw [hput, hrm, Ring.evaluate_free]
      change ((put s.rm.free p (some (planeBlocks p)))[q]).isSome ↔ _ ∧ inPlaneSet s.ts.settings.planeMask q
      by_cases hpq : p = q
      · subst hpq
        rw [get_put_self, hmask]
        simp
      · rw [get_put_ne _ _ hpq, if_neg hpq]
        exact hl q
    · have hk' := hk.relist (fun x hx => hk.not_holds_of_none hnone hx) (some (planeBlocks p)) fun l h => (Option.some.inj h).symm
      change Holdings.Kept { s.holdings with rm := (planeReady p s).rm } ∅
      rw [hrm]
      exact hk'.congr rfl rfl rfl rfl rfl rfl rfl
  | false =>
    have hrm : (planeReady p s).rm = s.rm := if_neg (by rw [hmask]; nofun)
    refine ⟨fun q => ?_, ?_⟩
    · rw [hput, hrm]
      change _ ↔ _ ∧ inPlaneSet s.ts.settings.planeMask q
      by_cases hpq : p = q
      · subst hpq
        rw [hnone, hmask]
        simp
      · rw [if_neg hpq]
        exact hl q
    · change Holdings.Kept { s.holdings with rm := (planeReady p s).rm } ∅
      rwa [hrm]

theorem planesListed_planeFaulty {p : PlaneId} (hinit : (s.planes[p]).state = .initialising) (hl : PlanesListed s) :
    PlanesListed (planeFaulty p s) := fun q => by
  change (s.rm.free[q]).isSome ↔ ((put s.planes p _)[q]).state = .ready ∧ inPlaneSet (removePlane s.ts.settings.planeMask p) q
  rw [inPlaneSet_removePlane, hl q]
  by_cases hpq : p = q
  · subst hpq
    rw [get_put_self, hinit]
    simp
  · rw [get_put_ne _ _ hpq]
    simp [Ne.symm hpq]

theorem Move.blocksCollected (hm : Move c s t) (h : BlocksCollected s) : BlocksCollected t := by
  rw [blocksCollected_iff] at h ⊢
  obtain ⟨hl, hk⟩ := h
  cases hm with
  | event k f hf =>
    have hfill := hf.fillMoves (v := s.env k) (e := s.engine k)
    have hsame : SameLists s.rm (f (s.env k) (s.engine k)).rm :=
      hfill.keep (P := fun x => SameLists s.rm x.2) (fun _ _ hm h => h.trans hm.sameLists) (.of_free rfl)
    refine ⟨hl.rm hsame, ?_⟩
    have hstart : (s.holdings.withFill k (s.engine k).filled.1 (s.engine k).filled.2).Kept ∅ := by
      have := withFill_self s.holdings k s.rm
      change (s.holdings.withFill k (s.holdings.fill k) s.rm).Kept ∅
      rw [this]
      exact hk
    have hend := hfill.keep (P := fun x => (s.holdings.withFill k x.1 x.2).Kept ∅) (fun _ _ => FillMove.kept) hstart
    have heq : (onChannel f k s).holdings = s.holdings.withFill k (f (s.env k) (s.engine k)).ch.filling (f (s.env k) (s.engine k)).rm :=
      holdings_put s k _ _
    exact heq ▸ hend
  | tables x hx => exact ⟨fun p => (hl p).trans (by rw [hx]), hk⟩
  | settings new hnew => exact blocksCollected_applySettings hnew hl hk
  | select allowed w =>
    exact ⟨hl.rm (.of_free (selectOnce_free allowed w (s.ds, s.rm))), kept_selectOnce (x := (s.ds, s.rm)) allowed w hk⟩
  | slot l hs hid =>
    refine ⟨hl, hk.congr rfl rfl rfl rfl ?_ rfl rfl⟩
    have hfst := congrArg (List.map Prod.fst) hid
    simp only [SlotEntry.identity, List.map_map, Function.comp_def] at hfst
    exact hfst
  | planes ps hps => exact ⟨fun p => (hl p).trans (by rw [(hps p).1]), hk⟩
  | headerWritten k b =>
    refine ⟨hl.rm (.of_free (Ring.written_free s.rm b _)), ?_⟩
    exact holdings_headerWritten s k b ▸ hk.written b _
  | payloadWritten k b n =>
    refine ⟨hl.rm (.of_free (Ring.written_free s.rm b _)), ?_⟩
    exact holdings_payloadWritten s k b n ▸ hk.written b _
  | planeReady p _ hinit => exact blocksCollected_planeReady hinit hl hk
  | planeFaulty p hinit => exact ⟨planesListed_planeFaulty hinit hl, hk⟩
  | pin b => exact ⟨hl.rm (sameLists_pin s.rm b), hk.pin b⟩
  | unpin b => exact ⟨hl.rm (sameLists_unpin _ s.rm b), hk.unpin _ b⟩
  | flow g a => exact ⟨hl.rm (sameLists_takeFlow _ g a (s.ds, s.rm)), kept_takeFlow (x := (s.ds, s.rm)) _ g a hk⟩
  | dataSent k => exact ⟨hl.rm (sameLists_dataEnd _ k (s.ds, s.rm)), kept_dataEnd (x := (s.ds, s.rm)) hk⟩
  | drainDown =>
    refine ⟨hl.of_states (fun p => ?_) rfl (sameLists_collectionsDown _ (s.ds, s.rm)), kept_collectionsDown (x := (s.ds, s.rm)) _ hk⟩
    have hget : (withdrawLoads s.planes)[p] = { s.planes[p] with drain := [] } := get_mapV _ s.planes p p.isLt
    exact (congrArg Plane.state hget).trans rfl
  | startUpOver run _ _ =>
    refine ⟨hl, hk.congr rfl rfl rfl ?_ rfl rfl rfl⟩
    funext k
    change ((if run then autostart s.ts s.chans else s.chans)[k]).filling = (s.chans[k]).filling
    cases run
    · rfl
    · change ((autostart s.ts s.chans)[k]).filling = _
      rw [autostart_get]
      split <;> rfl
  | deviceReset straps _ =>
    have hget : ∀ p : PlaneId, (Vector.replicate 4 Plane.reset)[p] = Plane.reset := fun p => Vector.getElem_replicate p.isLt
    have hfree : ∀ p : PlaneId, (Vector.replicate 4 (none : Option (List BlockId)))[p] = none := fun p => Vector.getElem_replicate p.isLt
    refine ⟨fun p => ?_, kept_reset fun k => ?_⟩
    · change ((Vector.replicate 4 (none : Option (List BlockId)))[p]).isSome ↔ ((Vector.replicate 4 Plane.reset)[p]).state = .ready ∧ _
      rw [hget, hfree]
      simp [Plane.reset]
    · exact congrArg Channel.filling (Vector.getElem_replicate k.isLt)
  | captureReset ps _ =>
    refine ⟨hl.of_states (fun _ => rfl) rfl fun p => ?_, kept_of_empty rfl (fun p l hp => ?_) (fun k => ?_)
      (fun k => Vector.getElem_replicate k.isLt) rfl rfl rfl⟩
    · exact (congrArg Option.isSome (streamReset_free s.ts.settings s.rm p)).trans (by simp)
    · have hp' : (s.rm.streamReset s.ts.settings).free[p] = some l := hp
      rw [streamReset_free] at hp'
      obtain ⟨l0, -, rfl⟩ := Option.map_eq_some_iff.mp hp'
      rfl
    · exact congrArg Channel.filling (get_mapV Channel.streamReset s.chans k k.isLt)
  | _ => exact ⟨hl, hk⟩

/-- Settles O9: every move keeps the planes listed and every block placed. -/
theorem blocksStayCollected : Obligations.BlocksStayCollected :=
  fun _ _ => step_keeps (fun _ _ => id) fun _ _ _ => Move.blocksCollected

end

/-! ## Right after a device reset -/

theorem stagingFits_reset : StagingFits Channel.reset := by
  refine ⟨?_, nofun, ?_⟩ <;> decide

theorem blocksCollected_reset : BlocksCollected State.reset := by
  refine (blocksCollected_iff _).mpr ⟨fun p => ?_, kept_reset fun k => congrArg Channel.filling (Vector.getElem_replicate k.isLt)⟩
  have hfree : State.reset.rm.free[p] = none := Vector.getElem_replicate p.isLt
  have hplane : State.reset.planes[p] = Plane.reset := Vector.getElem_replicate p.isLt
  rw [hfree, hplane]
  simp [Plane.reset]

theorem withinBounds_reset : WithinBounds State.reset := by
  refine (withinBounds_iff _).mpr ⟨⟨by decide, by decide, nofun⟩, ⟨by decide, by decide⟩, by decide, fun p => ?_,
    pinsWithin_of_no_blocks rfl⟩
  have hplane : State.reset.planes[p] = Plane.reset := Vector.getElem_replicate p.isLt
  rw [hplane]
  decide

/-- Settles O3: State.reset is empty, part by part. -/
theorem keptPropertiesHoldAtReset : Obligations.KeptPropertiesHoldAtReset := by
  have hchan : ∀ c : ChannelId, State.reset.chans[c] = Channel.reset := fun c => Vector.getElem_replicate c.isLt
  refine ⟨rfl, withinBounds_reset, drainOrdered_reset, drainSequenced_reset, ⟨fun c => ?_, ?_, fun _ c => ?_⟩, fun c => ?_,
    blocksCollected_reset, fun p a ha => ?_⟩
  · rw [hchan]; exact channelSound_reset
  · exact iff_of_false nofun fun h => h rfl
  · rw [hchan]; rfl
  · rw [hchan]; exact stagingFits_reset
  · have hplane : State.reset.planes[p] = Plane.reset := Vector.getElem_replicate p.isLt
    rw [hplane] at ha
    cases ha

end Sys2Proof.Machine
end

section
/-! PROOFS. Layouts: return frames, table entries and their sizes (R181 to R187). -/

namespace Sys2Proof

/-! ## Fields -/

/-- A little-endian field whose bytes follow `pre`. -/
theorem leAt_leBytes {pre : List Byte} {m n x : Nat} (post : List Byte) (hpre : pre.length = m) (hx : x < 256 ^ n) :
    leAt (pre ++ leBytes n x ++ post) m n = x := by
  have h := leAt_append pre (leBytes n x) post
  rwa [hpre, leBytes_length, leNat_leBytes n x hx] at h

theorem word32_lt (w : Word32) : w.toNat < 256 ^ 4 := w.isLt.trans_eq (by decide)

theorem decodeReturnBody_flow (g c : Word32) :
    decodeReturnBody ([0x11#8, 0#8, 0#8, 0#8] ++ leBytes 4 g.toNat ++ leBytes 4 c.toNat) = some (.flow g c) := by
  have hg : leAt ([0x11#8, 0#8, 0#8, 0#8] ++ leBytes 4 g.toNat ++ leBytes 4 c.toNat) 4 4 = g.toNat :=
    leAt_leBytes (leBytes 4 c.toNat) rfl (word32_lt g)
  have hc : leAt ([0x11#8, 0#8, 0#8, 0#8] ++ leBytes 4 g.toNat ++ leBytes 4 c.toNat) 8 4 = c.toNat := by
    have := leAt_leBytes (pre := [0x11#8, 0#8, 0#8, 0#8] ++ leBytes 4 g.toNat) (m := 8) [] (by simp) (word32_lt c)
    rwa [List.append_nil] at this
  have hkind : byteAt ([0x11#8, 0#8, 0#8, 0#8] ++ leBytes 4 g.toNat ++ leBytes 4 c.toNat) 0 = 0x11#8 := rfl
  rw [decodeReturnBody, hkind, hg, hc, if_pos rfl, if_pos (by simp), BitVec.ofNat_toNat, BitVec.ofNat_toNat, BitVec.setWidth_eq,
    BitVec.setWidth_eq]

theorem decodeReturnBody_request (tag kind : Byte) {contents : List Byte} (h : contents.length ≤ 65535) :
    decodeReturnBody ([0x12#8, tag, kind, 0#8] ++ leBytes 2 contents.length ++ [0#8, 0#8] ++ contents) =
      some (.request tag kind contents) := by
  have hlen : leAt ([0x12#8, tag, kind, 0#8] ++ leBytes 2 contents.length ++ [0#8, 0#8] ++ contents) 4 2 = contents.length := by
    rw [List.append_assoc _ [0#8, 0#8] contents]
    exact leAt_leBytes _ rfl (by omega)
  have hkind : byteAt ([0x12#8, tag, kind, 0#8] ++ leBytes 2 contents.length ++ [0#8, 0#8] ++ contents) 0 = 0x12#8 := rfl
  rw [decodeReturnBody, hkind, hlen, if_neg (by decide), if_pos rfl, if_pos (by simp; omega)]
  rfl

/-- Settles O16: behind the check stands a body of the frame's own layout. -/
theorem returnFramesDecodeToThemselves : Obligations.ReturnFramesDecodeToThemselves := by
  intro f hf
  cases f with
  | flow g c =>
    rw [encodeReturnFrame, decodeReturnFrame_withCheck _ (by simp)]
    exact decodeReturnBody_flow g c
  | request tag kind contents =>
    rw [encodeReturnFrame, decodeReturnFrame_withCheck _ (by simp)]
    exact decodeReturnBody_request tag kind (hf tag kind contents rfl)
  | fill => exact decodeReturnFrame_withCheck _ (by decide)

end Sys2Proof

namespace Sys2Proof.Machine

open Sys2Proof.Safety

/-! ## Table entries (R185) -/

theorem leNat_two (x : Nat) (hx : x < 65536) : (BitVec.ofNat 8 x).toNat + 256 * (BitVec.ofNat 8 (x / 256)).toNat = x := by
  simp only [BitVec.toNat_ofNat]
  omega

/-- A signed field gives the number back. -/
theorem toInt_signed16 {x : Int} (hx : SampleRange x) : (BitVec.ofNat 16 (BitVec.ofInt 16 x).toNat).toInt = x := by
  obtain ⟨h1, h2⟩ := hx
  rw [BitVec.ofNat_toNat, BitVec.setWidth_eq, BitVec.toInt_ofInt, Int.bmod_def]
  omega

theorem clampRecordLen_of_range {p : Profile} (h : ProfileInRange p) : clampRecordLen p.mode p.recordLen = p.recordLen := by
  obtain ⟨-, -, -, -, hlow, -, hpeak⟩ := h
  unfold clampRecordLen
  dsimp only
  rw [if_neg (Nat.not_lt.mpr hlow), if_neg]
  rintro ⟨hmode, hodd⟩
  have := hpeak hmode
  omega

theorem decodeProfile_bytes {p : Profile} (h : ProfileInRange p) : decodeProfile p.bytes = some p := by
  obtain ⟨hf1, hf2, hpass, hoff, hr1, hr2, -⟩ := id h
  have hwidth : decodeWidth (byteOf p.width.bits) = some p.width := decodeWidth_eq_some.mpr (by cases p.width <;> rfl)
  have hcodes := decodeProfile_of_codes (f0 := BitVec.ofNat 8 (p.factor - 1)) (f1 := BitVec.ofNat 8 ((p.factor - 1) / 256))
    (r0 := BitVec.ofNat 8 (p.recordLen - 1)) (r1 := BitVec.ofNat 8 ((p.recordLen - 1) / 256))
    (o0 := BitVec.ofNat 8 (BitVec.ofInt 16 p.offset).toNat) (o1 := BitVec.ofNat 8 ((BitVec.ofInt 16 p.offset).toNat / 256))
    (decodeMode_eq_some.mpr (rfl : byteOf p.mode.code = _)) hwidth
  rw [leNat_two (p.factor - 1) (by omega), leNat_two (p.recordLen - 1) (by omega), leNat_two _ (BitVec.ofInt 16 p.offset).isLt, toInt_signed16 hoff,
    Nat.sub_add_cancel hf1, Nat.sub_add_cancel (by omega), clampRecordLen_of_range h, if_neg] at hcodes
  · exact hcodes
  · rintro ⟨hmode, hne⟩
    exact hne (hpass hmode)

theorem decodeSlotMap_bytes (e : Option ChannelId) : decodeSlotMap (slotMapBytes e) = some e := by
  cases e with
  | none => rfl
  | some c =>
    revert c
    decide

theorem decodeZone_byte (z : Option (Fin 4)) :
    decodeZone (match z with | some z => byteOf z.val | none => 4#8) = some z := by
  revert z
  decide

theorem decodePolicy_code (p : Policy) : decodePolicy p.code = some p := by cases p <;> rfl

theorem decodeYesNo_yesNo (b : Bool) : decodeYesNo (yesNo b) = some b := by cases b <;> rfl

theorem decodeChannel_bytes {c : ChannelConfig} (h : c.sealAgeMs ≤ 65535) : decodeChannel c.bytes = some c := by
  have hage : leAt c.bytes 6 2 = c.sealAgeMs :=
    leAt_leBytes (pre := [byteOf c.profileA.val, byteOf c.profileB.val, byteOf c.profileF.val,
      match c.zoneLine with | some z => byteOf z.val | none => 4#8, byteOf c.cls.val, c.policy.code])
      [yesNo c.sealAtSweep, yesNo c.startAtSweep, yesNo c.autostart, 0#8] rfl (by omega)
  have hbytes : ∀ i, byteAt c.bytes i = ([byteOf c.profileA.val, byteOf c.profileB.val, byteOf c.profileF.val,
      match c.zoneLine with | some z => byteOf z.val | none => 4#8, byteOf c.cls.val, c.policy.code,
      BitVec.ofNat 8 c.sealAgeMs, BitVec.ofNat 8 (c.sealAgeMs / 256), yesNo c.sealAtSweep, yesNo c.startAtSweep,
      yesNo c.autostart, 0#8]).getD i 0#8 := fun i => rfl
  simp only [decodeChannel, hbytes, hage, List.getD_cons_zero, List.getD_cons_succ, finOfByte_byteOf (by decide : 8 ≤ 256),
    finOfByte_byteOf (by decide : 4 ≤ 256), decodeZone_byte, decodePolicy_code, decodeYesNo_yesNo]
  rfl

theorem planeSetByte_lt (m : BitVec 4) : (planeSetByte m).toNat < 16 ∧ BitVec.ofNat 4 (planeSetByte m).toNat = m := by
  revert m
  decide

theorem byteOf_toNat {n : Nat} (h : n < 256) : (byteOf n).toNat = n := Nat.mod_eq_of_lt h

theorem vector_four {α : Type} (v : Vector α 4) : #v[v[0], v[1], v[2], v[3]] = v := by
  ext i hi
  match i, hi with
  | 0, _ | 1, _ | 2, _ | 3, _ => rfl

/-- The fields a Settings payload is read as. -/
theorem settings_fields {x : Settings} (h1 : x.slotCount < 256) (ht : x.tightMark < 65536) (hcm : x.criticalMark < 65536)
    (hh : x.hysteresis < 65536) (hw : ∀ k : ClassId, x.weights[k] < 256) :
    (byteAt x.bytes 0).toNat = x.slotCount ∧ (byteAt x.bytes 1).toNat = (planeSetByte x.planeMask).toNat ∧
    leAt x.bytes 2 2 = x.tightMark ∧ leAt x.bytes 4 2 = x.criticalMark ∧ leAt x.bytes 6 2 = x.hysteresis ∧
    (byteAt x.bytes 8).toNat = x.weights[0] ∧ (byteAt x.bytes 9).toNat = x.weights[1] ∧
    (byteAt x.bytes 10).toNat = x.weights[2] ∧ (byteAt x.bytes 11).toNat = x.weights[3] := by
  have hcount := byteOf_toNat h1
  have w0 := byteOf_toNat (hw 0)
  have w1 := byteOf_toNat (hw 1)
  have w2 := byteOf_toNat (hw 2)
  have w3 := byteOf_toNat (hw 3)
  refine ⟨hcount, rfl, ?_, ?_, ?_, w0, w1, w2, w3⟩
  · exact leNat_leBytes 2 _ (by omega)
  · exact leNat_leBytes 2 _ (by omega)
  · exact leNat_leBytes 2 _ (by omega)

theorem forall_four {P : Fin 4 → Prop} : (∀ k, P k) ↔ P 0 ∧ P 1 ∧ P 2 ∧ P 3 := by
  refine ⟨fun h => ⟨h 0, h 1, h 2, h 3⟩, fun h k => ?_⟩
  obtain ⟨h0, h1, h2, h3⟩ := h
  fin_cases k <;> assumption

section
variable {x : Settings} (h1 : x.slotCount < 256) (ht : x.tightMark < 65536) (hcm : x.criticalMark < 65536)
  (hh : x.hysteresis < 65536) (hw : ∀ k : ClassId, x.weights[k] < 256)
include h1 ht hcm hh hw

/-- The check of a Settings payload (R159). -/
theorem settingsInRange_bytes : settingsInRange (byteAt x.bytes 0).toNat (byteAt x.bytes 1).toNat (leAt x.bytes 2 2) (leAt x.bytes 4 2)
    (leAt x.bytes 6 2) [(byteAt x.bytes 8).toNat, (byteAt x.bytes 9).toNat, (byteAt x.bytes 10).toNat, (byteAt x.bytes 11).toNat]
      = true ↔ SettingsInRange x := by
  obtain ⟨e0, e1, e2, e4, e6, e8, e9, e10, e11⟩ := settings_fields h1 ht hcm hh hw
  have hmask := (planeSetByte_lt x.planeMask).1
  rw [e0, e1, e2, e4, e6, e8, e9, e10, e11]
  simp only [settingsInRange, SettingsInRange, Bool.and_eq_true, decide_eq_true_eq, List.all_cons, List.all_nil, hmask, true_and,
    and_true, forall_four, and_assoc]
  rfl

theorem decodeSettings_of_range (h : SettingsInRange x) : decodeSettings x.bytes = some x := by
  obtain ⟨e0, e1, e2, e4, e6, e8, e9, e10, e11⟩ := settings_fields h1 ht hcm hh hw
  unfold decodeSettings
  dsimp only
  rw [if_pos ((settingsInRange_bytes h1 ht hcm hh hw).mpr h), e0, e1, e2, e4, e6, e8, e9, e10, e11, (planeSetByte_lt _).2, vector_four]

theorem decodeSettings_of_not_range (h : ¬ SettingsInRange x) : decodeSettings x.bytes = none :=
  if_neg fun hin => h ((settingsInRange_bytes h1 ht hcm hh hw).mp hin)

end

/-- Fields in range fit their bytes. -/
theorem decodeSettings_bytes {x : Settings} (h : SettingsInRange x) : decodeSettings x.bytes = some x := by
  obtain ⟨-, h2, h3, h4, h5⟩ := id h
  exact decodeSettings_of_range (by omega) (by omega) (by omega) (by omega) (fun k => (h5 k).trans_lt (by decide)) h

/-- Settles O17. -/
theorem tableEntriesDecodeToThemselves : Obligations.TableEntriesDecodeToThemselves :=
  ⟨decodeSlotMap_bytes, fun _ => decodeProfile_bytes, fun _ => decodeChannel_bytes, fun _ => decodeSettings_bytes⟩

/-! ## Sizes (12) -/

/-- The bytes of a pair at W 12, bit by bit. -/
theorem pairBytes_fields (a b : BitVec 12) : ∃ x y z, pairBytes a b = [x, y, z] ∧ x = a.extractLsb' 0 8 ∧
    y.extractLsb' 0 4 = a.extractLsb' 8 4 ∧ y.extractLsb' 4 4 = b.extractLsb' 0 4 ∧ z = b.extractLsb' 4 8 := by
  refine ⟨_, _, _, rfl, ?_, ?_, ?_, ?_⟩ <;> ext i hi
  · simp
  · simp only [BitVec.getElem_extractLsb', BitVec.getLsbD_or, BitVec.getLsbD_setWidth, BitVec.getLsbD_ushiftRight,
      BitVec.getLsbD_shiftLeft]
    simp [hi]
    omega
  · have hhigh : a.getLsbD (8 + (4 + i)) = false := BitVec.getLsbD_of_ge _ _ (by omega)
    have h1 : 4 + i < 8 := by omega
    simp [hhigh, h1]
  · simp

@[simp] theorem word16_length (w : Word16) : (word16 w).length = 2 := leBytes_length 2 _
@[simp] theorem word32_length (w : Word32) : (word32 w).length = 4 := leBytes_length 4 _
@[simp] theorem word64_length (w : Word64) : (word64 w).length = 8 := leBytes_length 8 _
@[simp] theorem zeros_length (n : Nat) : (zeros n).length = n := List.length_replicate
@[simp] theorem signed16_length (x : Int) : (signed16 x).length = 2 := leBytes_length 2 _
@[simp] theorem optWord32_length (w : Option Word32) : (optWord32 w).length = 4 := word32_length _
@[simp] theorem optWord64_length (w : Option Word64) : (optWord64 w).length = 8 := word64_length _

/-- Settles O18: the fields' lengths add up. -/
theorem layoutsHaveTheirSizes : Obligations.LayoutsHaveTheirSizes := by
  refine ⟨fun h => ?_, fun b d => ?_, fun s => ?_, fun h => ?_, fun m => ?_, fun f => ?_, fun ch => ?_, pairBytes_fields⟩
  · simp [RecordHeader.bytes]
  · simp [Descriptor.bytes]
  · unfold statusRecord
    simp only [List.length_append, List.length_cons, List.length_nil, word32_length, word64_length, leBytes_length, count16]
  · simp [Hello.body]
  · cases m <;> simp [Mark.body]
  · simp [HalfFrame.body]
    omega
  · simp [Channel.runtimeBytes]

end Sys2Proof.Machine
end

section
/-! PROOFS. The arithmetic of groups and values, pressure, and allocation (R46 to R51, R72, R74). -/

namespace Sys2Proof.Machine

open Sys2Proof.Safety

/-! ## Groups (R46) -/

section
variable (xs : List Int) (g : Group)

/-- What joining samples leaves of a group. -/
theorem foldl_join_kept : (xs.foldl Group.join g).first = g.first ∧ (xs.foldl Group.join g).firstIndex = g.firstIndex ∧
    (xs.foldl Group.join g).firstFrame = g.firstFrame := by
  induction xs generalizing g with
  | nil => exact ⟨rfl, rfl, rfl⟩
  | cons x xs ih => exact ih (g.join x)

theorem foldl_join_n : (xs.foldl Group.join g).n = g.n + xs.length := by
  induction xs generalizing g with
  | nil => rfl
  | cons x xs ih =>
    rw [List.foldl_cons, ih, List.length_cons]
    change g.n + 1 + xs.length = _
    omega

theorem foldl_join_sum : (xs.foldl Group.join g).sum = g.sum + xs.sum := by
  induction xs generalizing g with
  | nil => exact (Int.add_zero _).symm
  | cons x xs ih =>
    rw [List.foldl_cons, ih, List.sum_cons]
    exact Int.add_assoc _ _ _

/-- The least sample. -/
theorem foldl_join_least : ((xs.foldl Group.join g).least = g.least ∨ (xs.foldl Group.join g).least ∈ xs) ∧
    (xs.foldl Group.join g).least ≤ g.least ∧ ∀ y ∈ xs, (xs.foldl Group.join g).least ≤ y := by
  induction xs generalizing g with
  | nil => exact ⟨.inl rfl, Int.le_refl _, nofun⟩
  | cons x xs ih =>
    obtain ⟨hmem, hle, hall⟩ := ih (g.join x)
    rw [List.foldl_cons]
    have hjoin : (g.join x).least = min g.least x := rfl
    rw [hjoin] at hmem hle
    refine ⟨?_, hle.trans (min_le_left _ _), fun y hy => ?_⟩
    · rcases hmem with hmem | hmem
      · rcases min_choice g.least x with hmin | hmin
        · exact .inl (hmem.trans hmin)
        · exact .inr (by rw [hmem.trans hmin]; exact List.mem_cons_self)
      · exact .inr (List.mem_cons_of_mem _ hmem)
    · rcases List.mem_cons.mp hy with rfl | hy
      · exact hle.trans (min_le_right _ _)
      · exact hall y hy

/-- The greatest sample. -/
theorem foldl_join_greatest : ((xs.foldl Group.join g).greatest = g.greatest ∨ (xs.foldl Group.join g).greatest ∈ xs) ∧
    g.greatest ≤ (xs.foldl Group.join g).greatest ∧ ∀ y ∈ xs, y ≤ (xs.foldl Group.join g).greatest := by
  induction xs generalizing g with
  | nil => exact ⟨.inl rfl, Int.le_refl _, nofun⟩
  | cons x xs ih =>
    obtain ⟨hmem, hle, hall⟩ := ih (g.join x)
    rw [List.foldl_cons]
    have hjoin : (g.join x).greatest = max g.greatest x := rfl
    rw [hjoin] at hmem hle
    refine ⟨?_, (le_max_left _ _).trans hle, fun y hy => ?_⟩
    · rcases hmem with hmem | hmem
      · rcases max_choice g.greatest x with hmax | hmax
        · exact .inl (hmem.trans hmax)
        · exact .inr (by rw [hmem.trans hmax]; exact List.mem_cons_self)
      · exact .inr (List.mem_cons_of_mem _ hmem)
    · rcases List.mem_cons.mp hy with rfl | hy
      · exact (le_max_right _ _).trans hle
      · exact hall y hy

end

/-- A sum of samples. -/
theorem sum_range : ∀ {xs : List Int}, (∀ y ∈ xs, SampleRange y) → -32768 * (xs.length : Int) ≤ xs.sum ∧ xs.sum ≤ 32767 * (xs.length : Int)
  | [], _ => by simp
  | x :: xs, h => by
    obtain ⟨h1, h2⟩ := sum_range (xs := xs) fun y hy => h y (List.mem_cons_of_mem _ hy)
    obtain ⟨h3, h4⟩ := h x List.mem_cons_self
    rw [List.sum_cons, List.length_cons]
    push_cast
    omega

/-- A mean rounded half up, and its range (R48). -/
theorem mean_rounds {n sum : Int} (hn : 0 < n) (h1 : -32768 * n ≤ sum) (h2 : sum ≤ 32767 * n) :
    2 * n * ((2 * sum + n) / (2 * n)) ≤ 2 * sum + n ∧ 2 * sum + n < 2 * n * ((2 * sum + n) / (2 * n) + 1) ∧
    SampleRange ((2 * sum + n) / (2 * n)) := by
  have hpos : 0 < 2 * n := by omega
  refine ⟨Int.mul_ediv_self_le (by omega), ?_, Int.le_ediv_of_mul_le hpos (by omega), ?_⟩
  · exact Int.lt_mul_ediv_self_add hpos |>.trans_eq (by ring)
  · have := Int.ediv_lt_of_lt_mul hpos (show 2 * sum + n < 32768 * (2 * n) by omega)
    omega

theorem lastIndex_groupOf (x : Int) (xs : List Int) (index frame : Word64) :
    (groupOf x xs index frame).lastIndex = index + BitVec.ofNat 64 xs.length := by
  obtain ⟨-, hindex, -⟩ := foldl_join_kept xs (Group.start x index frame)
  rw [Group.lastIndex, groupOf, hindex, foldl_join_n]
  change index + BitVec.ofNat 64 (1 + xs.length) - 1#64 = _
  rw [BitVec.ofNat_add]
  bv_omega

theorem clampTo_spec (w : Width) (q : Int) : w.least ≤ (clampTo w q).value ∧ (clampTo w q).value ≤ w.greatest ∧
    ((clampTo w q).clamped = false → (clampTo w q).value = q) ∧ ((clampTo w q).clamped = true ↔ q < w.least ∨ w.greatest < q) := by
  have hw : w.least ≤ w.greatest := by cases w <;> decide
  unfold clampTo
  split
  · next h => exact ⟨Int.le_refl _, hw, nofun, iff_of_true rfl (.inl h)⟩
  · next h =>
    split
    · next h' => exact ⟨hw, Int.le_refl _, nofun, iff_of_true rfl (.inr h')⟩
    · next h' =>
      refine ⟨Int.not_lt.mp h, Int.not_lt.mp h', fun _ => rfl, iff_of_false nofun ?_⟩
      rintro (hq | hq)
      · exact h hq
      · exact h' hq

/-- Settles O20: each field of a group is a fold of its own over the samples. -/
theorem groupValuesOfTheirSamples : Obligations.GroupValuesOfTheirSamples := by
  refine ⟨fun x xs index frame hx hxs => ?_, clampTo_spec⟩
  obtain ⟨hfirst, hindex, hframe⟩ := foldl_join_kept xs (Group.start x index frame)
  obtain ⟨hleast, hleast', hleastAll⟩ := foldl_join_least xs (Group.start x index frame)
  obtain ⟨hgreatest, hgreatest', hgreatestAll⟩ := foldl_join_greatest xs (Group.start x index frame)
  have hn : ((groupOf x xs index frame).n : Int) = xs.length + 1 := by
    rw [groupOf, foldl_join_n]
    change ((1 + xs.length : Nat) : Int) = _
    push_cast
    omega
  have hsum : (groupOf x xs index frame).sum = x + xs.sum := foldl_join_sum xs _
  have hfirst' : (groupOf x xs index frame).first = x := hfirst
  obtain ⟨hs1, hs2⟩ := sum_range hxs
  obtain ⟨hx1, hx2⟩ := hx
  refine ⟨hindex, hframe, lastIndex_groupOf x xs index frame, congrArg (fun a => [a]) hfirst', congrArg (fun a => [a]) hfirst',
    ⟨_, rfl, ?_⟩, ⟨_, _, rfl, ?_, ?_, fun y hy => ?_⟩⟩
  · rw [hn, hsum]
    exact mean_rounds (by omega) (by omega) (by omega)
  · rcases hleast with h | h
    · exact List.mem_cons.mpr (.inl h)
    · exact List.mem_cons_of_mem _ h
  · rcases hgreatest with h | h
    · exact List.mem_cons.mpr (.inl h)
    · exact List.mem_cons_of_mem _ h
  · rcases List.mem_cons.mp hy with rfl | hy
    · exact ⟨hleast', hgreatest'⟩
    · exact ⟨hleastAll y hy, hgreatestAll y hy⟩

/-! ## Pressure (R74) -/

section
variable {x : Settings} {free : Nat}

/-! In each band of the free count the four comparisons of R74 are decided. -/

theorem pressureLevel_middle (h : x.criticalMark + x.hysteresis < free) (h' : free ≤ x.tightMark) (l : PressureLevel) :
    pressureLevel x free l = .tight := by
  have h2 : ¬ x.tightMark + x.hysteresis < free := by omega
  have h4 : ¬ free ≤ x.criticalMark := by omega
  cases l <;> simp [pressureLevel, pressureMove, h, h', h2, h4]

variable (hx : x.criticalMark + x.hysteresis < x.tightMark)
include hx

theorem pressureLevel_low (h : free ≤ x.criticalMark) (l : PressureLevel) : pressureLevel x free l = .critical := by
  have h1 : free ≤ x.tightMark := by omega
  have h2 : ¬ x.tightMark + x.hysteresis < free := by omega
  have h3 : ¬ x.criticalMark + x.hysteresis < free := by omega
  cases l <;> simp [pressureLevel, pressureMove, h, h1, h2, h3]

theorem pressureLevel_lowBand (h : x.criticalMark < free) (h' : free ≤ x.criticalMark + x.hysteresis) (l : PressureLevel) :
    pressureLevel x free l = if l = .open_ then .tight else l := by
  have h1 : free ≤ x.tightMark := by omega
  have h2 : ¬ x.tightMark + x.hysteresis < free := by omega
  have h3 : ¬ x.criticalMark + x.hysteresis < free := by omega
  have h4 : ¬ free ≤ x.criticalMark := by omega
  cases l <;> simp [pressureLevel, pressureMove, h1, h2, h3, h4]

theorem pressureLevel_highBand (h : x.tightMark < free) (h' : free ≤ x.tightMark + x.hysteresis) (l : PressureLevel) :
    pressureLevel x free l = if l = .critical then .tight else l := by
  have h1 : ¬ free ≤ x.tightMark := by omega
  have h2 : ¬ x.tightMark + x.hysteresis < free := by omega
  have h3 : x.criticalMark + x.hysteresis < free := by omega
  have h4 : ¬ free ≤ x.criticalMark := by omega
  cases l <;> simp [pressureLevel, pressureMove, h1, h2, h3, h4]

theorem pressureLevel_high (h : x.tightMark + x.hysteresis < free) (l : PressureLevel) : pressureLevel x free l = .open_ := by
  have h1 : ¬ free ≤ x.tightMark := by omega
  have h3 : x.criticalMark + x.hysteresis < free := by omega
  cases l <;> simp [pressureLevel, pressureMove, h, h1, h3]

/-- Two moves are enough: no third one applies. -/
theorem pressureMove_pressureLevel (l : PressureLevel) : pressureMove x free (pressureLevel x free l) = pressureLevel x free l := by
  by_cases h1 : free ≤ x.criticalMark
  · rw [pressureLevel_low hx h1]
    exact if_neg (by omega)
  by_cases h2 : free ≤ x.criticalMark + x.hysteresis
  · rw [pressureLevel_lowBand hx (by omega) h2]
    cases l
    · exact (if_neg (by omega)).trans (if_neg h1)
    · exact (if_neg (by omega)).trans (if_neg h1)
    · exact if_neg (by omega)
  by_cases h3 : free ≤ x.tightMark
  · rw [pressureLevel_middle (by omega) h3]
    exact (if_neg (by omega)).trans (if_neg h1)
  by_cases h4 : free ≤ x.tightMark + x.hysteresis
  · rw [pressureLevel_highBand hx (by omega) h4]
    cases l
    · exact if_neg h3
    · exact (if_neg (by omega)).trans (if_neg h1)
    · exact (if_neg (by omega)).trans (if_neg h1)
  · rw [pressureLevel_high hx (by omega)]
    exact if_neg h3

end

/-- Settles O21, band by band. -/
theorem pressureSettles : Obligations.PressureSettles := by
  intro x free l hx
  refine ⟨pressureMove_pressureLevel hx l, fun h => pressureLevel_low hx h l, fun h => pressureLevel_high hx h l,
    fun h h' => pressureLevel_middle h h' l, fun h h' hl => ?_, fun h h' hl => ?_⟩
  · rw [pressureLevel_highBand hx h h', if_neg hl]
  · rw [pressureLevel_lowBand hx h h', if_neg hl]

/-! ## Allocation (R72) -/

section
variable {rm : Ring} {p q r : PlaneId} {b : BlockId} {rest : List BlockId}

theorem freeHead_eq_some : rm.freeHead p = some (q, b, rest) ↔ q = p ∧ rm.free[p] = some (b :: rest) := by
  unfold Ring.freeHead
  split
  · next b' rest' hp => simp [hp, eq_comm]
  · next hp =>
    refine iff_of_false nofun ?_
    rintro ⟨-, hq⟩
    exact hp _ _ hq

theorem freeHead_eq_none : rm.freeHead p = none ↔ rm.free[p] = none ∨ rm.free[p] = some [] := by
  unfold Ring.freeHead
  split
  · next hp => simp [hp]
  · next hp =>
    refine iff_of_true rfl ?_
    match h : rm.free[p] with
    | none => exact .inl rfl
    | some [] => exact .inr rfl
    | some (b :: rest) => exact absurd h (hp b rest)

theorem freeOf_eq_zero : rm.freeOf p = 0 ↔ rm.freeHead p = none := by
  rw [freeHead_eq_none, Ring.freeOf]
  split
  · next l hl => simp [hl]
  · next hl => simp [hl]

theorem mem_searchOrder (r p : PlaneId) : p ∈ searchOrder r := by
  revert r p
  decide

theorem freeCount_eq_zero : rm.freeCount = 0 ↔ ∀ p, rm.freeHead p = none := by
  simp only [← freeOf_eq_zero, forall_four, Ring.freeCount]
  omega

/-- A plane searched earlier stands before in the order. -/
theorem idxOf_searchOrder : ∀ r p q : PlaneId, q - r - 1 < p - r - 1 → (searchOrder r).idxOf q < (searchOrder r).idxOf p := by
  decide

/-- What the search skipped. -/
theorem freeHead_before (h : (searchOrder r).findSome? rm.freeHead = some (p, b, rest)) (hq : q - r - 1 < p - r - 1) :
    rm.freeHead q = none := by
  obtain ⟨l1, p', l2, hl, hp, hnone⟩ := List.findSome?_eq_some_iff.mp h
  obtain ⟨rfl, -⟩ := freeHead_eq_some.mp hp
  refine hnone q ?_
  by_contra hql
  have hlt := idxOf_searchOrder r p q hq
  rw [hl, List.idxOf_append, List.idxOf_append, if_neg hql] at hlt
  have hp1 : (if p ∈ l1 then l1.idxOf p else (p :: l2).idxOf p + l1.length) ≤ l1.length := by
    split
    · next hp => exact (List.idxOf_lt_length_of_mem hp).le
    · simp
  omega

theorem freeOf_granted (hp : rm.free[p] = some (b :: rest)) (d : Descriptor) (q : PlaneId) :
    (rm.granted p b rest d).freeOf q + (if p = q then 1 else 0) = rm.freeOf q := by
  by_cases hpq : p = q
  · subst hpq
    rw [Ring.freeOf_of_some hp, Ring.freeOf_of_some (l := rest) (get_put_self _ _ _), if_pos rfl]
    rfl
  · rw [if_neg hpq, Nat.add_zero]
    simp only [Ring.freeOf, Ring.granted, get_put_ne _ _ hpq]

theorem freeCount_granted (hp : rm.free[p] = some (b :: rest)) (d : Descriptor) : (rm.granted p b rest d).freeCount + 1 = rm.freeCount := by
  have hone : ∀ q : PlaneId, (if q = 0 then 1 else 0) + (if q = 1 then 1 else 0) + (if q = 2 then 1 else 0) +
      (if q = 3 then 1 else 0) = 1 := by decide
  have := hone p
  simp only [Ring.freeCount, ← freeOf_granted hp d]
  omega

end

/-- Settles O22: the search finds the first plane with a free block, and the grant changes that plane's list alone. -/
theorem allocationTakesTheNextPlanesHead : Obligations.AllocationTakesTheNextPlanesHead := by
  intro x rm c run
  constructor
  · rw [freeCount_eq_zero]
    unfold Ring.allocate
    split
    · next hnone =>
      exact iff_of_true rfl fun p => List.findSome?_eq_none_iff.mp hnone p (mem_searchOrder _ p)
    · next p b rest hsome =>
      refine iff_of_false nofun fun hall => ?_
      rw [List.findSome?_eq_none_iff.mpr fun p _ => hall p] at hsome
      cases hsome
  · intro b rm' h
    obtain ⟨p, rest, hfind, hp, rfl⟩ := Ring.allocate_some h
    have hsome : (rm.free[p]).isSome := by rw [hp]; rfl
    refine ⟨⟨p, rest, hp, get_put_self _ _ _, rfl, fun q hq => get_put_ne _ _ (Ne.symm hq), fun q hq =>
      freeHead_eq_none.mp (freeHead_before hfind hq)⟩, freeCount_granted hp (.allocated c run), rfl,
      Ring.block_granted rm p b rest _, fun b' hb' => Ring.block_granted_ne hsome hb', rfl⟩

end Sys2Proof.Machine
end

section
/-! PROOFS. The Spool Link: which command takes the link from one state to another, its training, and the return frames. -/

namespace Sys2Proof.Machine

open Sys2Proof.Safety

section
variable {c : Instr} {s t : State}

/-! ## The link's states (R137 to R142) -/

/-- No move but a link command's and a device reset's reaches the link's state. -/
theorem Move.link_state (h : Move c s t) (hc : ¬ ChangesLink c) (hreset : ∀ straps, c ≠ .deviceReset straps ∧ c ≠ .resetDevice straps) :
    t.sl.state = s.sl.state := by
  cases h with
  | link _ _ hs => exact hs.resolve_right hc
  | deviceReset straps hd => exact absurd hd (not_or.mpr (hreset straps))
  | event => rfl
  | _ => rfl

/-- Only a link command or a device reset takes the link from one state to another. -/
theorem exec_link_state (h : exec c s = .next t) (hc : ¬ ChangesLink c)
    (hreset : ∀ straps, c ≠ .deviceReset straps ∧ c ≠ .resetDevice straps) : t.sl.state = s.sl.state :=
  (exec_moves h).rel (R := fun a b => b.sl.state = a.sl.state) (fun _ => rfl) (fun _ _ _ hab hbc => hbc.trans hab)
    fun _ _ hm => hm.link_state hc hreset

/-- The ways a command leaves the link: in its state, READY by a FLOW, or in one of the states it goes to otherwise. -/
inductive LinkStep (c : Instr) (a b : Link) : Prop where
  | kept (h : b.state = a.state)
  | ready (hwait : a.state = .syncWait) (hsent : a.helloSent = true) (g m : Word32) (hc : c = .flowFrame g m)
  | training (h : b.state = .training)
  | syncWait (h : b.state = .syncWait) (hlanes : a.state = .training → 1 ≤ b.lanes)
  | pin (hc : c = .resetPinLow) (h : b.state ≠ .ready)

theorem trainedLanes_pos {aligned : BitVec 4} {n : Nat} (h : trainedLanes aligned = some n) : 1 ≤ n := by
  unfold trainedLanes at h
  split_ifs at h <;> simp_all <;> omega

/-- R140: READY comes of a FLOW in SYNC_WAIT with HELLO sent yes alone. -/
theorem Link.takeReady_state (l : Link) : l.takeReady.state = l.state ∨ l.state = .syncWait ∧ l.helloSent = true := by
  unfold Link.takeReady
  split
  · next h => exact .inr h
  · exact .inl rfl

@[simp] theorem Link.heard_state (l : Link) : l.heard.state = l.state := by unfold Link.heard; split <;> rfl

@[simp] theorem Link.heard_helloSent (l : Link) : l.heard.helloSent = l.helloSent := by unfold Link.heard; split <;> rfl

/-- A guarded event moves the link as its effect does. -/
theorem linkStep_released {f : State → State} (h : released s f = .next t) (hf : LinkStep c s.sl (f s).sl) :
    LinkStep c s.sl t.sl := by
  obtain ⟨-, rfl⟩ | ⟨-, rfl⟩ := released_cases h
  · exact hf
  · exact .kept rfl

theorem linkStep_onlyWhen {b : Bool} {f : State → State} (h : released s (onlyWhen b f) = .next t)
    (hf : b = true → LinkStep c s.sl (f s).sl) : LinkStep c s.sl t.sl := by
  refine linkStep_released h ?_
  obtain ⟨hb, hw⟩ | ⟨-, hw⟩ := onlyWhen_cases b f s
  · rw [hw]; exact hf hb
  · rw [hw]; exact .kept rfl

theorem linkStep_flow {g m : Word32} (h : execFlowFrame g m s = .next t) : LinkStep (.flowFrame g m) s.sl t.sl := by
  refine linkStep_onlyWhen h fun _ => ?_
  rw [settle_sl]
  obtain hkept | ⟨hwait, hsent⟩ := s.sl.heard.takeReady_state
  · exact .kept (hkept.trans s.sl.heard_state)
  · exact .ready (by rwa [Link.heard_state] at hwait) (by rwa [Link.heard_helloSent] at hsent) g m rfl

theorem abortReview_sl (s : State) : (abortReview s).sl = s.sl := by
  unfold abortReview
  split <;> rfl

/-- R151: what the stream reset leaves of the link. -/
theorem streamReset_sl (s : State) : (streamReset s).sl = s.sl.streamReset := by
  obtain ⟨busy, n, -, harrive⟩ := takeArrivals_hold (resetChannels s) rfl
  unfold streamReset
  rw [harrive]
  exact congrArg Link.streamReset (abortReview_sl s)

theorem linkStep_streamReset (l : Link) : LinkStep c l l.streamReset := by
  unfold Link.streamReset
  dsimp only
  split
  · next hup => exact .syncWait rfl fun htraining => by simp [htraining] at hup
  · exact .kept rfl

theorem linkStep_resetStream (h : execResetStream s = .next t) : LinkStep .resetStream s.sl t.sl := by
  refine linkStep_released h ?_
  obtain ⟨-, hserve⟩ | ⟨r, -, hserve⟩ := serve_cases .resetStream (fun _ t => (streamReset t, .ok, [])) s
  · rw [hserve]; exact .kept rfl
  · rw [hserve, finish_sl]
    obtain hj | hj := judged_cases .resetStream r (fun t => (streamReset t, .ok, [])) s
    · rw [hj]; exact .kept rfl
    · rw [hj, streamReset_sl]; exact linkStep_streamReset s.sl

theorem linkStep_resetDevice {straps : BitVec 2} (h : execResetDevice straps s = .next t) :
    LinkStep (.resetDevice straps) s.sl t.sl := by
  refine linkStep_released h ?_
  unfold serveDeviceReset
  split
  · exact .kept rfl
  · split_ifs
    · exact .kept (by rw [finish_sl])
    · exact .training rfl
    · exact .kept (by rw [finish_sl])

theorem linkStep_trainingComplete {aligned : BitVec 4} (h : execTrainingAttemptComplete aligned s = .next t) :
    LinkStep (.trainingAttemptComplete aligned) s.sl t.sl := by
  refine linkStep_onlyWhen h fun _ => ?_
  split
  · next n hn => exact .syncWait rfl fun _ => trainedLanes_pos hn
  · exact .kept rfl

/-- Every command leaves the link in one of these ways. -/
theorem exec_linkStep (h : exec c s = .next t) : LinkStep c s.sl t.sl := by
  by_cases hc : ChangesLink c
  · obtain ⟨_, rfl⟩ | ⟨_, rfl⟩ | rfl | ⟨_, _, rfl⟩ | rfl | rfl := hc
    · exact linkStep_trainingComplete h
    · exact linkStep_onlyWhen h fun _ => .training rfl
    · exact linkStep_onlyWhen h fun _ => .training rfl
    · exact linkStep_flow h
    · cases h; exact .pin rfl nofun
    · exact linkStep_resetStream h
  · by_cases hreset : ∃ straps, c = .deviceReset straps ∨ c = .resetDevice straps
    · obtain ⟨straps, rfl | rfl⟩ := hreset
      · cases h; exact .training rfl
      · exact linkStep_resetDevice h
    · refine .kept (exec_link_state h hc fun straps => ?_)
      exact not_or.mp fun hd => hreset ⟨straps, hd⟩

/-- Settles O14, by the ways a command leaves the link. -/
theorem onlyAFlowMakesTheLinkReady : Obligations.OnlyAFlowMakesTheLinkReady := by
  unfold Obligations.OnlyAFlowMakesTheLinkReady
  intro c s t h
  cases exec_linkStep h with
  | kept hkept => exact ⟨fun hs ht => absurd (hkept ▸ ht) hs, fun hs _ => .inl (hkept.trans hs)⟩
  | ready hwait hsent g m hc => exact ⟨fun _ _ => ⟨hwait, hsent, g, m, hc⟩, fun hs => by simp [hwait] at hs⟩
  | training ht => exact ⟨fun _ hready => by simp [ht] at hready, fun _ _ => .inl ht⟩
  | syncWait ht hlanes => exact ⟨fun _ hready => by simp [ht] at hready, fun hs _ => .inr ⟨ht, hlanes hs⟩⟩
  | pin hc ht => exact ⟨fun _ hready => absurd hready ht, fun _ hne => absurd hc hne⟩

end

/-! ## Training (R138, R139) -/

theorem trainedLanes_of_lane_0 {aligned : BitVec 4} (h : aligned.getLsbD 0 = true) :
    trainedLanes aligned = some (if aligned = 15#4 then 4 else if aligned.getLsbD 1 then 2 else 1) := by
  simp only [trainedLanes, h, Bool.true_and, if_true]
  split_ifs <;> rfl

section
variable {s : State}

/-- A guarded event, outside the reset, in a state it occurs in. -/
theorem released_onlyWhen_eq {b : Bool} (f : State → State) (hpin : s.su.resetLow = false) (hb : b = true) :
    released s (onlyWhen b f) = .next (f s) := by
  rw [released_eq _ hpin, hb, onlyWhen_true]

end

/-- Settles O38, each event by its meaning in the state it occurs in. -/
theorem trainingSettlesTheLaneCount : Obligations.TrainingSettlesTheLaneCount := by
  unfold Obligations.TrainingSettlesTheLaneCount
  refine ⟨fun s aligned hpin hstate h0 => ?_, fun s hpin hstate => ?_, fun s hpin hstate htimer => ?_,
    fun s hpin hstate htimer => ?_⟩
  · refine ⟨_, (released_onlyWhen_eq _ hpin (decide_eq_true hstate)).trans (by rw [trainedLanes_of_lane_0 h0]), ?_⟩
    refine ⟨fun p hp => ?_, rfl, rfl, rfl, rfl, rfl, rfl, rfl, rfl, rfl⟩
    cases p with
    | sl => simp at hp
    | _ => rfl
  · exact ⟨_, released_onlyWhen_eq _ hpin (decide_eq_true hstate), rfl⟩
  · exact ⟨_, released_onlyWhen_eq _ hpin (by simp [hstate, Option.isSome_iff_ne_none, htimer]), rfl⟩
  · exact ⟨_, released_onlyWhen_eq _ hpin (by simp [hstate, Option.isSome_iff_ne_none, htimer]), rfl⟩

/-! ## Return frames (R142, R146, R150, R154) -/

theorem Link.heard_of_up {l : Link} (h : l.state = .syncWait ∨ l.state = .ready) : l.heard = { l with silenceTimer := some 1 } :=
  if_pos ((Link.up_iff l).mpr h)

theorem Link.reject_of_up {l : Link} (h : l.state = .syncWait ∨ l.state = .ready) :
    l.reject = { l with rejected := if l.rejected < 65535 then l.rejected + 1 else l.rejected } := by
  rw [Link.reject, (Link.up_iff l).mpr h, Bool.and_true]
  rfl

section
variable {r : Request} {s : State}

/-- R155: MU may start a request when none is in progress and a reply has room. -/
theorem canStart_iff : canStart s = true ↔ s.mu.inProgress = none ∧ s.mu.replies.length < 4 := by
  rw [canStart, Bool.and_eq_true, Option.isNone_iff_eq_none, decide_eq_true_iff]
  exact Iff.rfl

theorem startFrom_of_not_canStart (q : List Request) (h : canStart s = false) : startFrom q s = setQueue q s := by
  cases q with
  | nil => rfl
  | cons r rest => rw [startFrom, h]; rfl

/-- A request that finds the queue full is discarded (R154). -/
theorem arriveRequest_of_full (h : 4 ≤ s.mu.queue.length) : (arriveRequest r s).mu = { s.mu with overflow := true } := by
  have hfull : ¬ s.mu.queue.length < Config.requestQueueMax := not_lt.mpr h
  rw [arriveRequest, if_neg hfull]

theorem arriveRequest_of_room (h : s.mu.queue.length < 4) :
    arriveRequest r s = startFrom (s.mu.queue ++ [r]) (setQueue (s.mu.queue ++ [r]) s) := if_pos h

/-- A request waits while another is in progress or no reply has room (R155). -/
theorem arriveRequest_of_busy (h : s.mu.queue.length < 4) (hbusy : s.mu.inProgress ≠ none ∨ 4 ≤ s.mu.replies.length) :
    (arriveRequest r s).mu = { s.mu with queue := s.mu.queue ++ [r] } := by
  have hcan : canStart (setQueue (s.mu.queue ++ [r]) s) = false := by
    refine Bool.eq_false_iff.mpr fun hc => ?_
    obtain ⟨hfree, hroom⟩ := canStart_iff.mp hc
    exact hbusy.elim (fun h => h hfree) fun h => absurd hroom (not_lt.mpr h)
  rw [arriveRequest_of_room h, startFrom_of_not_canStart _ hcan]
  rfl

/-- The one request that waits is answered BUSY in INIT, BAD_ARG with a code that names nothing, and starts otherwise (R155, R157). -/
theorem arriveRequest_of_idle (hqueue : s.mu.queue = []) (hfree : s.mu.inProgress = none) (hroom : s.mu.replies.length < 4) :
    (arriveRequest r s).mu =
      if s.mu.stream = .init then
        { s.mu with replies := s.mu.replies ++ [⟨r.tag, r.kind, .busy, [], s.mu.overflow⟩], overflow := false }
      else if r.row = none then
        { s.mu with replies := s.mu.replies ++ [⟨r.tag, r.kind, .badArg, [], s.mu.overflow⟩], overflow := false }
      else { s.mu with inProgress := some r } := by
  have hcan : canStart (setQueue [r] s) = true := canStart_iff.mpr ⟨hfree, hroom⟩
  have hback : s.mu = { s.mu with queue := [] } := by rw [← hqueue]
  rw [arriveRequest_of_room (by simp [hqueue]), hqueue, List.nil_append, startFrom, if_pos hcan]
  rw [apply_ite State.mu, apply_ite State.mu]
  rw [hback]
  rfl

end

/-- Settles O43, by what the link and MU make of a return frame on an up link. -/
theorem returnFramesReachTheirOwner : Obligations.ReturnFramesReachTheirOwner := by
  unfold Obligations.ReturnFramesReachTheirOwner
  refine ⟨fun s r hpin hup => ?_, fun s hpin hup => ?_, fun s bytes hpin hup hbytes => ?_⟩
  · refine ⟨_, exec_requestFrame_of_up r.tag r.kind r.contents hpin hup, ?_, ?_, fun hfull => ?_, fun hroom hbusy => ?_,
      fun hqueue hfree hroom => ?_⟩
    · rw [arriveRequest_sl]; exact Link.heard_of_up hup
    · rw [arriveRequest_eq]
      intro p hp
      cases p with
      | sl | mu => simp at hp
      | _ => rfl
    · exact arriveRequest_of_full hfull
    · exact arriveRequest_of_busy hroom hbusy
    · have hmu := arriveRequest_of_idle (r := r) (s := { s with sl := s.sl.heard }) hqueue hfree hroom
      refine ⟨fun hinit => ?_, fun hinit hrow => ?_, fun hinit hrow => ?_⟩
      · exact hmu.trans (if_pos hinit)
      · exact hmu.trans ((if_neg hinit).trans (if_neg hrow))
      · exact hmu.trans ((if_neg hinit).trans (if_pos hrow))
  · refine ⟨_, released_onlyWhen_eq _ hpin (receiving_of_up hup), ?_⟩
    rw [Link.heard_of_up hup]
  · refine ⟨_, released_onlyWhen_eq _ hpin (by rw [receiving_of_up hup, hbytes]; rfl), ?_⟩
    rw [Link.reject_of_up hup]

end Sys2Proof.Machine
end

section
/-! PROOFS. Requests: what serving one reaches, the judgement of its form, the queries, the table reads and writes, and CHANNEL_START. -/

namespace Sys2Proof.Safety

open Sys2Proof.Machine

/-! ## Frames -/

theorem changesOnly_refl (ps : List Part) (s : State) : ChangesOnly ps s s := fun p _ => by cases p <;> rfl

/-- A frame is shown part by part, the parts named left out. -/
theorem changesOnly_of {ps : List Part} {s t : State} (h : ∀ p, p ∈ ps ∨ SamePart s t p) : ChangesOnly ps s t :=
  fun p hp => (h p).resolve_left hp

theorem changesOnly_finish {ps : List Part} {s : State} (r : Request) (x : Served) (h : ChangesOnly ps s x.1) (hmu : .mu ∈ ps) :
    ChangesOnly ps s (finish r x) :=
  changesOnly_trans h (changesOnly_mono (by simpa using hmu) (finish_changesOnly r x))

theorem changesOnly_settle {ps : List Part} {s t : State} (h : ChangesOnly ps s t) (hsub : [.rm, .ds, .planes] ⊆ ps) :
    ChangesOnly ps s (settle t) :=
  changesOnly_trans h (changesOnly_mono hsub (settle_changesOnly t))

theorem answered_settle {r : Request} {st : ReplyStatus} {bs : List Byte} {s t : State} (h : Answered r st bs s t) :
    Answered r st bs s (settle t) := by
  rwa [Answered, settle_mu]

end Sys2Proof.Safety

namespace Sys2Proof.Machine

open Sys2Proof.Safety

section
variable {s : State} {r : Request} {row : RequestRow} {run : Request → State → Served}

/-! ## Judgement of form (R157) -/

theorem inProgressOf_of_row (hprogress : s.mu.inProgress = some r) (hrow : r.row = some row) : inProgressOf row s = some r := by
  simp [inProgressOf, hprogress, hrow]

/-- A request in INIT is answered BUSY, one of the wrong length BAD_ARG, its meaning not begun. -/
theorem judged_of_misformed {n : Nat} {run : State → Served} (hlen : row.length = some n)
    (hbad : s.mu.stream = .init ∨ r.contents.length ≠ n) :
    judged row r run s = (s, if s.mu.stream = .init then .busy else .badArg, []) := by
  unfold judged
  by_cases hinit : s.mu.stream = .init
  · rw [if_pos hinit, if_pos hinit]
  · have hknown : row ≠ .unknownRequestKind := by rintro rfl; cases hlen
    have hfits : lengthFits row r = false := by
      simp only [lengthFits, hlen]
      exact decide_eq_false (hbad.resolve_left hinit)
    rw [if_neg hinit, if_neg hinit, if_neg hknown, hfits]
    rfl

theorem serve_of_misformed {n : Nat} (hprogress : s.mu.inProgress = some r) (hrow : r.row = some row) (hlen : row.length = some n)
    (hbad : s.mu.stream = .init ∨ r.contents.length ≠ n) :
    serve row run s = finish r (s, if s.mu.stream = .init then .busy else .badArg, []) := by
  simp only [serve, inProgressOf_of_row hprogress hrow, judged_of_misformed hlen hbad]

theorem serveDeviceReset_of_misformed {straps : BitVec 2} (hprogress : s.mu.inProgress = some r)
    (hrow : r.row = some .resetDevice) (hbad : s.mu.stream = .init ∨ r.contents.length ≠ 4) :
    serveDeviceReset straps s = finish r (s, if s.mu.stream = .init then .busy else .badArg, []) := by
  simp only [serveDeviceReset, inProgressOf_of_row hprogress hrow]
  by_cases hinit : s.mu.stream = .init
  · rw [if_pos hinit, if_pos hinit]
  · have hfits : ¬ lengthFits .resetDevice r = true := by simpa [lengthFits, RequestRow.length] using hbad.resolve_left hinit
    rw [if_neg hinit, if_neg hinit, if_neg hfits]

/-- What a request judged by its form alone leaves: its answer, the stream, and everything DS does not reach. -/
def JudgedByForm (r : Request) (s t : State) : Prop :=
  Answered r (if s.mu.stream = .init then .busy else .badArg) [] s t ∧ t.mu.stream = s.mu.stream ∧
  ChangesOnly [.mu, .rm, .ds, .planes] s t ∧ t.rm.free = s.rm.free ∧ ∀ b, KeptOrSelected (s.rm.block b) (t.rm.block b)

theorem judgedByForm_finish :
    JudgedByForm r s (finish r (s, if s.mu.stream = .init then .busy else .badArg, [])) := by
  obtain ⟨hstream, hanswer⟩ := finish_of_mu_eq (r := r) (x := (s, if s.mu.stream = .init then .busy else .badArg, [])) rfl
  exact ⟨hanswer, hstream, changesOnly_finish r _ (changesOnly_refl _ s) (by simp), congrArg Ring.free (finish_rm r _),
    fun b => .inl (congrArg (fun rm : Ring => rm.block b) (finish_rm r _))⟩

theorem JudgedByForm.settle {t : State} (h : JudgedByForm r s t) : JudgedByForm r s (settle t) := by
  obtain ⟨hanswer, hstream, honly, hfree, hblocks⟩ := h
  obtain ⟨hfree', hblocks'⟩ := settle_onlySelects t
  exact ⟨answered_settle hanswer, by rw [settle_mu, hstream], changesOnly_settle honly (by simp), hfree'.trans hfree,
    fun b => keptOrSelected_trans (hblocks b) (hblocks' b)⟩

section
variable (hpin : s.su.resetLow = false) (hprogress : s.mu.inProgress = some r) (hrow : r.row = some row)
include hpin hprogress hrow

theorem released_serve_of_misformed (n : Nat) (hlen : row.length = some n) (hbad : s.mu.stream = .init ∨ r.contents.length ≠ n) :
    ∃ t, released s (serve row run) = .next t ∧ JudgedByForm r s t :=
  ⟨_, released_eq _ hpin, by rw [serve_of_misformed hprogress hrow hlen hbad]; exact judgedByForm_finish⟩

theorem released_settle_serve_of_misformed (n : Nat) (hlen : row.length = some n)
    (hbad : s.mu.stream = .init ∨ r.contents.length ≠ n) :
    ∃ t, released s (fun u => settle (serve row run u)) = .next t ∧ JudgedByForm r s t :=
  ⟨_, released_eq _ hpin, by rw [serve_of_misformed hprogress hrow hlen hbad]; exact judgedByForm_finish.settle⟩

end

end

/-- Settles O55: each row's serving judges the form before the meaning. -/
theorem formIsJudgedBeforeMeaning : Obligations.FormIsJudgedBeforeMeaning := by
  unfold Obligations.FormIsJudgedBeforeMeaning
  intro s cmd row length r hmem hrow hpin hprogress hbad
  change ∃ t, exec cmd s = .next t ∧ JudgedByForm r s t
  cases row with
  | tableWriteSlotMap | tableWriteProfile | tableWriteChannel | tableRead | streamRun | channelStart | blockQuery | statusQuery
  | forceBoundary | resetStream =>
    obtain ⟨rfl, rfl⟩ : cmd = _ ∧ length = _ := by simpa using hmem
    exact released_serve_of_misformed hpin hprogress hrow _ rfl hbad
  | tableWriteSettings | streamPause | streamHalt | streamResume | streamStandby | channelStop | channelFlush =>
    obtain ⟨rfl, rfl⟩ : cmd = _ ∧ length = _ := by simpa using hmem
    exact released_settle_serve_of_misformed hpin hprogress hrow _ rfl hbad
  | resetDevice =>
    obtain ⟨rfl, rfl⟩ : cmd = _ ∧ length = _ := by simpa using hmem
    exact ⟨_, released_eq _ hpin, by rw [serveDeviceReset_of_misformed hprogress hrow hbad]; exact judgedByForm_finish⟩
  | unknownRequestKind => simp at hmem

/-! ## Queries (R6, R11, R70, R104, R163) -/

section
variable {s : State} {r : Request}

/-- A meaning that leaves the part: its reply is all that changes. -/
theorem finish_of_kept (st : ReplyStatus) (bs : List Byte) :
    (finish r (s, st, bs)).mu.stream = s.mu.stream ∧ ChangesOnly [.mu] s (finish r (s, st, bs)) ∧
      Answered r st bs s (finish r (s, st, bs)) := by
  obtain ⟨hstream, hanswer⟩ := finish_of_mu_eq (r := r) (x := (s, st, bs)) rfl
  exact ⟨hstream, finish_changesOnly r (s, st, bs), hanswer⟩

theorem blockQuery_of_lt {b : Nat} (hb : leAt r.contents 0 2 = b) (h : b < 8192) :
    blockQuery r s = (s, .ok, (s.rm.block b).bytes b) := by
  subst hb; exact if_pos h

theorem blockQuery_of_ge {b : Nat} (hb : leAt r.contents 0 2 = b) (h : 8192 ≤ b) : blockQuery r s = (s, .badArg, []) := by
  subst hb; exact if_neg (not_lt.mpr h)

/-- The status query reads everything first and clears TAG_RESYNC and the REFRESH_LAPSE flags. -/
theorem finish_statusQuery : (finish r (statusQuery r s)).mu.stream = s.mu.stream ∧
    ChangesOnly [.mu, .ap, .planes] s (finish r (statusQuery r s)) ∧
    Answered r .ok (statusRecord s) s (finish r (statusQuery r s)) := by
  obtain ⟨hstream, hanswer⟩ := finish_of_mu_eq (r := r) (x := statusQuery r s) rfl
  refine ⟨hstream, changesOnly_finish r _ (changesOnly_of fun p => ?_) (by simp), hanswer⟩
  cases p with
  | ap | planes => exact .inl (by simp)
  | _ => exact .inr rfl

theorem serve_unknownRequestKind (h : Serving r s) (hrow : r.row = some .unknownRequestKind) :
    serve .unknownRequestKind (fun _ t => (t, .unknownKind, [])) s = finish r (s, .unknownKind, []) := by
  obtain ⟨-, hstream, hprogress⟩ := h
  simp [serve, inProgressOf_of_row hprogress hrow, judged, hstream]

/-- A kind code that names none of the eight. -/
theorem row_of_unknown_kind (h : r.kind.toNat = 0 ∨ 8 < r.kind.toNat) : r.row = some .unknownRequestKind := by
  unfold Request.row
  split
  case h_9 => rfl
  all_goals omega

end

/-- Settles O54, each request by its meaning and its reply. -/
theorem queriesReadAndChangeOnlyTheirFlags : Obligations.QueriesReadAndChangeOnlyTheirFlags := by
  unfold Obligations.QueriesReadAndChangeOnlyTheirFlags
  refine ⟨?_, fun s tag hserving => ?_, fun s tag hserving => ?_, fun s r hkind hserving => ?_⟩
  · intro s tag b0 b1 z1 z2 r b hserving
    have hexec : exec .blockQuery s = .next (finish r (blockQuery r s)) := released_serve_of_serving hserving rfl nofun rfl
    have hb : leAt r.contents 0 2 = b := rfl
    obtain hlt | hge := Nat.lt_or_ge b 8192
    · rw [blockQuery_of_lt hb hlt] at hexec
      obtain ⟨hstream, honly, hanswer⟩ := finish_of_kept (r := r) (s := s) .ok ((s.rm.block b).bytes b)
      exact ⟨_, hexec, hstream, honly, fun _ => hanswer, fun hge => absurd hlt (not_lt.mpr hge)⟩
    · rw [blockQuery_of_ge hb hge] at hexec
      obtain ⟨hstream, honly, hanswer⟩ := finish_of_kept (r := r) (s := s) .badArg []
      exact ⟨_, hexec, hstream, honly, fun hlt => absurd hlt (not_lt.mpr hge), fun _ => hanswer⟩
  · obtain ⟨hstream, honly, hanswer⟩ := finish_statusQuery (r := ⟨tag, 6#8, []⟩) (s := s)
    refine ⟨_, execStatusQuery_of_serving hserving, hstream, honly, hanswer, finish_ap .., fun p => ?_⟩
    rw [finish_planes]
    exact get_mapV _ s.planes p p.isLt
  · refine ⟨_, released_serve_of_serving hserving rfl nofun rfl, ?_⟩
    obtain ⟨hstream, hanswer⟩ := finish_of_mu_eq (r := ⟨tag, 7#8, []⟩) (x := forceBoundary ⟨tag, 7#8, []⟩ s) rfl
    refine ⟨hstream, changesOnly_finish _ _ (changesOnly_of fun p => ?_) (by simp), hanswer, finish_ap ..⟩
    cases p with
    | ap => exact .inl (by simp)
    | _ => exact .inr rfl
  · refine ⟨_, released_eq _ hserving.1, ?_⟩
    rw [serve_unknownRequestKind hserving (row_of_unknown_kind hkind)]
    exact finish_of_kept .unknownKind []

/-! ## Table reads (R22, R160, R184) -/

section
variable {s : State} {r : Request}

/-- A TABLE_READ of a table or an entry that does not exist is BAD_ARG. -/
theorem finish_tableRead_of_none (h : readTable (byteAt r.contents 0) (byteAt r.contents 1) s = none) :
    (finish r (tableRead r s)).mu.stream = s.mu.stream ∧ ChangesOnly [.mu] s (finish r (tableRead r s)) ∧
      Answered r .badArg [] s (finish r (tableRead r s)) := by
  have hx : tableRead r s = (s, .badArg, []) := by rw [tableRead, h]
  rw [hx]
  exact finish_of_kept .badArg []

variable {k : Byte}

theorem readTable_slotMap (s : State) (k : Byte) : readTable 1#8 k s =
    (entryNumber 32 k).map fun i => (s.ts.slotMap[i]).readContents slotMapBytes 1#8 k := rfl

theorem readTable_channel (s : State) (k : Byte) : readTable 3#8 k s = (entryNumber 16 k).map fun c =>
    (s.ts.channels[c]).readContents ChannelConfig.bytes 3#8 k ++ (s.chans[c]).runtimeBytes := rfl

theorem readTable_settings (s : State) (k : Byte) : readTable 4#8 k s = (entryNumber 1 k).map fun _ =>
    readContents 4#8 k s.ts.settings.bytes (s.ts.pendingSlotCount.map fun n => ({ s.ts.settings with slotCount := n }).bytes) := rfl

/-- A table code or a Profile Table number that names nothing. -/
theorem readTable_none {table : Byte} (h : table.toNat = 0 ∨ 4 < table.toNat ∨ (table = 2#8 ∧ 8 ≤ k.toNat)) :
    readTable table k s = none := by
  obtain h | h | ⟨rfl, h⟩ := h
  · simp only [readTable, h]
  · unfold readTable
    split
    case h_5 => rfl
    all_goals omega
  · exact congrArg (Option.map _) (finOfByte_of_le h)

/-- An entry's reply: its head, the current content and the pending copy (R184). -/
theorem readContents_none (table no : Byte) (bs : List Byte) : readContents table no bs none = [table, no, 0#8, 0#8] ++ bs :=
  List.append_nil _

theorem Entry.readContents_eq {α : Type} (f : α → List Byte) (table no : Byte) (x : α) (pending : Option α) :
    (Entry.mk x pending).readContents f table no = [table, no, (match pending with | some _ => 1#8 | none => 0#8), 0#8] ++ f x ++
      (match pending with | some y => f y | none => []) := by
  cases pending <;> rfl

theorem Channel.runtimeBytes_eq (ch : Channel) : ch.runtimeBytes =
    [ch.state.code, ch.run, (match ch.gap with | some g => g.causes.setWidth 8 | none => 0#8), 0#8]
      ++ leBytes 8 ch.nextIndex.toNat := rfl

end

/-- Settles O48, table by table: the number names an entry or nothing, and the reply is what `readTable` gives. -/
theorem channelReadsShowTheRuntimePart : Obligations.ChannelReadsShowTheRuntimePart := by
  unfold Obligations.ChannelReadsShowTheRuntimePart
  refine ⟨?_, ?_, ?_, fun s tag table k z1 z2 hserving hnone => ⟨_, released_serve_of_serving hserving rfl nofun rfl,
    finish_tableRead_of_none (readTable_none hnone)⟩⟩
  · intro s tag k z1 z2 r hserving
    have hexec : exec .tableRead s = .next (finish r (tableRead r s)) := released_serve_of_serving hserving rfl nofun rfl
    have hread : readTable (byteAt r.contents 0) (byteAt r.contents 1) s = _ := readTable_channel s k
    obtain hlt | hge := Nat.lt_or_ge k.toNat 16
    · rw [entryNumber, finOfByte_of_lt hlt, Option.map_some] at hread
      obtain ⟨hstream, honly, hanswer⟩ := finish_tableRead hread
      refine ⟨_, hexec, hstream, honly, fun hge => absurd hlt (not_lt.mpr hge), fun hk x pending hentry => ?_⟩
      rw [hentry, Entry.readContents_eq, Channel.runtimeBytes_eq, ← List.append_assoc] at hanswer
      cases pending with
      | none => exact hanswer
      | some y => exact hanswer
    · rw [entryNumber, finOfByte_of_le hge] at hread
      obtain ⟨hstream, honly, hanswer⟩ := finish_tableRead_of_none hread
      exact ⟨_, hexec, hstream, honly, fun _ => hanswer, fun hk => absurd hk (not_lt.mpr hge)⟩
  · intro s tag k z1 z2 r hserving
    have hexec : exec .tableRead s = .next (finish r (tableRead r s)) := released_serve_of_serving hserving rfl nofun rfl
    have hread : readTable (byteAt r.contents 0) (byteAt r.contents 1) s = _ := readTable_slotMap s k
    obtain hlt | hge := Nat.lt_or_ge k.toNat 32
    · rw [entryNumber, finOfByte_of_lt hlt, Option.map_some] at hread
      obtain ⟨hstream, honly, hanswer⟩ := finish_tableRead hread
      refine ⟨_, hexec, hstream, honly, fun hge => absurd hlt (not_lt.mpr hge), fun hk x hx => ⟨fun hnone => ?_, fun y hsome => ?_⟩⟩
      · rw [Entry.readContents, hnone, hx] at hanswer
        rwa [Option.map_none, readContents_none] at hanswer
      · rw [Entry.readContents, hsome, hx] at hanswer
        exact hanswer
    · rw [entryNumber, finOfByte_of_le hge] at hread
      obtain ⟨hstream, honly, hanswer⟩ := finish_tableRead_of_none hread
      exact ⟨_, hexec, hstream, honly, fun _ => hanswer, fun hk => absurd hk (not_lt.mpr hge)⟩
  · intro s tag k z1 z2 r hserving
    have hexec : exec .tableRead s = .next (finish r (tableRead r s)) := released_serve_of_serving hserving rfl nofun rfl
    have hread : readTable (byteAt r.contents 0) (byteAt r.contents 1) s = _ := readTable_settings s k
    obtain hlt | hge := Nat.lt_or_ge k.toNat 1
    · rw [entryNumber, finOfByte_of_lt hlt, Option.map_some] at hread
      obtain ⟨hstream, honly, hanswer⟩ := finish_tableRead hread
      refine ⟨_, hexec, hstream, honly, fun hge => absurd hlt (not_lt.mpr hge), fun hk hnone => ?_, fun n hk hsome => ?_⟩
      · rw [hnone, hk] at hanswer
        rwa [Option.map_none, readContents_none] at hanswer
      · rw [hsome, hk] at hanswer
        exact hanswer
    · rw [entryNumber, finOfByte_of_le hge] at hread
      obtain ⟨hstream, honly, hanswer⟩ := finish_tableRead_of_none hread
      have hne : k ≠ 0#8 := by rintro rfl; simp at hge
      exact ⟨_, hexec, hstream, honly, fun _ => hanswer, fun hk => absurd hk hne, fun _ hk => absurd hk hne⟩

end Sys2Proof.Machine
end

section
/-! PROOFS. Writes to the Slot Map and to the Channel Table (R14, R20, R158), and CHANNEL_START (R23). -/

namespace Sys2Proof.Machine

open Sys2Proof.Safety

/-! ## Slot Map writes (R14) -/

section
variable {s : State} {no : Byte} {bs : List Byte}

theorem writeSlotMap_eq (no : Byte) (bs : List Byte) (s : State) :
    (writeSlotMap no bs s).1 = { s with ts := (writeSlotMap no bs s).1.ts } := by
  unfold writeSlotMap; split <;> rfl

theorem writeSlotMap_of_bad (s : State) (h : 32 ≤ no.toNat ∨ decodeSlotMap bs = none) : writeSlotMap no bs s = (s, .badArg) := by
  obtain h | h := h
  · simp only [writeSlotMap, entryNumber, finOfByte_of_le h]
  · simp only [writeSlotMap, h]
    split <;> simp_all

theorem writeSlotMap_of_good {x : Option ChannelId} {i : Fin 32} (s : State) (hno : entryNumber 32 no = some i)
    (h : decodeSlotMap bs = some x) : writeSlotMap no bs s =
      ({ s with ts := { s.ts with slotMap := put s.ts.slotMap i ((s.ts.slotMap[i]).write (configuring s.mu.stream) x) } }, .ok) := by
  simp only [writeSlotMap, hno, h]

/-- Outside INIT only STANDBY takes a table write at once. -/
theorem configuring_of_ne_init {st : StreamState} (h : st ≠ .init) : configuring st = decide (st = .standby) := by
  simp [configuring, h]

/-- A write to an entry, by whether it takes effect at once (R158). -/
theorem Entry.write_eq {α : Type} (e : Entry α) (p : Prop) [Decidable p] (x : α) :
    e.write (decide p) x = if p then ⟨x, none⟩ else ⟨e.current, some x⟩ := by
  by_cases h : p <;> simp [Entry.write, h]

theorem decodeSlotMap_eq_none {v : Byte} (h : 16 ≤ v.toNat ∧ v ≠ 31#8) (rest : List Byte) : decodeSlotMap (v :: rest) = none := by
  have hv : byteAt (v :: rest) 0 = v := rfl
  rw [decodeSlotMap, hv, if_neg h.2, finOfByte_of_le h.1]
  rfl

/-- The content byte of a Slot Map entry: a channel's number, or 31 for UNUSED. -/
theorem decodeSlotMap_eq_some {v : Byte} (h : v.toNat < 16 ∨ v = 31#8) (rest : List Byte) :
    ∃ x, decodeSlotMap (v :: rest) = some x ∧ slotMapBytes x = [v, 0#8, 0#8, 0#8] := by
  have hv : byteAt (v :: rest) 0 = v := rfl
  by_cases hunused : v = 31#8
  · exact ⟨none, by rw [decodeSlotMap, hv, if_pos hunused], by rw [hunused]; rfl⟩
  · have hlt := h.resolve_right hunused
    refine ⟨some ⟨v.toNat, hlt⟩, by rw [decodeSlotMap, hv, if_neg hunused, finOfByte_of_lt hlt]; rfl, ?_⟩
    have hbyte : byteOf v.toNat = v := by simp [byteOf]
    simp [slotMapBytes, hbyte, zeros, List.replicate]

/-! ## Channel Table writes (R20) -/

theorem writeChannel_eq (no : Byte) (bs : List Byte) (s : State) :
    (writeChannel no bs s).1 = { s with ts := (writeChannel no bs s).1.ts } := by
  unfold writeChannel; split <;> rfl

theorem writeChannel_of_bad (s : State) (h : 16 ≤ no.toNat ∨ decodeChannel bs = none) : writeChannel no bs s = (s, .badArg) := by
  obtain h | h := h
  · simp only [writeChannel, entryNumber, finOfByte_of_le h]
  · simp only [writeChannel, h]
    split <;> simp_all

theorem writeChannel_of_good {x : ChannelConfig} {c : ChannelId} (s : State) (hno : entryNumber 16 no = some c)
    (h : decodeChannel bs = some x) : (writeChannel no bs s).2 = .ok ∧ (writeChannel no bs s).1.ts =
      { s.ts with channels := put s.ts.channels c ((s.ts.channels[c]).write (decide ((s.chans[c]).state = .idle)) x) } := by
  simp only [writeChannel, hno, h, and_self]

theorem decodeZone_eq_none {b : Byte} (h : 5 ≤ b.toNat) : decodeZone b = none := by
  have hne : b ≠ 4#8 := by rintro rfl; simp at h
  rw [decodeZone, if_neg hne, finOfByte_of_le (by omega)]
  rfl

theorem decodePolicy_eq_none {b : Byte} (h : 3 ≤ b.toNat) : decodePolicy b = none := by
  unfold decodePolicy
  split
  case h_4 => rfl
  all_goals omega

theorem decodeYesNo_eq_none {b : Byte} (h : 2 ≤ b.toNat) : decodeYesNo b = none := by
  have h0 : b ≠ 0#8 := by rintro rfl; simp at h
  have h1 : b ≠ 1#8 := by rintro rfl; simp at h
  rw [decodeYesNo, if_neg h0, if_neg h1]

/-- A Channel Table entry is refused when one of its codes names nothing (R20, R181). -/
theorem decodeChannel_eq_none (h : 8 ≤ (byteAt bs 0).toNat ∨ 8 ≤ (byteAt bs 1).toNat ∨ 8 ≤ (byteAt bs 2).toNat ∨
    5 ≤ (byteAt bs 3).toNat ∨ 4 ≤ (byteAt bs 4).toNat ∨ 3 ≤ (byteAt bs 5).toNat ∨ 2 ≤ (byteAt bs 8).toNat ∨
    2 ≤ (byteAt bs 9).toNat ∨ 2 ≤ (byteAt bs 10).toNat) : decodeChannel bs = none := by
  refine Option.eq_none_iff_forall_ne_some.mpr fun x hx => ?_
  simp only [decodeChannel, Option.bind_eq_bind, Option.bind_eq_some_iff] at hx
  obtain ⟨a, ha, b, hb, f, hf, z, hz, k, hk, p, hp, u, hu, v, hv, w, hw, -⟩ := hx
  obtain h | h | h | h | h | h | h | h | h := h
  · rw [finOfByte_of_le h] at ha; cases ha
  · rw [finOfByte_of_le h] at hb; cases hb
  · rw [finOfByte_of_le h] at hf; cases hf
  · rw [decodeZone_eq_none h] at hz; cases hz
  · rw [finOfByte_of_le h] at hk; cases hk
  · rw [decodePolicy_eq_none h] at hp; cases hp
  · rw [decodeYesNo_eq_none h] at hu; cases hu
  · rw [decodeYesNo_eq_none h] at hv; cases hv
  · rw [decodeYesNo_eq_none h] at hw; cases hw

end

/-- Settles O45, by what the entry's bytes decode to and whether the write takes effect at once. -/
theorem slotMapAndChannelWritesApplyOrWait : Obligations.SlotMapAndChannelWritesApplyOrWait := by
  unfold Obligations.SlotMapAndChannelWritesApplyOrWait
  refine ⟨?_, ?_, ?_⟩
  · intro s tag k z1 z2 v y1 y2 y3 r hserving
    obtain ⟨hstream, hframe, -, -⟩ := finish_tableWrite (r := r) rfl (writeSlotMap_eq _ _ s)
    refine ⟨_, released_serve_of_serving hserving rfl nofun rfl, hstream, hframe, fun hbad => ?_, fun hk hv => ?_⟩
    · obtain ⟨-, -, hanswer, hts⟩ :=
        finish_tableWrite (r := r) (writeSlotMap_of_bad s (hbad.imp_right fun h => decodeSlotMap_eq_none h _)) rfl
      exact ⟨hanswer, hts⟩
    · obtain ⟨x, hx, hbytes⟩ := decodeSlotMap_eq_some hv [y1, y2, y3]
      obtain ⟨-, -, hanswer, hts⟩ := finish_tableWrite (r := r) (writeSlotMap_of_good s (finOfByte_of_lt hk) hx) rfl
      refine ⟨hanswer, x, hbytes, by rw [hts], ?_⟩
      rw [hts, ← Entry.write_eq, ← configuring_of_ne_init hserving.2.1]
  · intro s tag k z1 z2 pa pb pf zone cls policy age0 age1 atSweep startAt auto z3 r hserving hbad
    have hwrite : writeChannel (byteAt r.contents 1) (r.contents.drop 4) s = (s, .badArg) :=
      writeChannel_of_bad s (hbad.imp_right decodeChannel_eq_none)
    have hmeaning : tableWrite writeChannel r s = (s, .badArg, []) := by rw [tableWrite, hwrite]
    have hexec : exec .tableWriteChannel s = .next (finish r (tableWrite writeChannel r s)) :=
      released_serve_of_serving hserving rfl nofun rfl
    rw [hmeaning] at hexec
    exact ⟨_, hexec, finish_of_kept .badArg []⟩
  · intro s tag k z1 z2 x hage r hserving
    obtain ⟨hstream, hframe, hanswer, hts⟩ := finish_tableWrite (r := r) rfl (writeChannel_eq _ _ s)
    refine ⟨_, released_serve_of_serving hserving rfl nofun rfl, hstream, hframe, fun hbad => ?_, fun hk => ?_⟩
    · obtain ⟨-, -, hanswer, hts⟩ := finish_tableWrite (r := r) (writeChannel_of_bad s (.inl hbad)) rfl
      exact ⟨hanswer, hts⟩
    · obtain ⟨hok, hwritten⟩ := writeChannel_of_good s (finOfByte_of_lt hk) (decodeChannel_bytes hage)
      have hts' := hts.trans hwritten
      refine ⟨by exact hok ▸ hanswer, by rw [hts'], ?_⟩
      rw [hts', ← Entry.write_eq]

/-! ## Channel commands (R23, R164) -/

section
variable {s : State} {r : Request} {f : Env → Engine → Engine × ReplyStatus}

/-- A channel number above 15 names no channel. -/
theorem channelCommand_of_bad (h : 16 ≤ (byteAt r.contents 0).toNat) : channelCommand f r s = (s, .badArg, []) := by
  simp only [channelCommand, finOfByte_of_le h]

theorem channelCommand_of_channel {c : ChannelId} (h : byteAt r.contents 0 = byteOf c.val) : channelCommand f r s =
    (s.withEngine c (f (s.env c) (s.engine c)).1, (f (s.env c) (s.engine c)).2, []) := by
  simp only [channelCommand, h, finOfByte_byteOf (by decide : 16 ≤ 256)]

/-- A channel's own engine put back leaves the part. -/
@[simp] theorem withEngine_engine (s : State) (c : ChannelId) : s.withEngine c (s.engine c) = s := by
  simp only [State.withEngine, State.engine, put_get]

/-- What a channel command that leaves RM and MK answers and reaches. -/
theorem finish_channelCommand {c : ChannelId} (h : byteAt r.contents 0 = byteOf c.val)
    (hrm : (f (s.env c) (s.engine c)).1.rm = s.rm) (hmarks : (f (s.env c) (s.engine c)).1.marks = s.marks) :
    (finish r (channelCommand f r s)).mu.stream = s.mu.stream ∧ ChangesOnly [.chans, .mu] s (finish r (channelCommand f r s)) ∧
      Answered r (f (s.env c) (s.engine c)).2 [] s (finish r (channelCommand f r s)) ∧
      (finish r (channelCommand f r s)).chans = put s.chans c (f (s.env c) (s.engine c)).1.ch := by
  rw [channelCommand_of_channel h]
  generalize f (s.env c) (s.engine c) = x at hrm hmarks ⊢
  obtain ⟨hstream, hanswer⟩ := finish_of_mu_eq (r := r) (x := (s.withEngine c x.1, x.2, [])) rfl
  refine ⟨hstream, changesOnly_finish r _ (changesOnly_of fun p => ?_) (by simp), hanswer, finish_chans ..⟩
  cases p with
  | chans | mu => exact .inl (by simp)
  | rm => exact .inr hrm
  | marks => exact .inr hmarks
  | _ => exact .inr rfl

/-- A channel command for a channel that does not exist. -/
theorem exec_channelCommand_of_bad {cmd : Instr} {row : RequestRow} (hserving : Serving r s) (hrow : r.row = some row)
    (hknown : row ≠ .unknownRequestKind) (hfits : lengthFits row r = true) (hbad : 16 ≤ (byteAt r.contents 0).toNat)
    (hexec : exec cmd s = released s (serve row (channelCommand f)) ∨
      exec cmd s = released s (fun u => settle (serve row (channelCommand f) u))) :
    ∃ t, exec cmd s = .next t ∧ Answered r .badArg [] s t ∧ t.chans = s.chans ∧ t.marks = s.marks := by
  have hserve : serve row (channelCommand f) s = finish r (s, .badArg, []) := by
    rw [serve_of_serving hserving hrow hknown hfits, channelCommand_of_bad hbad]
  obtain ⟨-, -, hanswer⟩ := finish_of_kept (r := r) (s := s) .badArg []
  obtain hexec | hexec := hexec <;> rw [hexec, released_eq _ hserving.1, hserve]
  · exact ⟨_, rfl, hanswer, finish_chans .., finish_marks ..⟩
  · exact ⟨_, rfl, answered_settle hanswer, (settle_chans _).trans (finish_chans ..), (settle_marks _).trans (finish_marks ..)⟩

theorem startChannel_of_idle {v : Env} {e : Engine} (h : e.ch.state = .idle) :
    startChannel v e = ({ e with ch := { e.ch with state := .armed, run := e.ch.run + 1#8 } }, .ok) := by
  simp only [startChannel, h]

theorem startChannel_of_closing {v : Env} {e : Engine} (h : e.ch.state = .closing) : startChannel v e = (e, .busy) := by
  simp only [startChannel, h]

theorem startChannel_of_running {v : Env} {e : Engine} (hidle : e.ch.state ≠ .idle) (hclosing : e.ch.state ≠ .closing) :
    startChannel v e = (e, .refused) := by
  unfold startChannel
  split <;> simp_all

theorem startChannel_frame (v : Env) (e : Engine) :
    (startChannel v e).1.rm = e.rm ∧ (startChannel v e).1.marks = e.marks := by
  unfold startChannel
  split <;> exact ⟨rfl, rfl⟩

end

/-- Settles O51, by the channel's state. -/
theorem startArmsAnIdleChannel : Obligations.StartArmsAnIdleChannel := by
  unfold Obligations.StartArmsAnIdleChannel
  refine ⟨?_, ?_⟩
  · intro s tag z1 z2 c r hserving
    obtain ⟨hrm, hmarks⟩ := startChannel_frame (s.env c) (s.engine c)
    obtain ⟨hstream, honly, hanswer, hchans⟩ := finish_channelCommand (r := r) (f := startChannel) rfl hrm hmarks
    refine ⟨_, released_serve_of_serving hserving rfl nofun rfl, hstream, honly, fun hidle => ?_, fun hclosing => ?_,
      fun hidle hclosing => ?_⟩
    · rw [startChannel_of_idle (by exact hidle)] at hanswer hchans
      exact ⟨hanswer, hchans⟩
    · rw [startChannel_of_closing (by exact hclosing)] at hanswer hchans
      exact ⟨hanswer, hchans.trans (put_get _ _)⟩
    · rw [startChannel_of_running (by exact hidle) (by exact hclosing)] at hanswer hchans
      exact ⟨hanswer, hchans.trans (put_get _ _)⟩
  · rintro s tag k code z1 z2 cmd hk (⟨rfl, rfl⟩ | ⟨rfl, rfl⟩ | ⟨rfl, rfl⟩) hserving
    · exact exec_channelCommand_of_bad hserving rfl nofun rfl hk (.inl rfl)
    · exact exec_channelCommand_of_bad hserving rfl nofun rfl hk (.inr rfl)
    · exact exec_channelCommand_of_bad hserving rfl nofun rfl hk (.inr rfl)

end Sys2Proof.Machine
end

section
/-! PROOFS. The Review Port: pins, LOCATE and its scan, DESCRIBE, requests of unknown kind and the bytes of a request (10). -/

namespace Sys2Proof.Machine

open Sys2Proof.Safety

/-! ## Taking a request (R169) -/

section
variable {s : State}

theorem accepts_iff : accepts s = true ↔ s.rp.slot = none ∧ s.rp.hold = false := by
  rw [accepts, Bool.and_eq_true, Option.isNone_iff_eq_none, Bool.not_eq_true']

theorem accepts_eq_false (h : s.rp.slot ≠ none ∨ s.rp.hold = true) : accepts s = false := by
  refine Bool.eq_false_iff.mpr fun ha => ?_
  obtain ⟨hslot, hhold⟩ := accepts_iff.mp ha
  exact h.elim (fun h => h hslot) fun h => by simp [hhold] at h

theorem not_accepting_of_not (h : ¬ (s.rp.slot ≠ none ∨ s.rp.hold = true)) : accepts s = true := by
  obtain ⟨hslot, hhold⟩ := not_or.mp h
  exact accepts_iff.mpr ⟨not_not.mp hslot, Bool.eq_false_iff.mpr hhold⟩

theorem changesOnly_rp (r : ReviewPort) : ChangesOnly [.rp] s { s with rp := r } := changesOnly_of fun p => by
  cases p with
  | rp => exact .inl (by simp)
  | _ => exact .inr rfl

theorem changesOnly_rm_rp (rm : Ring) (r : ReviewPort) : ChangesOnly [.rm, .rp] s { s with rm := rm, rp := r } :=
  changesOnly_of fun p => by
    cases p with
    | rm | rp => exact .inl (by simp)
    | _ => exact .inr rfl

/-- What a response with a free field leaves, and the response it gives (R187). -/
theorem respondOpen_frame (kind : Byte) (st : ReviewStatus) (b : Word16) (s : State) :
    ChangesOnly [.rp, .fresh] s (respondOpen kind st b s) ∧ (respondOpen kind st b s).rp.slot = s.rp.slot ∧
      (respondOpen kind st b s).rp.hold = s.rp.hold ∧ ∃ v, Responded ⟨kind, st, b, v, []⟩ s (respondOpen kind st b s) := by
  refine ⟨changesOnly_of fun p => ?_, rfl, rfl, _, rfl⟩
  cases p with
  | rp | fresh => exact .inl (by simp)
  | _ => exact .inr rfl

theorem blockInRange_iff {b : Word16} : blockInRange b = true ↔ b.toNat < 8192 := decide_eq_true_iff

/-! ## PIN and UNPIN (R87, R88, R172) -/

theorem pinnable_iff {st : BlockState} :
    pinnable st = true ↔ st = .queued ∨ st = .sending ∨ st = .sent ∨ st = .redrain ∨ st = .retired := by
  cases st <;> simp [pinnable]

/-- A pin at RM leaves the free lists, the level, the queues and every other block. -/
theorem Ring.pin_frame (rm : Ring) (b : BlockId) : (rm.pin b).2.free = rm.free ∧ (rm.pin b).2.level = rm.level ∧
    (rm.pin b).2.queues = rm.queues ∧ ∀ b', b' ≠ b → (rm.pin b).2.block b' = rm.block b' := by
  obtain ⟨-, -, h⟩ | ⟨-, -, h⟩ | ⟨-, h⟩ := rm.pin_cases b
  · rw [h]
    exact ⟨Ring.modify_free .., Ring.modify_level .., Ring.modify_queues .., fun _ => Ring.block_modify_ne _⟩
  all_goals rw [h]; exact ⟨rfl, rfl, rfl, fun _ _ => rfl⟩

theorem Ring.pin_of_room {rm : Ring} {b : BlockId} (h : pinnable (rm.block b).state = true) (hpins : (rm.block b).pins < 3) :
    (rm.pin b).1 = .ok ∧ (rm.pin b).2.block b = { rm.block b with pins := (rm.block b).pins + 1 } := by
  obtain ⟨-, -, hpin⟩ | ⟨-, hfull, -⟩ | ⟨hnot, -⟩ := rm.pin_cases b
  · rw [hpin]
    exact ⟨rfl, Ring.block_modify _ (Ring.holds_of_pinnable h)⟩
  · exact absurd hpins (not_lt.mpr hfull)
  · rw [h] at hnot; cases hnot

theorem Ring.pin_of_full {rm : Ring} {b : BlockId} (h : pinnable (rm.block b).state = true) (hpins : 3 ≤ (rm.block b).pins) :
    rm.pin b = (.pinLimit, rm) := by
  obtain ⟨-, hroom, -⟩ | ⟨-, -, hpin⟩ | ⟨hnot, -⟩ := rm.pin_cases b
  · exact absurd hroom (not_lt.mpr hpins)
  · exact hpin
  · rw [h] at hnot; cases hnot

theorem Ring.pin_of_not_pinnable {rm : Ring} {b : BlockId} (h : pinnable (rm.block b).state = false) :
    rm.pin b = (.badState, rm) := by
  obtain ⟨hp, -⟩ | ⟨hp, -⟩ | ⟨-, hpin⟩ := rm.pin_cases b
  · rw [h] at hp; cases hp
  · rw [h] at hp; cases hp
  · exact hpin

variable {b : Word16}

theorem pin_of_accepts (ha : accepts s = true) (hb : b.toNat < 8192) : pin b s =
    respond ⟨2#8, (s.rm.pin b.toNat).1, b, pinsWord (s.rm.pin b.toNat).2 b, []⟩ { s with rm := (s.rm.pin b.toNat).2 } := by
  rw [pin, ha, blockInRange_iff.mpr hb]
  rfl

theorem unpin_of_accepts (ha : accepts s = true) (hb : b.toNat < 8192) : unpin b s =
    respond ⟨3#8, (s.rm.unpin s.ts.settings b.toNat).1, b, pinsWord (s.rm.unpin s.ts.settings b.toNat).2 b, []⟩
      { s with rm := (s.rm.unpin s.ts.settings b.toNat).2 } := by
  rw [unpin, ha, blockInRange_iff.mpr hb]
  rfl

/-- A PIN of a busy port or of a block that does not exist. -/
theorem pin_of_not_accepted (h : 8192 ≤ b.toNat ∨ s.rp.slot ≠ none ∨ s.rp.hold = true) : pin b s =
    respondOpen 2#8 (if s.rp.slot ≠ none ∨ s.rp.hold = true then .busy else .badArg) b s := by
  by_cases hbusy : s.rp.slot ≠ none ∨ s.rp.hold = true
  · rw [pin, accepts_eq_false hbusy, if_pos hbusy]; rfl
  · have hrange : blockInRange b = false :=
      Bool.eq_false_iff.mpr fun hr => absurd (blockInRange_iff.mp hr) (not_lt.mpr (h.resolve_right hbusy))
    rw [pin, not_accepting_of_not hbusy, hrange, if_neg hbusy]; rfl

theorem unpin_of_not_accepted (h : 8192 ≤ b.toNat ∨ s.rp.slot ≠ none ∨ s.rp.hold = true) : unpin b s =
    respondOpen 3#8 (if s.rp.slot ≠ none ∨ s.rp.hold = true then .busy else .badArg) b s := by
  by_cases hbusy : s.rp.slot ≠ none ∨ s.rp.hold = true
  · rw [unpin, accepts_eq_false hbusy, if_pos hbusy]; rfl
  · have hrange : blockInRange b = false :=
      Bool.eq_false_iff.mpr fun hr => absurd (blockInRange_iff.mp hr) (not_lt.mpr (h.resolve_right hbusy))
    rw [unpin, not_accepting_of_not hbusy, hrange, if_neg hbusy]; rfl

theorem exec_pin (hpin : s.su.resetLow = false) : exec (.pin b) s = .next (pin b s) := released_eq _ hpin

theorem exec_unpin (hpin : s.su.resetLow = false) : exec (.unpin b) s = .next (unpin b s) := released_eq _ hpin

end

theorem pinsWord_eq {rm : Ring} {b : Word16} {n : Nat} (h : (rm.block b.toNat).pins = n) : pinsWord rm b = BitVec.ofNat 16 n :=
  congrArg _ h

/-- Settles O57: a pin by its three outcomes at RM, an unpin by O23, and a request that is not taken by its answer. -/
theorem pinsAreCountedAndAnswered : Obligations.PinsAreCountedAndAnswered := by
  unfold Obligations.PinsAreCountedAndAnswered
  refine ⟨fun s b hidle hb => ?_, fun s b hidle hb hblocks => ?_, fun s b c kind hpin hcmd hrefused => ?_⟩
  · obtain ⟨hpin, hslot, hhold⟩ := hidle
    obtain ⟨hfree, hlevel, hqueues, hother⟩ := s.rm.pin_frame b.toNat
    refine ⟨_, (exec_pin hpin).trans (congrArg _ (pin_of_accepts (accepts_iff.mpr ⟨hslot, hhold⟩) hb)), changesOnly_rm_rp _ _,
      hslot, hhold, hfree, hlevel, hqueues, hother, fun hsealed hroom => ?_, fun hsealed hfull => ?_, fun hnot => ?_⟩
    · obtain ⟨hok, hblock⟩ := Ring.pin_of_room (pinnable_iff.mpr hsealed) hroom
      refine ⟨hblock, ?_⟩
      rw [hok, pinsWord_eq (congrArg Descriptor.pins hblock)]
      rfl
    · rw [Ring.pin_of_full (pinnable_iff.mpr hsealed) hfull]
      exact ⟨rfl, rfl⟩
    · rw [Ring.pin_of_not_pinnable (Bool.eq_false_iff.mpr fun hp => hnot (pinnable_iff.mp hp))]
      exact ⟨rfl, rfl⟩
  · obtain ⟨hpin, hslot, hhold⟩ := hidle
    obtain ⟨hrising, hkeys, -⟩ := hblocks
    obtain ⟨hnone, hsome⟩ := unpinFreesARetiredBlock s.ts.settings s.rm b.toNat hrising fun e he =>
      ⟨(hkeys e he).1, (hkeys e he).2.2.2⟩
    have hexec := (exec_unpin hpin).trans (congrArg _ (unpin_of_accepts (accepts_iff.mpr ⟨hslot, hhold⟩) hb))
    by_cases hpins : (s.rm.block b.toNat).pins = 0
    · rw [hnone hpins] at hexec
      refine ⟨_, hexec, changesOnly_rm_rp _ _, hslot, hhold, fun _ _ => rfl, rfl, fun _ => ⟨rfl, ?_⟩, fun h => absurd hpins h⟩
      rw [pinsWord_eq hpins]
      rfl
    · obtain ⟨rm', hunpin, hother, hlast, hstays, hqueues⟩ := hsome hpins
      rw [hunpin] at hexec
      refine ⟨_, hexec, changesOnly_rm_rp _ _, hslot, hhold, hother, hqueues, fun h => absurd h hpins, fun _ => ⟨?_, ?_, ?_⟩⟩
      · have hcount : (rm'.block b.toNat).pins = (s.rm.block b.toNat).pins - 1 := by
          by_cases hl : (s.rm.block b.toNat).state = .retired ∧ (s.rm.block b.toNat).pins = 1
          · rw [(hlast hl).1, hl.2]; rfl
          · rw [(hstays hl).1]
        rw [pinsWord_eq hcount]
        rfl
      · intro hretired hone
        obtain ⟨hblock, -, hcount, hlevel⟩ := hlast ⟨hretired, hone⟩
        exact ⟨hblock, hcount, hlevel⟩
      · intro hnot
        obtain ⟨hblock, hfree, hlevel, -⟩ := hstays hnot
        exact ⟨hblock, hfree, hlevel⟩
  · obtain ⟨rfl, rfl⟩ | ⟨rfl, rfl⟩ := hcmd
    · exact ⟨_, (exec_pin hpin).trans (congrArg _ (pin_of_not_accepted hrefused)), respondOpen_frame ..⟩
    · exact ⟨_, (exec_unpin hpin).trans (congrArg _ (unpin_of_not_accepted hrefused)), respondOpen_frame ..⟩

end Sys2Proof.Machine
end

section
/-! PROOFS. LOCATE and its scan (R170, R171), DESCRIBE and requests of unknown kind (R169, R172), and the bytes of a request (R187). -/

namespace Sys2Proof.Machine

open Sys2Proof.Safety

section
variable {s : State}

/-! ## LOCATE (R170) -/

theorem indexWithin_iff {index : Word64} {d : Descriptor} : indexWithin index d = true ↔
    ∃ lo hi, d.firstIndex = some lo ∧ d.lastIndex = some hi ∧ (index - lo).toNat ≤ (hi - lo).toNat := by
  unfold indexWithin
  constructor
  · intro h
    split at h
    · next lo hi hlo hhi => exact ⟨lo, hi, hlo, hhi, of_decide_eq_true h⟩
    · cases h
  · rintro ⟨lo, hi, hlo, hhi, h⟩
    rw [hlo, hhi]
    exact decide_eq_true h

theorem locateMatches_iff {c : ChannelId} {run : Byte} {index : Word64} {d : Descriptor} :
    locateMatches c run index d = true ↔
      (d.state = .queued ∨ d.state = .sending ∨ d.state = .sent ∨ d.state = .redrain ∨ d.state = .retired) ∧ d.owner = some c ∧
        d.run = some run ∧ ∃ lo hi, d.firstIndex = some lo ∧ d.lastIndex = some hi ∧ (index - lo).toNat ≤ (hi - lo).toNat := by
  rw [← pinnable_iff, ← indexWithin_iff]
  simp [locateMatches, and_assoc]

/-- A block that matches can be pinned. -/
theorem pinnable_of_matches {c : ChannelId} {run : Byte} {index : Word64} {d : Descriptor} (h : locateMatches c run index d = true) :
    pinnable d.state = true :=
  pinnable_iff.mpr (locateMatches_iff.mp h).1

theorem locate_of_accepts {channel run : Byte} {index : Word64} {c : ChannelId} (ha : accepts s = true)
    (hc : finOfByte 16 channel = some c) :
    locate channel run index s = { s with rp := { s.rp with slot := some (.locate c run index 0) } } := by
  simp only [locate, ha, if_true, hc]

theorem locate_of_bad {channel run : Byte} {index : Word64} (ha : accepts s = true) (hc : 16 ≤ channel.toNat) :
    locate channel run index s = respond ⟨1#8, .badArg, 0xFFFF#16, 0#16, []⟩ s := by
  simp only [locate, ha, if_true, finOfByte_of_le hc]
  rfl

theorem locate_of_busy {channel run : Byte} {index : Word64} (ha : accepts s = false) :
    locate channel run index s = respond ⟨1#8, .busy, 0xFFFF#16, 0#16, []⟩ s := by
  rw [locate, ha]
  rfl

theorem changesOnly_locate (channel run : Byte) (index : Word64) (s : State) : ChangesOnly [.rp] s (locate channel run index s) := by
  unfold locate
  split
  · split
    · exact changesOnly_rp _
    · exact changesOnly_rp _
  · exact changesOnly_rp _

variable {c : ChannelId} {run : Byte} {index : Word64} {b : BlockId}

/-- The scan at an entry that matches ends there. -/
theorem scanStep_of_match (hslot : s.rp.slot = some (.locate c run index b))
    (h : locateMatches c run index (s.rm.block b) = true) : scanStep s = locateFound b s := by
  simp only [scanStep, hslot, h, if_true]

/-- The scan at any other entry passes on to the next. -/
theorem scanStep_of_pass (hslot : s.rp.slot = some (.locate c run index b)) (h : locateMatches c run index (s.rm.block b) = false)
    (hb : b < 8191) : scanStep s = { s with rp := { s.rp with slot := some (.locate c run index (b + 1)) } } := by
  have hmore : b + 1 < Config.blockCount := Nat.succ_lt_succ hb
  simp only [scanStep, hslot, h, hmore, if_true, Bool.false_eq_true, if_false]

/-- Past the last entry the LOCATE is answered NOT_FOUND. -/
theorem scanStep_of_last (hslot : s.rp.slot = some (.locate c run index 8191))
    (h : locateMatches c run index (s.rm.block 8191) = false) :
    scanStep s = emptySlot (respond ⟨1#8, .notFound, 0xFFFF#16, 0#16, []⟩ s) := by
  have hlast : ¬ 8191 + 1 < Config.blockCount := by decide
  simp only [scanStep, hslot, h, hlast, Bool.false_eq_true, if_false]
  rfl

/-- A block found with room for a pin takes it, and the answer gives the descriptor with it. -/
theorem locateFound_of_room (h : locateMatches c run index (s.rm.block b) = true) (hpins : (s.rm.block b).pins < 3) :
    (locateFound b s).rm.block b = { s.rm.block b with pins := (s.rm.block b).pins + 1 } ∧
      (∀ b', b' ≠ b → (locateFound b s).rm.block b' = s.rm.block b') ∧
      Responded ⟨1#8, .ok, BitVec.ofNat 16 b, 0#16, ((locateFound b s).rm.block b).bytes b⟩ s (locateFound b s) := by
  obtain ⟨hok, hblock⟩ := Ring.pin_of_room (pinnable_of_matches h) hpins
  obtain ⟨-, -, -, hother⟩ := s.rm.pin_frame b
  refine ⟨hblock, hother, ?_⟩
  change _ = _
  rw [← hok]
  rfl

/-- A block found with its three pins is answered PIN_LIMIT, and RM is left as it is. -/
theorem locateFound_of_full (h : locateMatches c run index (s.rm.block b) = true) (hpins : 3 ≤ (s.rm.block b).pins) :
    locateFound b s = emptySlot (respond ⟨1#8, .pinLimit, BitVec.ofNat 16 b, 0#16, (s.rm.block b).bytes b⟩ s) := by
  rw [locateFound, Ring.pin_of_full (pinnable_of_matches h) hpins]
  rfl

theorem changesOnly_scanStep (s : State) : ChangesOnly [.rp, .rm] s (scanStep s) := by
  unfold scanStep
  split
  · split
    · exact changesOnly_mono (by simp) (changesOnly_rm_rp (s := s) (s.rm.pin _).2 _)
    · split
      · exact changesOnly_mono (by simp) (changesOnly_rp (s := s) _)
      · exact changesOnly_mono (by simp) (changesOnly_rp (s := s) _)
  · exact changesOnly_refl _ s

/-! ## DESCRIBE and unknown kinds (R169, R172) -/

theorem describe_of_block {b : Word16} (ha : accepts s = true) (hb : b.toNat < 8192) :
    describe b s = respond ⟨5#8, .ok, b, 0#16, (s.rm.block b.toNat).bytes b.toNat⟩ s := by
  rw [describe, ha, blockInRange_iff.mpr hb]
  rfl

theorem describe_of_bad {b : Word16} (ha : accepts s = true) (hb : 8192 ≤ b.toNat) :
    describe b s = respond ⟨5#8, .badArg, b, 0#16, []⟩ s := by
  have hrange : blockInRange b = false := Bool.eq_false_iff.mpr fun hr => absurd (blockInRange_iff.mp hr) (not_lt.mpr hb)
  rw [describe, ha, hrange]
  rfl

theorem describe_of_busy {b : Word16} (ha : accepts s = false) : describe b s = respond ⟨5#8, .busy, b, 0#16, []⟩ s := by
  rw [describe, ha]
  rfl

theorem describe_frame (b : Word16) (s : State) : ChangesOnly [.rp] s (describe b s) ∧ (describe b s).rp.slot = s.rp.slot := by
  unfold describe
  split
  · exact ⟨changesOnly_rp _, rfl⟩
  · split <;> exact ⟨changesOnly_rp _, rfl⟩

theorem unknownReview_eq (kind : Byte) (s : State) : unknownReview kind s =
    respond ⟨kind, if s.rp.slot ≠ none ∨ s.rp.hold = true then .busy else .badArg, 0xFFFF#16, 0#16, []⟩ s := by
  by_cases hbusy : s.rp.slot ≠ none ∨ s.rp.hold = true
  · rw [unknownReview, accepts_eq_false hbusy, if_pos hbusy]; rfl
  · rw [unknownReview, not_accepting_of_not hbusy, if_neg hbusy]; rfl

end

/-! ## The bytes of a request (R187) -/

/-- A byte below a word, as a number. -/
theorem toNat_append_byte {w : Nat} (x : BitVec w) (y : Byte) : (x ++ y).toNat = y.toNat + 256 * x.toNat := by
  have h := Nat.shiftLeft_add_eq_or_of_lt (i := 8) y.isLt x.toNat
  rw [BitVec.toNat_append, ← h, Nat.shiftLeft_eq]
  omega

theorem ofNat_leNat_two (a b : Byte) : BitVec.ofNat 16 (leNat [a, b]) = b ++ a := by
  refine BitVec.eq_of_toNat_eq ?_
  simp only [BitVec.toNat_ofNat, leNat, toNat_append_byte]
  omega

theorem ofNat_leNat_four (a b c d : Byte) : BitVec.ofNat 32 (leNat [a, b, c, d]) = d ++ c ++ b ++ a := by
  refine BitVec.eq_of_toNat_eq ?_
  simp only [BitVec.toNat_ofNat, leNat, toNat_append_byte]
  omega

theorem ofNat_leNat_eight (a b c d e f g h : Byte) :
    BitVec.ofNat 64 (leNat [a, b, c, d, e, f, g, h]) = h ++ g ++ f ++ e ++ d ++ c ++ b ++ a := by
  refine BitVec.eq_of_toNat_eq ?_
  simp only [BitVec.toNat_ofNat, leNat, toNat_append_byte]
  omega

/-- The command of the twelve bytes, by the kind code. -/
theorem decodeReviewRequest_command (b0 b1 b2 b3 b4 b5 b6 b7 b8 b9 b10 b11 : Byte) :
    (decodeReviewRequest [b0, b1, b2, b3, b4, b5, b6, b7, b8, b9, b10, b11]).map ReviewCall.command = some (
      if b0 = 1#8 then .locate b2 b3 (b11 ++ b10 ++ b9 ++ b8 ++ b7 ++ b6 ++ b5 ++ b4)
      else if b0 = 2#8 then .pin (b3 ++ b2)
      else if b0 = 3#8 then .unpin (b3 ++ b2)
      else if b0 = 4#8 then .read (b3 ++ b2) (b7 ++ b6 ++ b5 ++ b4) (b9 ++ b8)
      else if b0 = 5#8 then .describe (b3 ++ b2)
      else .unknownReviewKind b0) := by
  rw [← ofNat_leNat_eight, ← ofNat_leNat_four, ← ofNat_leNat_two, ← ofNat_leNat_two]
  by_cases h1 : b0 = 1#8
  · subst h1; rfl
  by_cases h2 : b0 = 2#8
  · subst h2; rfl
  by_cases h3 : b0 = 3#8
  · subst h3; rfl
  by_cases h4 : b0 = 4#8
  · subst h4; rfl
  by_cases h5 : b0 = 5#8
  · subst h5; rfl
  rw [if_neg h1, if_neg h2, if_neg h3, if_neg h4, if_neg h5]
  have hbyte : byteAt [b0, b1, b2, b3, b4, b5, b6, b7, b8, b9, b10, b11] 0 = b0 := rfl
  have hother : decodeReviewBody [b0, b1, b2, b3, b4, b5, b6, b7, b8, b9, b10, b11] = .unknown b0 := by
    unfold decodeReviewBody
    rw [hbyte]
    split
    case h_6 => rfl
    all_goals bv_omega
  exact congrArg (fun x => some (ReviewCall.command x)) hother

/-- Settles O59, request by request. -/
theorem locateDescribeAndUnknownKinds : Obligations.LocateDescribeAndUnknownKinds := by
  unfold Obligations.LocateDescribeAndUnknownKinds
  refine ⟨fun s channel run index hpin => ?_, fun s c run index b hpin hb hslot => ?_, fun s b hpin => ?_,
    decodeReviewRequest_command, fun bytes hlen => if_neg hlen, fun s kind hpin _ => ?_⟩
  · refine ⟨_, released_eq _ hpin, changesOnly_locate channel run index s, fun hslot hhold hc => ?_, fun hslot hhold hc => ?_,
      fun hbusy => ?_⟩
    · rw [locate_of_accepts (accepts_iff.mpr ⟨hslot, hhold⟩) (finOfByte_of_lt hc)]
    · rw [locate_of_bad (accepts_iff.mpr ⟨hslot, hhold⟩) hc]
      exact ⟨hslot, rfl⟩
    · rw [locate_of_busy (accepts_eq_false hbusy)]
      exact ⟨rfl, rfl⟩
  · refine ⟨_, released_eq _ hpin, changesOnly_scanStep s, ?_⟩
    cases hmatch : locateMatches c run index (s.rm.block b) with
    | true =>
      rw [if_pos (locateMatches_iff.mp hmatch), scanStep_of_match hslot hmatch]
      refine ⟨rfl, fun hroom => ?_, fun hfull => ?_⟩
      · obtain ⟨hblock, hother, hanswer⟩ := locateFound_of_room hmatch hroom
        exact ⟨hblock, hother, hblock ▸ hanswer⟩
      · rw [locateFound_of_full hmatch hfull]
        exact ⟨rfl, rfl⟩
    | false =>
      rw [if_neg fun h => Bool.eq_false_iff.mp hmatch (locateMatches_iff.mpr h)]
      obtain hlt | rfl := Nat.lt_or_eq_of_le (Nat.le_of_lt_succ hb)
      · rw [scanStep_of_pass hslot hmatch hlt]
        exact ⟨rfl, fun _ => rfl, fun h => absurd h (Nat.ne_of_lt hlt)⟩
      · rw [scanStep_of_last hslot hmatch]
        exact ⟨rfl, fun h => absurd h (Nat.lt_irrefl _), fun _ => ⟨rfl, rfl⟩⟩
  · obtain ⟨honly, hslot⟩ := describe_frame b s
    refine ⟨_, released_eq _ hpin, honly, hslot, fun hslot hhold hb => ?_, fun hslot hhold hb => ?_, fun hbusy => ?_⟩
    · rw [describe_of_block (accepts_iff.mpr ⟨hslot, hhold⟩) hb]; rfl
    · rw [describe_of_bad (accepts_iff.mpr ⟨hslot, hhold⟩) hb]; rfl
    · rw [describe_of_busy (accepts_eq_false hbusy)]; rfl
  · refine ⟨_, released_eq _ hpin, ?_⟩
    rw [unknownReview_eq]
    exact ⟨changesOnly_rp _, rfl, rfl⟩

end Sys2Proof.Machine
end

section
/-! PROOFS. A LOCATE whose scan runs undisturbed (R170, R171). -/

namespace Sys2Proof.Machine

open Sys2Proof.Safety

theorem core_run_succ (M : Host.Core) {k : Nat} {s t : M.State} (h : M.step s = .next t) : M.run (k + 1) s = M.run k t := by
  rw [Host.Core.run, h]

/-- A run takes the front command first. -/
theorem run_succ {c : Instr} {rest : List Instr} {s t : State} (k : Nat) (hpending : s.pending = c :: rest)
    (hexec : exec c { s with pending := rest } = .next t) : Sys2Proof.core.run (k + 1) s = Sys2Proof.core.run k t := by
  have hstep : Sys2Proof.core.step s = .next t := by
    change step s = _
    rw [step, hpending]
    exact hexec
  exact core_run_succ Sys2Proof.core hstep

/-- The part with the scan of a LOCATE at entry `b` and `n` scan steps waiting. -/
def scanning (s : State) (c : ChannelId) (run : Byte) (index : Word64) (b : Nat) (n : Nat) : State :=
  { s with rp := { s.rp with slot := some (.locate c run index b) }, pending := List.replicate n .locateScanStep }

section
variable {s : State} {c : ChannelId} {run : Byte} {index : Word64}

/-- A scan passes the entries that do not match, one step each. -/
theorem run_scanning_pass (hpin : s.su.resetLow = false) (m k : Nat) : ∀ (n b : Nat), b + n ≤ 8191 →
    (∀ b', b ≤ b' → b' < b + n → locateMatches c run index (s.rm.block b') = false) →
    Sys2Proof.core.run (n + m) (scanning s c run index b (n + k)) = Sys2Proof.core.run m (scanning s c run index (b + n) k)
  | 0, b, _, _ => by rw [Nat.zero_add, Nat.zero_add, Nat.add_zero]
  | n + 1, b, hlast, hpass => by
    have hhead : locateMatches c run index (s.rm.block b) = false := hpass b le_rfl (by omega)
    have hmore : b < 8191 := by omega
    have hscan : exec .locateScanStep (scanning s c run index b (n + k)) = .next (scanning s c run index (b + 1) (n + k)) :=
      (released_eq (s := scanning s c run index b (n + k)) _ hpin).trans
        (congrArg _ (scanStep_of_pass (s := scanning s c run index b (n + k)) rfl hhead hmore))
    have hrest := run_scanning_pass hpin m k n (b + 1) (by omega) fun b' hle hlt => hpass b' (by omega) (by omega)
    rw [Nat.add_right_comm n 1 m, Nat.add_right_comm n 1 k, run_succ _ rfl hscan, hrest, Nat.add_right_comm b 1 n]
    rfl

/-- The first step of a LOCATE at an idle port starts the scan. -/
theorem run_locate (hidle : ReviewIdle s) (k n : Nat) :
    Sys2Proof.core.run (k + 1) { s with pending := .locate (byteOf c.val) run index :: List.replicate n .locateScanStep } =
      Sys2Proof.core.run k (scanning s c run index 0 n) := by
  obtain ⟨hpin, hslot, hhold⟩ := hidle
  let idle : State := { s with pending := List.replicate n .locateScanStep }
  have hlocate : locate (byteOf c.val) run index idle = scanning s c run index 0 n :=
    locate_of_accepts (s := idle) (accepts_iff.mpr ⟨hslot, hhold⟩) (finOfByte_byteOf (by decide : 16 ≤ 256) c)
  exact run_succ k rfl ((released_eq (s := idle) _ hpin).trans (congrArg _ hlocate))

/-- A LOCATE run up to the scan's step at entry `b`, the entries before which do not match, answers what that step gives. -/
theorem run_locate_to (hidle : ReviewIdle s) {b : Nat} (hb : b ≤ 8191)
    (hpass : ∀ b', b' < b → locateMatches c run index (s.rm.block b') = false) :
    Sys2Proof.core.run (b + 2)
        { s with pending := .locate (byteOf c.val) run index :: List.replicate (b + 1) .locateScanStep } =
      .next (scanStep (scanning s c run index b 0)) := by
  have hpin := hidle.1
  have hscan := run_scanning_pass (c := c) (run := run) (index := index) hpin 1 1 b 0 (by omega) fun b' _ hlt =>
    hpass b' (by omega)
  rw [run_locate hidle (b + 1) (b + 1), hscan, Nat.zero_add]
  exact run_succ 0 rfl (released_eq (s := scanning s c run index b 0) _ hpin)

end

/-- Settles O60: the scan passes every entry before the one it stops at. -/
theorem locateFindsTheLowestMatch : Obligations.LocateFindsTheLowestMatch := by
  unfold Obligations.LocateFindsTheLowestMatch
  intro s c run index hidle
  refine ⟨fun b hb hmatch hroom hpass => ?_, fun b hb hmatch hfull hpass => ?_, fun hpass => ?_⟩
  · refine ⟨_, run_locate_to hidle (Nat.le_of_lt_succ hb) hpass, ?_⟩
    rw [scanStep_of_match rfl (by exact hmatch)]
    obtain ⟨hblock, hother, hanswer⟩ := locateFound_of_room (s := scanning s c run index b 0) (by exact hmatch) (by exact hroom)
    exact ⟨rfl, rfl, hblock, hother, hanswer⟩
  · refine ⟨_, run_locate_to hidle (Nat.le_of_lt_succ hb) hpass, ?_⟩
    rw [scanStep_of_match rfl (by exact hmatch), locateFound_of_full (by exact hmatch) (by exact hfull)]
    exact ⟨rfl, rfl, rfl, rfl⟩
  · refine ⟨_, run_locate_to hidle (b := 8191) le_rfl fun b' hb' => hpass b' (Nat.lt_succ_of_lt hb'), ?_⟩
    rw [scanStep_of_last rfl (by exact hpass 8191 (Nat.lt_succ_self 8191))]
    exact ⟨rfl, rfl, rfl, rfl⟩

end Sys2Proof.Machine
end

section
/-! PROOFS. The plane arbiters: what a channel offers, the choice of a channel, the grant order, and that a grant on one plane does
not reach another plane's choice (R95 to R99). -/

namespace Sys2Proof.Machine

open Sys2Proof.Safety

section
variable {s : State} {p : PlaneId} {c : ChannelId}

/-! ## What a channel offers (R97, R99) -/

theorem headerOffer_eq_some {w : WaitingHeader} :
    headerOffer s c = some w ↔ ¬ HeaderGoing s c ∧ ∃ rest, (s.chans[c]).waiting = w :: rest := by
  rw [← headerWriting_iff]
  unfold headerOffer
  split
  · next h => simp [h]
  · next h => rw [List.head?_eq_some_iff, and_iff_right h]

/-- The piece of the oldest run that a channel offers on plane `p` (R97, R99). -/
def payloadPiece (s : State) (p : PlaneId) (c : ChannelId) : Option Access := intakeAccess.payloadAccess s p c

theorem intakeAccess_of_header {w : WaitingHeader} (h : headerOffer s c = some w) (hp : planeOf w.block = p) :
    intakeAccess s p c = some (.headerWrite c w.block w.offset w.header.bytes true) := by
  simp only [intakeAccess, h, hp, if_true]

theorem intakeAccess_of_no_header (h : ∀ w, headerOffer s c = some w → planeOf w.block ≠ p) :
    intakeAccess s p c = payloadPiece s p c := by
  unfold intakeAccess
  split
  · next w hw => exact if_neg (h w hw)
  · rfl

theorem payloadPiece_of_run {r : StagedRun} (h : payloadOffer s c = some r) (hp : planeOf r.block = p) : payloadPiece s p c =
    some (.payloadWrite c r.block (r.recordOffset + 32 + r.written) (r.pending.take 512) true) := by
  simp only [payloadPiece, intakeAccess.payloadAccess, h, hp, if_true]
  rfl

theorem payloadPiece_of_no_run (h : ∀ r, payloadOffer s c = some r → planeOf r.block ≠ p) : payloadPiece s p c = none := by
  unfold payloadPiece intakeAccess.payloadAccess
  split
  · next r hr => exact if_neg (h r hr)
  · rfl

theorem payloadOffer_eq_some {r : StagedRun} : payloadOffer s c = some r ↔
    ∃ rest, (s.chans[c]).runs = r :: rest ∧ r.pending ≠ [] ∧ ¬ PayloadGoing s c := by
  rw [← payloadWriting_iff]
  unfold payloadOffer
  split
  · next hnil =>
    refine iff_of_false nofun ?_
    rintro ⟨rest, hcons, -⟩
    rw [hnil] at hcons
    cases hcons
  · next r' rest hcons =>
    simp only [hcons, Bool.or_eq_true, List.isEmpty_iff, Option.ite_none_left_eq_some, Option.some.injEq,
      List.cons.injEq, not_or]
    constructor
    · rintro ⟨⟨hne, hgo⟩, rfl⟩; exact ⟨rest, ⟨rfl, rfl⟩, hne, hgo⟩
    · rintro ⟨rest', ⟨rfl, rfl⟩, hne, hgo⟩; exact ⟨⟨hne, hgo⟩, rfl⟩

/-- A channel whose oldest header is being written, or targets another plane, offers no header on plane `p`. -/
theorem headerOffer_elsewhere (h : HeaderGoing s c ∨ ∀ w rest, (s.chans[c]).waiting = w :: rest → planeOf w.block ≠ p)
    (w : WaitingHeader) (hw : headerOffer s c = some w) : planeOf w.block ≠ p := by
  obtain ⟨hgo, rest, hwait⟩ := headerOffer_eq_some.mp hw
  exact (h.resolve_left hgo) w rest hwait

/-! ## The choice of a channel (R96, R98) -/

/-- The first member of a rising list for which a search succeeds. -/
theorem findSome_of_rising {α β : Type} [LinearOrder α] {l : List α} {f : α → Option β} {b : β} (hl : l.Pairwise (· < ·))
    (h : l.findSome? f = some b) : ∃ a, f a = some b ∧ ∀ x ∈ l, x < a → f x = none := by
  obtain ⟨l1, a, l2, rfl, ha, hnone⟩ := List.findSome?_eq_some_iff.mp h
  refine ⟨a, ha, fun x hx hlt => hnone x ?_⟩
  obtain hx | hx := List.mem_append.mp hx
  · exact hx
  · obtain ⟨-, hrest, -⟩ := List.pairwise_append.mp hl
    obtain rfl | hx := List.mem_cons.mp hx
    · exact absurd hlt (lt_irrefl _)
    · exact absurd hlt (lt_asymm (List.rel_of_pairwise_cons hrest hx))

/-- What a search of the channels gives at channel `c`. -/
def intakeOffer (s : State) (p : PlaneId) (u : Bool) (c : ChannelId) : Option (ChannelId × Access) :=
  if u && !(s.chans[c]).urgent then none else (intakeAccess s p c).map fun a => (c, a)

theorem intakeOffer_eq_none {u : Bool} :
    intakeOffer s p u c = none ↔ intakeAccess s p c = none ∨ (u = true ∧ (s.chans[c]).urgent = false) := by
  unfold intakeOffer
  split
  · next h => simp_all
  · next h => cases hu : (s.chans[c]).urgent <;> simp_all

theorem intakeOffer_eq_some {u : Bool} {x : ChannelId × Access} : intakeOffer s p u c = some x ↔
    x.1 = c ∧ intakeAccess s p c = some x.2 ∧ (u = true → (s.chans[c]).urgent = true) := by
  unfold intakeOffer
  obtain ⟨d, a⟩ := x
  split
  · next h => cases hu : (s.chans[c]).urgent <;> simp_all
  · next h =>
    simp only [Option.map_eq_some_iff, Prod.mk.injEq]
    constructor
    · rintro ⟨a', ha, rfl, rfl⟩; exact ⟨rfl, ha, by cases u <;> simp_all⟩
    · rintro ⟨rfl, ha, -⟩; exact ⟨a, ha, rfl, rfl⟩

theorem intakeChoice_eq (s : State) (p : PlaneId) (u : Bool) : intakeChoice s p u =
    allChannels.findSome? fun i => intakeOffer s p u ((s.planes[p]).pointer + 1 + i) := List.findSome?_map

theorem channel_after_pointer (pointer d : ChannelId) : pointer + 1 + (d - pointer - 1) = d := by abel

/-- The channel chosen offers the access, and no channel searched before it does. -/
theorem intakeChoice_eq_some {u : Bool} {a : Access} (h : intakeChoice s p u = some (c, a)) :
    intakeAccess s p c = some a ∧ (u = true → (s.chans[c]).urgent = true) ∧
      ∀ d : ChannelId, d - (s.planes[p]).pointer - 1 < c - (s.planes[p]).pointer - 1 → intakeOffer s p u d = none := by
  rw [intakeChoice_eq] at h
  obtain ⟨i, hi, hbefore⟩ := findSome_of_rising (by decide) h
  obtain ⟨rfl, ha, hu⟩ := intakeOffer_eq_some.mp hi
  refine ⟨ha, hu, fun d hd => ?_⟩
  have hd' : d - (s.planes[p]).pointer - 1 < i := hd.trans_eq (by abel)
  have := hbefore _ (mem_allChannels _) hd'
  rwa [channel_after_pointer] at this

theorem intakeChoice_eq_none {u : Bool} : intakeChoice s p u = none ↔ ∀ c, intakeOffer s p u c = none := by
  rw [intakeChoice_eq, List.findSome?_eq_none_iff]
  refine ⟨fun h c => ?_, fun h i _ => h _⟩
  have := h _ (mem_allChannels (c - (s.planes[p]).pointer - 1))
  rwa [channel_after_pointer] at this

/-- The choice depends on the pointer and on what the channels offer. -/
theorem intakeChoice_congr {t : State} (hpointer : (t.planes[p]).pointer = (s.planes[p]).pointer) (hchans : t.chans = s.chans)
    (hoffers : ∀ c, intakeAccess t p c = intakeAccess s p c) (u : Bool) : intakeChoice t p u = intakeChoice s p u := by
  simp only [intakeChoice_eq, intakeOffer, hpointer, hchans, hoffers]

/-! ## The grant order (R95) -/

theorem grantOrder_of_refresh (h : 8 ≤ (s.planes[p]).owed) : grantOrder s p = (s.planes[p]).grantRefresh := if_pos h

variable (howed : (s.planes[p]).owed < 8)
include howed

theorem grantOrder_of_urgent {x : ChannelId × Access} (h : intakeChoice s p true = some x) :
    grantOrder s p = (s.planes[p]).grantIntake x := by
  have hnot : ¬ Config.owedMax ≤ (s.planes[p]).owed := not_le.mpr howed
  simp only [grantOrder, if_neg hnot, h]

variable (hurgent : intakeChoice s p true = none)
include hurgent

theorem grantOrder_of_reads : grantOrder s p = grantReads s p := by
  have hnot : ¬ Config.owedMax ≤ (s.planes[p]).owed := not_le.mpr howed
  simp only [grantOrder, if_neg hnot, hurgent]

theorem grantOrder_of_drain {k : LoadClaim} {rest : List LoadClaim} (h : (s.planes[p]).drain = k :: rest) :
    grantOrder s p = { s.planes[p] with port := some (.halfLoad k.half k.block k.offset k.length), drain := rest } := by
  rw [grantOrder_of_reads howed hurgent]
  simp only [grantReads, h]

variable (hdrain : (s.planes[p]).drain = [])
include hdrain

theorem grantOrder_of_review {r : ReadClaim} (h : (s.planes[p]).review = some r) :
    grantOrder s p = { s.planes[p] with port := some (.reviewRead r.block r.offset r.length true), review := none } := by
  rw [grantOrder_of_reads howed hurgent]
  simp only [grantReads, hdrain, h]

variable (hreview : (s.planes[p]).review = none)
include hreview

theorem grantOrder_of_low : grantOrder s p = grantLow s p := by
  rw [grantOrder_of_reads howed hurgent]
  simp only [grantReads, hdrain, hreview]

theorem grantOrder_of_intake {x : ChannelId × Access} (h : intakeChoice s p false = some x) :
    grantOrder s p = (s.planes[p]).grantIntake x := by
  rw [grantOrder_of_low howed hurgent hdrain hreview]
  simp only [grantLow, h]

variable (hintake : intakeChoice s p false = none)
include hintake

theorem grantOrder_of_owed (h : 0 < (s.planes[p]).owed) : grantOrder s p = (s.planes[p]).grantRefresh := by
  rw [grantOrder_of_low howed hurgent hdrain hreview]
  simp only [grantLow, hintake, if_pos h]

theorem grantOrder_of_idle (h : (s.planes[p]).owed = 0) : grantOrder s p = s.planes[p] := by
  have hnot : ¬ 0 < (s.planes[p]).owed := by omega
  rw [grantOrder_of_low howed hurgent hdrain hreview]
  simp only [grantLow, hintake, if_neg hnot]

end

/-- Settles O24: the steps of the grant order, the search of the channels, and a channel's piece. -/
theorem grantsFollowTheOrder : Obligations.GrantsFollowTheOrder := by
  unfold Obligations.GrantsFollowTheOrder
  intro s p
  refine ⟨fun howed => ?_, fun howed x hx => ?_, fun howed hurgent => ⟨fun k rest hk => ?_, fun hdrain => ⟨fun r hr => ?_,
    fun hreview => ⟨fun x hx => ?_, fun hintake => ⟨fun h => ?_, fun h => ?_⟩⟩⟩⟩, fun u c a h => ?_, fun u => ?_, fun c => ?_,
    fun c => ⟨fun w rest hw hp hgo => ?_, fun hheader => ⟨fun r rest hr hp hne hgo => ?_, fun hpayload => ?_⟩⟩⟩
  · rw [grantOrder_of_refresh howed]
    exact ⟨rfl, Nat.sub_add_cancel (by omega)⟩
  · rw [grantOrder_of_urgent howed hx]; exact ⟨rfl, rfl⟩
  · rw [grantOrder_of_drain howed hurgent hk]; exact ⟨rfl, rfl⟩
  · rw [grantOrder_of_review howed hurgent hdrain hr]; exact ⟨rfl, rfl⟩
  · rw [grantOrder_of_intake howed hurgent hdrain hreview hx]; exact ⟨rfl, rfl⟩
  · rw [grantOrder_of_owed howed hurgent hdrain hreview hintake h]; rfl
  · exact grantOrder_of_idle howed hurgent hdrain hreview hintake h
  · obtain ⟨ha, hu, hbefore⟩ := intakeChoice_eq_some h
    exact ⟨ha, hu, fun d hd => intakeOffer_eq_none.mp (hbefore d hd)⟩
  · simp only [intakeChoice_eq_none, intakeOffer_eq_none]
  · exact decide_eq_true_iff
  · exact intakeAccess_of_header (headerOffer_eq_some.mpr ⟨hgo, rest, hw⟩) hp
  · rw [intakeAccess_of_no_header (headerOffer_elsewhere hheader)]
    exact payloadPiece_of_run (payloadOffer_eq_some.mpr ⟨rest, hr, hne, hgo⟩) hp
  · rw [intakeAccess_of_no_header (headerOffer_elsewhere hheader)]
    refine payloadPiece_of_no_run fun r hr => ?_
    obtain ⟨rest, hrun, hne, hgo⟩ := payloadOffer_eq_some.mp hr
    exact ((hpayload.resolve_left hgo) r rest hrun).resolve_right hne

end Sys2Proof.Machine
end

section
/-! PROOFS. The four arbiters grant as if each acted alone (R94, R95), refresh (R103, R104), and READ (R173). -/

namespace Sys2Proof.Machine

open Sys2Proof.Safety

section
variable {s : State} {p q : PlaneId} {c : ChannelId}

/-! ## One arbiter -/

theorem grant_planes_ne (h : q ≠ p) : (grant q s).planes[p] = s.planes[p] := by
  unfold grant
  split
  · exact get_put_ne _ _ h
  · rfl

/-- What the arbiter of plane `p` makes of its plane. -/
def arbitrated (s : State) (p : PlaneId) : Plane :=
  if (s.planes[p]).state = .ready ∧ (s.planes[p]).port = none then grantOrder s p else s.planes[p]

theorem grant_planes_self (s : State) (p : PlaneId) : (grant p s).planes[p] = arbitrated s p := by
  unfold grant arbitrated
  split
  · exact get_put_self _ _ _
  · rfl

theorem arbitrated_of_free (hstate : (s.planes[p]).state = .ready) (hport : (s.planes[p]).port = none) :
    arbitrated s p = grantOrder s p := if_pos ⟨hstate, hport⟩

theorem arbitrated_of_busy (h : (s.planes[p]).port ≠ none) : arbitrated s p = s.planes[p] := if_neg fun hfree => h hfree.2

theorem arbitrated_of_not_ready (h : (s.planes[p]).state ≠ .ready) : arbitrated s p = s.planes[p] := if_neg fun hfree => h hfree.1

theorem grant_planes_of_busy (h : (s.planes[p]).port ≠ none) : (grant q s).planes[p] = s.planes[p] := by
  by_cases hqp : q = p
  · subst hqp; rw [grant_planes_self, arbitrated_of_busy h]
  · exact grant_planes_ne hqp

/-! ## A grant does not reach another plane's choice (R97, R98) -/

/-- The access is a write of a channel's staging. -/
def Access.writes : Access → Bool
  | .headerWrite .. | .payloadWrite .. => true
  | .refresh | .halfLoad .. | .reviewRead .. => false

/-- A write that a free port is granted is a channel's piece on its plane. -/
theorem grantOrder_port {a : Access} (hfree : (s.planes[p]).port = none) (h : (grantOrder s p).port = some a) :
    a.writes = false ∨ ∃ d, intakeAccess s p d = some a := by
  unfold grantOrder at h
  split at h
  · exact .inl (by cases h; rfl)
  split at h
  · next x hx => exact .inr ⟨x.1, by cases h; exact (intakeChoice_eq_some hx).1⟩
  unfold grantReads at h
  dsimp only at h
  split at h
  · exact .inl (by cases h; rfl)
  split at h
  · exact .inl (by cases h; rfl)
  unfold grantLow at h
  split at h
  · next x hx => exact .inr ⟨x.1, by cases h; exact (intakeChoice_eq_some hx).1⟩
  split at h
  · exact .inl (by cases h; rfl)
  · rw [hfree] at h; cases h

/-- A channel's piece is its oldest header or the head of its oldest run. -/
theorem intakeAccess_eq_some {a : Access} (h : intakeAccess s p c = some a) :
    (∃ w, headerOffer s c = some w ∧ planeOf w.block = p ∧ a = .headerWrite c w.block w.offset w.header.bytes true) ∨
    ∃ r, payloadOffer s c = some r ∧ planeOf r.block = p ∧
      a = .payloadWrite c r.block (r.recordOffset + 32 + r.written) (r.pending.take 512) true := by
  by_cases hheader : ∃ w, headerOffer s c = some w ∧ planeOf w.block = p
  · obtain ⟨w, hw, hp⟩ := hheader
    rw [intakeAccess_of_header hw hp] at h
    exact .inl ⟨w, hw, hp, (Option.some.inj h).symm⟩
  · rw [intakeAccess_of_no_header fun w hw hp => hheader ⟨w, hw, hp⟩] at h
    by_cases hpayload : ∃ r, payloadOffer s c = some r ∧ planeOf r.block = p
    · obtain ⟨r, hr, hp⟩ := hpayload
      rw [payloadPiece_of_run hr hp] at h
      exact .inr ⟨r, hr, hp, (Option.some.inj h).symm⟩
    · rw [payloadPiece_of_no_run fun r hr hp => hpayload ⟨r, hr, hp⟩] at h
      cases h

/-- A port's access after a grant was its access before, or is a piece granted on plane `q`. -/
theorem grant_port {a : Access} (h : ((grant q s).planes[p]).port = some a) (hw : a.writes = true) :
    (s.planes[p]).port = some a ∨ ∃ d, intakeAccess s q d = some a := by
  by_cases hqp : q = p
  · subst hqp
    rw [grant_planes_self] at h
    unfold arbitrated at h
    split at h
    · next hfree =>
      obtain hnot | hpiece := grantOrder_port hfree.2 h
      · rw [hnot] at hw; cases hw
      · exact .inr hpiece
    · exact .inl h
  · rw [grant_planes_ne hqp] at h
    exact .inl h

theorem headerGoing_grant (h : HeaderGoing s c) : HeaderGoing (grant q s) c := by
  obtain ⟨p, b, off, bs, live, hport⟩ := h
  exact ⟨p, b, off, bs, live, by rw [grant_planes_of_busy (by rw [hport]; nofun), hport]⟩

theorem payloadGoing_grant (h : PayloadGoing s c) : PayloadGoing (grant q s) c := by
  obtain ⟨p, b, off, bs, live, hport⟩ := h
  exact ⟨p, b, off, bs, live, by rw [grant_planes_of_busy (by rw [hport]; nofun), hport]⟩

/-- A header write that begins on plane `q` is of a header that targets it. -/
theorem headerGoing_of_grant (h : HeaderGoing (grant q s) c) :
    HeaderGoing s c ∨ ∃ w, headerOffer s c = some w ∧ planeOf w.block = q := by
  obtain ⟨p, b, off, bs, live, hport⟩ := h
  obtain hport | ⟨d, hd⟩ := grant_port hport rfl
  · exact .inl ⟨p, b, off, bs, live, hport⟩
  · obtain ⟨w, hw, hq, ha⟩ | ⟨r, -, -, ha⟩ := intakeAccess_eq_some hd
    · cases ha; exact .inr ⟨w, hw, hq⟩
    · cases ha

theorem payloadGoing_of_grant (h : PayloadGoing (grant q s) c) :
    PayloadGoing s c ∨ ∃ r, payloadOffer s c = some r ∧ planeOf r.block = q := by
  obtain ⟨p, b, off, bs, live, hport⟩ := h
  obtain hport | ⟨d, hd⟩ := grant_port hport rfl
  · exact .inl ⟨p, b, off, bs, live, hport⟩
  · obtain ⟨w, -, -, ha⟩ | ⟨r, hr, hq, ha⟩ := intakeAccess_eq_some hd
    · cases ha
    · cases ha; exact .inr ⟨r, hr, hq⟩

@[simp] theorem grant_chans (q : PlaneId) (s : State) : (grant q s).chans = s.chans := by rw [grant_eq]

/-- A header offered on plane `p` is offered whatever another plane grants. -/
theorem headerOffer_grant (hqp : q ≠ p) {w : WaitingHeader} (hp : planeOf w.block = p) :
    headerOffer (grant q s) c = some w ↔ headerOffer s c = some w := by
  rw [headerOffer_eq_some, headerOffer_eq_some, grant_chans]
  refine and_congr_left fun hwait => not_congr ⟨fun hgo => ?_, headerGoing_grant⟩
  by_contra hnot
  obtain ⟨w', hw', hq⟩ := (headerGoing_of_grant hgo).resolve_left hnot
  obtain rfl : w = w' := Option.some.inj ((headerOffer_eq_some.mpr ⟨hnot, hwait⟩).symm.trans hw')
  exact hqp (hq.symm.trans hp)

theorem payloadOffer_grant (hqp : q ≠ p) {r : StagedRun} (hp : planeOf r.block = p) :
    payloadOffer (grant q s) c = some r ↔ payloadOffer s c = some r := by
  rw [payloadOffer_eq_some, payloadOffer_eq_some, grant_chans]
  refine exists_congr fun rest => and_congr_right fun hruns => and_congr_right fun hne =>
    not_congr ⟨fun hgo => ?_, payloadGoing_grant⟩
  by_contra hnot
  obtain ⟨r', hr', hq⟩ := (payloadGoing_of_grant hgo).resolve_left hnot
  obtain rfl : r = r' := Option.some.inj ((payloadOffer_eq_some.mpr ⟨rest, hruns, hne, hnot⟩).symm.trans hr')
  exact hqp (hq.symm.trans hp)

theorem payloadPiece_grant (hqp : q ≠ p) : payloadPiece (grant q s) p c = payloadPiece s p c := by
  by_cases h : ∃ r, payloadOffer s c = some r ∧ planeOf r.block = p
  · obtain ⟨r, hr, hp⟩ := h
    rw [payloadPiece_of_run hr hp, payloadPiece_of_run ((payloadOffer_grant hqp hp).mpr hr) hp]
  · rw [payloadPiece_of_no_run fun r hr hp => h ⟨r, hr, hp⟩,
      payloadPiece_of_no_run fun r hr hp => h ⟨r, (payloadOffer_grant hqp hp).mp hr, hp⟩]

theorem intakeAccess_grant (hqp : q ≠ p) : intakeAccess (grant q s) p c = intakeAccess s p c := by
  by_cases h : ∃ w, headerOffer s c = some w ∧ planeOf w.block = p
  · obtain ⟨w, hw, hp⟩ := h
    rw [intakeAccess_of_header hw hp, intakeAccess_of_header ((headerOffer_grant hqp hp).mpr hw) hp]
  · rw [intakeAccess_of_no_header fun w hw hp => h ⟨w, hw, hp⟩,
      intakeAccess_of_no_header fun w hw hp => h ⟨w, (headerOffer_grant hqp hp).mp hw, hp⟩, payloadPiece_grant hqp]

theorem arbitrated_grant (hqp : q ≠ p) : arbitrated (grant q s) p = arbitrated s p := by
  have hplane : (grant q s).planes[p] = s.planes[p] := grant_planes_ne hqp
  have hchoice := intakeChoice_congr (congrArg Plane.pointer hplane) (grant_chans q s) fun c => intakeAccess_grant (c := c) hqp
  simp only [arbitrated, grantOrder, grantReads, grantLow, hplane, hchoice]

/-! ## The four arbiters -/

/-- Each plane comes out of the four arbiters as its own makes it. -/
theorem grants_planes (s : State) (p : PlaneId) : (grants s).planes[p] = arbitrated s p := by
  unfold grants
  match p with
  | 0 => rw [grant_planes_ne (by decide), grant_planes_ne (by decide), grant_planes_ne (by decide), grant_planes_self]
  | 1 => rw [grant_planes_ne (by decide), grant_planes_ne (by decide), grant_planes_self, arbitrated_grant (by decide)]
  | 2 => rw [grant_planes_ne (by decide), grant_planes_self, arbitrated_grant (by decide), arbitrated_grant (by decide)]
  | 3 => rw [grant_planes_self, arbitrated_grant (by decide), arbitrated_grant (by decide), arbitrated_grant (by decide)]

end

end Sys2Proof.Machine
end

section
/-! PROOFS. What DS does of its own after every command: selections and load claims (R112, R113, R117). -/

namespace Sys2Proof.Machine

open Sys2Proof.Safety

/-- What a claim keeps of a slot entry. -/
def SlotEntry.standing (e : SlotEntry) : BlockId × Word32 × Bool × Bool × Nat := (e.block, e.seq, e.covered, e.resend, e.begun)

/-- A half after DS's own work: as it was, but that an EMPTY one may have claimed a load. -/
def HalfClaims (a b : Half) : Prop := b = a ∨ (a.state = .empty ∧ b.state = .loading)

theorem HalfClaims.refl (a : Half) : HalfClaims a a := .inl rfl

theorem HalfClaims.trans {a b c : Half} (h : HalfClaims a b) (h' : HalfClaims b c) : HalfClaims a c := by
  obtain rfl | ⟨ha, hb⟩ := h
  · exact h'
  · obtain rfl | ⟨hb', -⟩ := h'
    · exact .inr ⟨ha, hb⟩
    · rw [hb] at hb'; cases hb'

theorem HalfClaims.eq_of_ne {a b : Half} (h : HalfClaims a b) (hne : a.state ≠ .empty) : b = a :=
  h.resolve_right fun hempty => hne hempty.1

theorem HalfClaims.of_empty {a b : Half} (h : HalfClaims a b) (hempty : a.state = .empty) :
    b.state = .empty ∨ b.state = .loading := by
  obtain rfl | ⟨-, hb⟩ := h
  · exact .inl hempty
  · exact .inr hb

/-- How DS's own work leaves the drain: it adds to the slot, takes from REDRAIN's head, and lets an EMPTY half claim. -/
structure Drain.Worked (a b : Drain) : Prop where
  granted : b.granted = a.granted
  committed : b.committed = a.committed
  transmitted : b.transmitted = a.transmitted
  sent : b.sent = a.sent
  redrain : b.redrain <:+ a.redrain
  slot : a.slot.map SlotEntry.standing <+: b.slot.map SlotEntry.standing
  halves : ∀ h : Fin 2, HalfClaims a.halves[h] b.halves[h]

theorem Drain.Worked.refl (a : Drain) : a.Worked a :=
  ⟨rfl, rfl, rfl, rfl, List.suffix_rfl, List.prefix_rfl, fun _ => .refl _⟩

theorem Drain.Worked.trans {a b c : Drain} (h : a.Worked b) (h' : b.Worked c) : a.Worked c :=
  ⟨h'.granted.trans h.granted, h'.committed.trans h.committed, h'.transmitted.trans h.transmitted, h'.sent.trans h.sent,
    h'.redrain.trans h.redrain, h.slot.trans h'.slot, fun k => (h.halves k).trans (h'.halves k)⟩

/-- DS's own work at the drain and at the planes, where it adds to the DRAIN claims. -/
structure OwnWork (s t : State) : Prop where
  drain : s.ds.Worked t.ds
  planes : ∀ p : PlaneId, ∃ more, t.planes[p] = { s.planes[p] with drain := (s.planes[p]).drain ++ more }

theorem planes_kept {s t : State} (h : t.planes = s.planes) (p : PlaneId) :
    ∃ more, t.planes[p] = { s.planes[p] with drain := (s.planes[p]).drain ++ more } := ⟨[], by rw [h, List.append_nil]⟩

theorem OwnWork.refl (s : State) : OwnWork s s := ⟨.refl _, planes_kept rfl⟩

theorem OwnWork.trans {s t u : State} (h : OwnWork s t) (h' : OwnWork t u) : OwnWork s u := by
  refine ⟨h.drain.trans h'.drain, fun p => ?_⟩
  obtain ⟨more, hm⟩ := h.planes p
  obtain ⟨more', hm'⟩ := h'.planes p
  exact ⟨more ++ more', by rw [hm', hm, List.append_assoc]⟩

section
variable {s : State}

theorem worked_selectOnce (allowed : Bool) (w : Vector Nat 4) (x : Drain × Ring) : x.1.Worked (selectOnce allowed w x).1 := by
  obtain he | ⟨-, ⟨m, rest, hr, he⟩ | ⟨-, cur, turn, b, he⟩⟩ := selectOnce_fst allowed w x
  · exact he.symm ▸ .refl _
  · rw [he]
    exact ⟨rfl, rfl, rfl, rfl, hr ▸ List.suffix_cons m rest, (List.prefix_append x.1.slot _).map _, fun _ => .refl _⟩
  · rw [he]
    exact ⟨rfl, rfl, rfl, rfl, List.suffix_rfl, (List.prefix_append x.1.slot _).map _, fun _ => .refl _⟩

theorem ownWork_selectBlocks (s : State) : OwnWork s (selectBlocks s) :=
  ⟨(worked_selectOnce _ _ (s.ds, s.rm)).trans (worked_selectOnce _ _ _), planes_kept rfl⟩

theorem standing_claimNext {rm : Ring} {l l' : List SlotEntry} {e : SlotEntry} (h : claimNext rm l = some (e, l')) :
    l'.map SlotEntry.standing = l.map SlotEntry.standing := claimNext_map h

/-- A claim joins the DRAIN claims of its block's plane. -/
theorem addDrainClaim_get (k : LoadClaim) (ps : Vector Plane 4) (p : PlaneId) :
    ∃ more, (addDrainClaim k ps)[p] = { ps[p] with drain := (ps[p]).drain ++ more } := by
  by_cases hp : planeOf k.block = p
  · subst hp; exact ⟨[k], get_put_self _ _ _⟩
  · exact ⟨[], by rw [List.append_nil]; exact get_put_ne _ _ hp⟩

theorem ownWork_claimLoad (h : Fin 2) (s : State) : OwnWork s (claimLoad h s) := by
  unfold claimLoad
  split
  · next hfree =>
    split
    · exact .refl s
    · next e l he =>
      refine ⟨⟨rfl, rfl, rfl, rfl, List.suffix_rfl, (standing_claimNext he).symm ▸ List.prefix_rfl, fun k => ?_⟩,
        addDrainClaim_get _ s.planes⟩
      by_cases hk : h = k
      · subst hk
        refine .inr ⟨hfree.1, ?_⟩
        exact (congrArg Half.state (get_put_self _ _ _)).trans rfl
      · exact .inl (get_put_ne _ _ hk)
  · exact .refl s

theorem ownWork_drainWork (s : State) : OwnWork s (drainWork s) :=
  ((ownWork_selectBlocks s).trans (ownWork_claimLoad 0 _)).trans (ownWork_claimLoad 1 _)

/-! ## What the arbiters then make of a plane -/

@[simp] theorem settle_ds_eq (s : State) : (settle s).ds = (drainWork s).ds := grants_ds _

end

end Sys2Proof.Machine
end

section
/-! PROOFS. The Capture Memory Controller: refresh, the ends of reads and of a plane's initialisation (R101 to R106, R173). -/

namespace Sys2Proof.Machine

open Sys2Proof.Safety

section
variable {s : State} {p q : PlaneId}

/-! ## Grants on a plane -/

/-- A grant takes a claim and changes nothing else of the plane's state, its flags or its timer. -/
theorem grantOrder_kept (s : State) (p : PlaneId) :
    (grantOrder s p).state = (s.planes[p]).state ∧ (grantOrder s p).lapse = (s.planes[p]).lapse := by
  unfold grantOrder grantReads grantLow
  dsimp only
  split_ifs
  · exact ⟨rfl, rfl⟩
  all_goals
    split
    · exact ⟨rfl, rfl⟩
    · split
      · exact ⟨rfl, rfl⟩
      · split
        · exact ⟨rfl, rfl⟩
        · split <;> exact ⟨rfl, rfl⟩

/-- With something owed or claimed a free port is granted. -/
theorem grantOrder_port_ne_none (h : 0 < (s.planes[p]).owed ∨ (s.planes[p]).review ≠ none ∨ (s.planes[p]).drain ≠ []) :
    (grantOrder s p).port ≠ none := by
  obtain howed | howed := Nat.lt_or_ge (s.planes[p]).owed 8
  swap
  · rw [grantOrder_of_refresh howed]; nofun
  cases hurgent : intakeChoice s p true with
  | some x => rw [grantOrder_of_urgent howed hurgent]; nofun
  | none =>
    cases hdrain : (s.planes[p]).drain with
    | cons k rest => rw [grantOrder_of_drain howed hurgent hdrain]; nofun
    | nil =>
      cases hreview : (s.planes[p]).review with
      | some r => rw [grantOrder_of_review howed hurgent hdrain hreview]; nofun
      | none =>
        have howes : 0 < (s.planes[p]).owed := h.resolve_right fun hclaim => hclaim.elim (fun hr => hr hreview) fun hd => hd hdrain
        cases hintake : intakeChoice s p false with
        | some x => rw [grantOrder_of_intake howed hurgent hdrain hreview hintake]; nofun
        | none => rw [grantOrder_of_owed howed hurgent hdrain hreview hintake howes]; nofun

theorem changesOnly_grants (s : State) : ChangesOnly [.planes] s (grants s) := by
  rw [grants_eq]
  exact changesOnly_of fun p => by
    cases p with
    | planes => exact .inl (by simp)
    | _ => exact .inr rfl

theorem changesOnly_planes (ps : Vector Plane 4) : ChangesOnly [.planes] s { s with planes := ps } :=
  changesOnly_of fun p => by
    cases p with
    | planes => exact .inl (by simp)
    | _ => exact .inr rfl

/-! ## Refresh (R103, R104) -/

/-- The part with a tick counted at plane `p`. -/
def ticked (p : PlaneId) (s : State) : State := { s with planes := put s.planes p (tickPlane s.planes[p]) }

theorem ticked_planes_self (s : State) (p : PlaneId) : (ticked p s).planes[p] = tickPlane s.planes[p] := get_put_self _ _ _

theorem ticked_planes_ne (h : q ≠ p) : (ticked p s).planes[q] = s.planes[q] := get_put_ne _ _ h.symm

theorem tickPlane_of_lt {pl : Plane} (h : pl.owed < 8) : tickPlane pl = { pl with owed := pl.owed + 1 } := if_pos h

theorem tickPlane_of_ge {pl : Plane} (h : 8 ≤ pl.owed) : tickPlane pl = { pl with lapse := true } := if_neg (not_lt.mpr h)

theorem tickPlane_kept (pl : Plane) : (tickPlane pl).state = pl.state ∧ (tickPlane pl).port = pl.port ∧ 0 < (tickPlane pl).owed := by
  obtain h | h := Nat.lt_or_ge pl.owed 8
  · rw [tickPlane_of_lt h]; exact ⟨rfl, rfl, Nat.succ_pos _⟩
  · rw [tickPlane_of_ge h]; exact ⟨rfl, rfl, by change 0 < pl.owed; omega⟩

theorem exec_refreshTick (hpin : s.su.resetLow = false) (p : PlaneId) : exec (.refreshTick p) s =
    .next (onlyWhen (decide ((s.planes[p]).state = .ready)) (fun t => grants (ticked p t)) s) := released_eq _ hpin

theorem exec_refreshComplete (hpin : s.su.resetLow = false) (hport : (s.planes[p]).port = some .refresh) :
    exec (.refreshComplete p) s = .next (grants (freed p s)) :=
  released_onlyWhen_eq (fun t => settle (freePort p t)) hpin (decide_eq_true hport)

theorem freed_eq (p : PlaneId) (s : State) : freed p s = drainWork (freePort p s) := rfl

/-- DS's own work leaves the free lists. -/
theorem drainWork_free (s : State) : (drainWork s).rm.free = s.rm.free := by
  obtain ⟨hfree, -⟩ := settle_onlySelects s
  rwa [settle, grants_rm] at hfree

/-- The freed plane, with the DRAIN claims DS has added. -/
theorem freed_planes_self (s : State) (p : PlaneId) : ∃ more, (freed p s).planes[p] =
    { s.planes[p] with port := none, drain := (s.planes[p]).drain ++ more } := by
  obtain ⟨more, h⟩ := (ownWork_drainWork (freePort p s)).planes p
  refine ⟨more, h.trans ?_⟩
  rw [freePort, get_put_self]

theorem freed_planes_ne (h : q ≠ p) : ((freed p s).planes[q]).port = (s.planes[q]).port := by
  obtain ⟨more, hq⟩ := (ownWork_drainWork (freePort p s)).planes q
  have hsame : (freePort p s).planes[q] = s.planes[q] := get_put_ne _ _ h.symm
  rw [hsame] at hq
  exact (congrArg Plane.port hq).trans rfl

theorem freed_changesOnly (p : PlaneId) (s : State) : ChangesOnly [.planes, .ds, .rm] s (freed p s) := by
  refine changesOnly_trans (t := freePort p s) (changesOnly_mono (by simp) (changesOnly_planes _)) ?_
  rw [freed, drainWork_eq]
  exact changesOnly_of fun p => by
    cases p with
    | planes | ds | rm => exact .inl (by simp)
    | _ => exact .inr rfl

end

/-- Settles O32: each plane comes out of the four arbiters as its own makes it, so the plane's port is granted by R95 alone. -/
theorem refreshIsCountedAndGranted : Obligations.RefreshIsCountedAndGranted := by
  unfold Obligations.RefreshIsCountedAndGranted
  refine ⟨fun s p hpin => ?_, fun s p hpin hport => ?_⟩
  · refine ⟨_, exec_refreshTick hpin p, ?_⟩
    by_cases hready : (s.planes[p]).state = .ready
    · rw [decide_eq_true hready, onlyWhen_true]
      obtain ⟨hstate, hport, howes⟩ := tickPlane_kept s.planes[p]
      have hself := grants_planes (ticked p s) p
      refine ⟨changesOnly_trans (changesOnly_planes _) (changesOnly_grants (ticked p s)), fun h => absurd hready h,
        fun _ hbusy howed => ?_, fun _ hbusy howed => ?_, fun _ hfree => ?_, fun q hq hbusy => ?_⟩
      · rw [hself, arbitrated_of_busy (by rw [ticked_planes_self, hport]; exact hbusy), ticked_planes_self, tickPlane_of_lt howed]
      · rw [hself, arbitrated_of_busy (by rw [ticked_planes_self, hport]; exact hbusy), ticked_planes_self, tickPlane_of_ge howed]
      · rw [hself, arbitrated_of_free (by rw [ticked_planes_self, hstate, hready]) (by rw [ticked_planes_self, hport, hfree])]
        exact ⟨grantOrder_port_ne_none (.inl (by rw [ticked_planes_self]; exact howes)), rfl⟩
      · rw [grants_planes, arbitrated_of_busy (by rw [ticked_planes_ne hq]; exact hbusy), ticked_planes_ne hq]
    · rw [decide_eq_false hready, onlyWhen_false]
      exact ⟨changesOnly_refl _ s, fun _ => rfl, fun h => absurd h hready, fun h => absurd h hready, fun h => absurd h hready,
        fun _ _ _ => rfl⟩
  · obtain ⟨more, hself⟩ := freed_planes_self s p
    have hfree : ((freed p s).planes[p]).port = none := by rw [hself]
    have hstate : ((freed p s).planes[p]).state = (s.planes[p]).state := by rw [hself]
    have howed : ((freed p s).planes[p]).owed = (s.planes[p]).owed := by rw [hself]
    have hreview : ((freed p s).planes[p]).review = (s.planes[p]).review := by rw [hself]
    have hgrant (hready : (s.planes[p]).state = .ready) : (grants (freed p s)).planes[p] = grantOrder (freed p s) p := by
      rw [grants_planes, arbitrated_of_free (hstate.trans hready) hfree]
    refine ⟨_, exec_refreshComplete hpin hport, changesOnly_trans (freed_changesOnly p s)
      (changesOnly_mono (by simp) (changesOnly_grants (freed p s))), fun hnot => ?_, hgrant, fun hready hnone hdrain hrev hoffers => ?_,
      fun hready h8 => ?_, fun hready hclaim => ?_, fun q hq hbusy => ?_, ?_, ?_⟩
    · rw [grants_planes, arbitrated_of_not_ready (by rw [hstate]; exact hnot), hfree]
    · have hchoice (u : Bool) : intakeChoice (freed p s) p u = none :=
        intakeChoice_eq_none.mpr fun c => intakeOffer_eq_none.mpr (.inl (hoffers c))
      have hidle := howed.trans hnone
      rw [hgrant hready, grantOrder_of_idle (by omega) (hchoice true) hdrain (hreview.trans hrev) (hchoice false) hidle, hfree]
    · rw [hgrant hready, grantOrder_of_refresh (by omega)]
      refine ⟨rfl, ?_⟩
      change ((freed p s).planes[p]).owed - 1 + 1 = _
      omega
    · rw [hgrant hready]
      rw [← howed, ← hreview] at hclaim
      refine grantOrder_port_ne_none (hclaim.imp_right (Or.imp_right fun h => ?_))
      rw [hself]
      exact List.append_ne_nil_of_left_ne_nil h _
    · have hq' := freed_planes_ne (s := s) hq
      rw [grants_planes, arbitrated_of_busy (by rw [hq']; exact hbusy), hq']
    · have hlapse : ((freed p s).planes[p]).lapse = (s.planes[p]).lapse := by rw [hself]
      rw [grants_planes]
      unfold arbitrated
      split
      · exact (grantOrder_kept _ p).2.trans hlapse
      · exact hlapse
    · rw [grants_rm, freed_eq, drainWork_free]
      rfl

end Sys2Proof.Machine
end

section
/-! PROOFS. READ (R173), the ends of reads and loads (R101, R102), and the end of a plane's initialisation (R91, R105, R106). -/

namespace Sys2Proof.Machine

open Sys2Proof.Safety

section
variable {s : State}

/-! ## READ (R173) -/

theorem readFormOk_iff {b : Word16} {off : Word32} {len : Word16} : readFormOk b off len = true ↔
    b.toNat < 8192 ∧ 4 ≤ len.toNat ∧ len.toNat ≤ 4096 ∧ len.toNat % 4 = 0 ∧ off.toNat % 4 = 0 := by
  rw [readFormOk, Bool.and_eq_true, blockInRange_iff, decide_eq_true_iff]

/-- What the channels offer depends on their staging and on the ports. -/
theorem intakeAccess_congr {t : State} (hchans : t.chans = s.chans)
    (hports : ∀ q : PlaneId, (t.planes[q]).port = (s.planes[q]).port) (p : PlaneId) (c : ChannelId) :
    intakeAccess t p c = intakeAccess s p c := by
  have hheaders : headerWriting t.planes c = headerWriting s.planes c := by simp only [headerWriting, hports]
  have hpayloads : payloadWriting t.planes c = payloadWriting s.planes c := by simp only [payloadWriting, hports]
  have hheader : headerOffer t c = headerOffer s c := by rw [headerOffer, headerOffer, hheaders, hchans]
  have hpayload : payloadOffer t c = payloadOffer s c := by rw [payloadOffer, payloadOffer, hpayloads, hchans]
  simp only [intakeAccess, intakeAccess.payloadAccess, hheader, hpayload]

section
variable (b : BlockId) (off len : Nat)

theorem claimReview_planes_self (s : State) : (claimReview b off len s).planes[planeOf b] =
    { s.planes[planeOf b] with review := some ⟨b, off, len⟩ } := get_put_self _ _ _

theorem claimReview_port (s : State) (q : PlaneId) : ((claimReview b off len s).planes[q]).port = (s.planes[q]).port := by
  by_cases hq : planeOf b = q
  · subst hq; rw [claimReview_planes_self]
  · exact congrArg Plane.port (get_put_ne _ _ hq)

theorem changesOnly_claimReview (s : State) : ChangesOnly [.planes, .rp] s (grants (claimReview b off len s)) := by
  refine changesOnly_trans (t := claimReview b off len s) (changesOnly_of fun p => ?_)
    (changesOnly_mono (by simp) (changesOnly_grants _))
  cases p with
  | planes | rp => exact .inl (by simp)
  | _ => exact .inr rfl

/-- A grant leaves the review claim, or it is the read of it. -/
theorem grantOrder_review {p : PlaneId} {r : ReadClaim} (h : (s.planes[p]).review = some r) :
    (grantOrder s p).review = some r ∨ (grantOrder s p).port = some (.reviewRead r.block r.offset r.length true) := by
  obtain howed | howed := Nat.lt_or_ge (s.planes[p]).owed 8
  swap
  · rw [grantOrder_of_refresh howed]; exact .inl h
  cases hurgent : intakeChoice s p true with
  | some x => rw [grantOrder_of_urgent howed hurgent]; exact .inl h
  | none =>
    cases hdrain : (s.planes[p]).drain with
    | cons k rest => rw [grantOrder_of_drain howed hurgent hdrain]; exact .inl h
    | nil => rw [grantOrder_of_review howed hurgent hdrain h]; exact .inr rfl

/-- A READ's claim waits at the plane, or its port is granted to it. -/
theorem review_claimed (s : State) :
    ((grants (claimReview b off len s)).planes[planeOf b]).review = some ⟨b, off, len⟩ ∨
      ((grants (claimReview b off len s)).planes[planeOf b]).port = some (.reviewRead b off len true) := by
  have hreview : ((claimReview b off len s).planes[planeOf b]).review = some ⟨b, off, len⟩ := by rw [claimReview_planes_self]
  rw [grants_planes]
  unfold arbitrated
  split
  · exact grantOrder_review hreview
  · exact .inl hreview

/-- A free port with nothing before the claim is granted to it at once (R95). -/
theorem review_granted (hready : (s.planes[planeOf b]).state = .ready) (hfree : (s.planes[planeOf b]).port = none)
    (howed : (s.planes[planeOf b]).owed < 8) (hdrain : (s.planes[planeOf b]).drain = [])
    (hurgent : intakeChoice s (planeOf b) true = none) :
    ((grants (claimReview b off len s)).planes[planeOf b]).port = some (.reviewRead b off len true) := by
  have hself := claimReview_planes_self b off len s
  have hchoice : intakeChoice (claimReview b off len s) (planeOf b) true = none :=
    (intakeChoice_congr (s := s) (t := claimReview b off len s) (by rw [hself]) rfl
      (intakeAccess_congr (s := s) (t := claimReview b off len s) rfl (claimReview_port b off len s) (planeOf b)) true).trans hurgent
  rw [grants_planes, arbitrated_of_free (by rw [hself]; exact hready) (by rw [hself]; exact hfree),
    grantOrder_of_review (r := ⟨b, off, len⟩) (by rw [hself]; exact howed) hchoice (by rw [hself]; exact hdrain) (by rw [hself])]

end

section
variable {b : Word16} {off : Word32} {len : Word16}

theorem exec_read (hpin : s.su.resetLow = false) : exec (.read b off len) s = .next (read b off len s) := released_eq _ hpin

theorem read_of_busy (ha : accepts s = false) : read b off len s = respondOpen 4#8 .busy b s := by
  rw [read, ha]; rfl

theorem read_of_bad_form (ha : accepts s = true) (h : readFormOk b off len = false) :
    read b off len s = respondOpen 4#8 .badArg b s := by
  rw [read, ha, h]; rfl

theorem read_of_good_form (ha : accepts s = true) (h : readFormOk b off len = true) :
    read b off len s = checkRead b off.toNat len.toNat s := by
  rw [read, ha, h]; rfl

variable (off len : Nat)

theorem checkRead_of_no_pins (h : (s.rm.block b.toNat).pins = 0) : checkRead b off len s = respondOpen 4#8 .notPinned b s := if_pos h

theorem checkRead_of_past (hpins : (s.rm.block b.toNat).pins ≠ 0) (h : (s.rm.block b.toNat).bytesUsed ≤ off) :
    checkRead b off len s = respondOpen 4#8 .badArg b s := (if_neg hpins).trans (if_pos h)

theorem checkRead_of_good (hpins : (s.rm.block b.toNat).pins ≠ 0) (h : off < (s.rm.block b.toNat).bytesUsed) :
    checkRead b off len s =
      grants (claimReview b.toNat off (min len ((s.rm.block b.toNat).bytesUsed - off)) s) :=
  (if_neg hpins).trans (if_neg (not_le.mpr h))

end

/-- A response leaves the planes and the slot. -/
theorem respondOpen_answer (kind : Byte) (st : ReviewStatus) (b : Word16) (hslot : s.rp.slot = none) :
    (respondOpen kind st b s).planes = s.planes ∧ (respondOpen kind st b s).rp.slot = none ∧
      ∃ v, Responded ⟨kind, st, b, v, []⟩ s (respondOpen kind st b s) := ⟨rfl, hslot, _, rfl⟩

theorem changesOnly_respondOpen (kind : Byte) (st : ReviewStatus) (b : Word16) :
    ChangesOnly [.planes, .rp, .fresh] s (respondOpen kind st b s) :=
  changesOnly_mono (by simp) (respondOpen_frame kind st b s).1

end

/-- Settles O58, by the checks in their order. -/
theorem readsAreCheckedAndClaimed : Obligations.ReadsAreCheckedAndClaimed := by
  unfold Obligations.ReadsAreCheckedAndClaimed
  refine ⟨?_, fun s b off len hpin hbusy => ?_⟩
  · intro s b off len ⟨hpin, hslot, hhold⟩ d good clipped
    have ha := accepts_iff.mpr ⟨hslot, hhold⟩
    refine ⟨_, exec_read hpin, ?_⟩
    by_cases hgood : good
    swap
    · rw [read_of_bad_form ha (Bool.eq_false_iff.mpr fun h => hgood (readFormOk_iff.mp h))]
      exact ⟨changesOnly_respondOpen _ _ _, fun h => absurd h hgood, fun _ => respondOpen_answer _ _ _ hslot, fun h => absurd h hgood,
        fun h => absurd h hgood⟩
    rw [read_of_good_form ha (readFormOk_iff.mpr hgood)]
    by_cases hpins : d.pins = 0
    · rw [checkRead_of_no_pins _ _ hpins]
      exact ⟨changesOnly_respondOpen _ _ _, fun _ h => absurd hpins h, fun h => absurd hgood h, fun _ _ => respondOpen_answer _ _ _ hslot,
        fun _ h => absurd hpins h⟩
    obtain hlt | hge := Nat.lt_or_ge off.toNat d.bytesUsed
    swap
    · rw [checkRead_of_past _ _ hpins hge]
      exact ⟨changesOnly_respondOpen _ _ _, fun _ _ h => absurd h (not_lt.mpr hge), fun h => absurd hgood h, fun _ h => absurd h hpins,
        fun _ _ _ => respondOpen_answer _ _ _ hslot⟩
    · rw [checkRead_of_good _ _ hpins hlt]
      refine ⟨changesOnly_mono (by simp) (changesOnly_claimReview _ _ _ s), fun _ _ _ => ⟨by rw [grants_rp]; rfl, review_claimed _ _ _ s,
        review_granted _ _ _⟩, fun h => absurd hgood h, fun _ h => absurd h hpins, fun _ _ h => absurd hlt (not_lt.mpr h)⟩
  · refine ⟨_, exec_read hpin, ?_⟩
    rw [read_of_busy (accepts_eq_false hbusy)]
    exact respondOpen_frame ..

/-! ## The ends of loads and reads (R101, R102) -/

section
variable {s : State} {p : PlaneId}

theorem inMemory_of_le {b off len : Nat} (h : b * 1048576 + off + len ≤ 8589934592) : inMemory (blockAddress b off) len = true :=
  decide_eq_true h

/-- The end of an access outside the reset, its bytes in memory. -/
theorem accessEnd_eq {u : State} {b off len : Nat} {x : Fault} (hpin : s.su.resetLow = false)
    (h : b * 1048576 + off + len ≤ 8589934592) :
    (if s.su.resetLow then Host.Outcome.next s else if inMemory (blockAddress b off) len then .next (settle u) else .fault x : Answer) =
      .next (settle u) := by
  rw [hpin, inMemory_of_le h]; rfl

/-- What DS and the arbiters then do leaves the blocks but for a selection. -/
theorem settle_blocks {u : State} (h : u.rm = s.rm) :
    (∀ b, KeptOrSelected (s.rm.block b) ((settle u).rm.block b)) ∧ (settle u).rm.free = s.rm.free := by
  obtain ⟨hfree, hblocks⟩ := settle_onlySelects u
  rw [h] at hfree hblocks
  exact ⟨hblocks, hfree⟩

/-- A live READ whose bytes have come (R173). -/
theorem answerRead_of_slot {b : BlockId} {off len : Nat} {bs : List Byte} (h : s.rp.slot = some (.read b off len)) :
    answerRead b bs s = emptySlot (respond ⟨4#8, .ok, BitVec.ofNat 16 b, BitVec.ofNat 16 len, bs⟩ s) := by
  simp only [answerRead, h]
  rfl

theorem changesOnly_answerRead (b : BlockId) (bs : List Byte) (s : State) : ChangesOnly [.rp] s (answerRead b bs s) := by
  unfold answerRead
  split
  · exact changesOnly_rp _
  · exact changesOnly_refl _ s

theorem exec_reviewReadComplete {b off len : Nat} {live : Bool} (hpin : s.su.resetLow = false)
    (hport : (s.planes[p]).port = some (.reviewRead b off len live)) (h : b * 1048576 + off + len ≤ 8589934592) :
    exec (.reviewReadComplete p) s = .next (settle ((if live then answerRead b (readBytes s.mem (b * 1048576 + off) len) else id)
      (freePort p s))) := by
  simp only [exec, execReviewReadComplete, hport]
  exact accessEnd_eq hpin h

end

/-- Settles O31, by whether the READ is live. -/
theorem reviewReadAnswersTheRead : Obligations.ReviewReadAnswersTheRead := by
  unfold Obligations.ReviewReadAnswersTheRead
  intro s p b off len live hpin hport hmem
  have hfreed : ChangesOnly [.planes, .ds, .rm, .rp] s (freePort p s) := changesOnly_mono (by simp) (changesOnly_planes _)
  have hexec := exec_reviewReadComplete hpin hport hmem
  cases live with
  | true =>
    have honly := changesOnly_trans hfreed (changesOnly_mono (by simp) (changesOnly_answerRead b
      (readBytes s.mem (b * 1048576 + off) len) (freePort p s)))
    have hanswer (hslot : s.rp.slot = some (.read b off len)) := answerRead_of_slot (s := freePort p s)
      (bs := readBytes s.mem (b * 1048576 + off) len) hslot
    have hrm : (answerRead b (readBytes s.mem (b * 1048576 + off) len) (freePort p s)).rm = s.rm :=
      changesOnly_answerRead _ _ (freePort p s) .rm (by simp)
    rw [if_pos rfl] at hexec
    generalize answerRead b (readBytes s.mem (b * 1048576 + off) len) (freePort p s) = u at honly hanswer hexec hrm
    obtain ⟨hblocks, hfree⟩ := settle_blocks hrm
    refine ⟨_, hexec, fun _ hslot => ?_, nofun, hblocks, hfree, changesOnly_settle honly (by simp)⟩
    rw [Responded, settle_rp, hanswer hslot]
    exact ⟨rfl, rfl, rfl⟩
  | false =>
    obtain ⟨hblocks, hfree⟩ := settle_blocks (s := s) (u := freePort p s) rfl
    rw [if_neg Bool.false_ne_true, id_eq] at hexec
    exact ⟨_, hexec, nofun, fun _ => settle_rp (freePort p s), hblocks, hfree, changesOnly_settle hfreed (by simp)⟩

end Sys2Proof.Machine
end

section
/-! PROOFS. The ends of drain loads and of intake writes (R99 to R101), and of a plane's initialisation (R91, R105, R106). -/

namespace Sys2Proof.Machine

open Sys2Proof.Safety

/-! ## HALF_LOAD_COMPLETE (R101, R117) -/

/-- The part with the load of half `h` ended and its port free. -/
def loadEnd (p : PlaneId) (h : Fin 2) (bs : List Byte) (s : State) : State :=
  freePort p { s with ds := { s.ds with halves := put s.ds.halves h ((s.ds.halves[h]).loadEnded bs) } }

section
variable {s : State} {p : PlaneId} {h : Fin 2}

theorem exec_halfLoadComplete {b off len : Nat} (hpin : s.su.resetLow = false)
    (hport : (s.planes[p]).port = some (.halfLoad h b off len)) (hmem : b * 1048576 + off + len ≤ 8589934592) :
    exec (.halfLoadComplete p) s = .next (settle (loadEnd p h (readBytes s.mem (b * 1048576 + off) len) s)) := by
  simp only [exec, execHalfLoadComplete, hport]
  exact accessEnd_eq hpin hmem

theorem loadEnd_half (p : PlaneId) (h : Fin 2) (bs : List Byte) (s : State) :
    (loadEnd p h bs s).ds.halves[h] = (s.ds.halves[h]).loadEnded bs := get_put_self _ _ _

theorem changesOnly_loadEnd (p : PlaneId) (h : Fin 2) (bs : List Byte) (s : State) :
    ChangesOnly [.planes, .ds, .rm] s (loadEnd p h bs s) := changesOnly_of fun p => by
  cases p with
  | planes | ds | rm => exact .inl (by simp)
  | _ => exact .inr rfl

/-- DS's own work, then the grants, on the drain. -/
theorem worked_settle (s : State) : s.ds.Worked (settle s).ds := by
  rw [settle_ds_eq]
  exact (ownWork_drainWork s).drain

end

/-- Settles O30, by the half's state at the end of its load. -/
theorem halfLoadFillsItsHalf : Obligations.HalfLoadFillsItsHalf := by
  unfold Obligations.HalfLoadFillsItsHalf
  intro s p h b off len f hpin hport hmem
  have hexec := exec_halfLoadComplete hpin hport hmem
  have honly := changesOnly_loadEnd p h (readBytes s.mem (b * 1048576 + off) len) s
  have hhalf := loadEnd_half p h (readBytes s.mem (b * 1048576 + off) len) s
  have hrm : (loadEnd p h (readBytes s.mem (b * 1048576 + off) len) s).rm = s.rm := rfl
  have hgranted : (loadEnd p h (readBytes s.mem (b * 1048576 + off) len) s).ds.granted = s.ds.granted := rfl
  have hcommitted : (loadEnd p h (readBytes s.mem (b * 1048576 + off) len) s).ds.committed = s.ds.committed := rfl
  have hsent : (loadEnd p h (readBytes s.mem (b * 1048576 + off) len) s).ds.sent = s.ds.sent := rfl
  generalize loadEnd p h (readBytes s.mem (b * 1048576 + off) len) s = u at hexec honly hhalf hrm hgranted hcommitted hsent
  obtain ⟨hblocks, hfree⟩ := settle_blocks hrm
  have hwork := worked_settle u
  refine ⟨_, hexec, fun hloading => ?_, fun habandoned => ?_, hwork.granted.trans hgranted, hwork.committed.trans hcommitted,
    hwork.sent.trans hsent, hblocks, hfree, changesOnly_settle honly (by simp)⟩
  · rw [(hwork.halves h).eq_of_ne (by rw [hhalf, hloading]; nofun), hhalf, hloading]
    rfl
  · refine (hwork.halves h).of_empty ?_
    rw [hhalf, Half.loadEnded, habandoned]

/-! ## Plane initialisation (R91, R105, R106) -/

section
variable {s : State} {p : PlaneId}

/-- Capture memory after a plane's clear, whatever its form (R105). -/
theorem readByte_clearPlane_any (m : List Host.Cell) (p : PlaneId) (a : Nat) :
    readByte (clearPlane m p) a = if planeOfAddress a = p then 0#8 else readByte m a := by
  induction m with
  | nil => simp [readByte, clearPlane, tableGet]
  | cons e m ih =>
    obtain ⟨k, v⟩ := e
    simp only [readByte, clearPlane, List.filter_cons, bne_iff_ne] at ih ⊢
    by_cases hk : planeOfAddress k = p
    · rw [if_neg (not_not.mpr hk), ih]
      by_cases ha : a = k
      · subst ha; rw [if_pos hk, if_pos hk]
      · simp only [tableGet, if_neg ha]
    · rw [if_pos hk]
      by_cases ha : a = k
      · subst ha; simp only [tableGet, if_true, if_neg hk]
      · simp only [tableGet, if_neg ha, ih]

theorem allReported_iff {ps : Vector Plane 4} : allReported ps = true ↔ ∀ q : PlaneId, (ps[q]).state ≠ .initialising := by
  rw [allReported, List.all_eq_true]
  exact ⟨fun h q => of_decide_eq_true (h q (by fin_cases q <;> simp)), fun h q _ => decide_eq_true (h q)⟩

/-- The last report starts the settle interval (R176). -/
theorem noteReport_of_last (hphase : s.su.phase = .planeWait) (h : ∀ q : PlaneId, (s.planes[q]).state ≠ .initialising) :
    (noteReport s).su.phase = .settle ∧ (noteReport s).su.settleTimer = some 1 := by
  rw [noteReport, if_pos ⟨hphase, allReported_iff.mpr h⟩]
  exact ⟨rfl, rfl⟩

theorem noteReport_of_more {q : PlaneId} (h : (s.planes[q]).state = .initialising) : noteReport s = s :=
  if_neg fun hlast => allReported_iff.mp hlast.2 q h

theorem noteReport_changesOnly (s : State) : ChangesOnly [.su] s (noteReport s) := by
  unfold noteReport
  split
  · exact changesOnly_of fun p => by
      cases p with
      | su => exact .inl (by simp)
      | _ => exact .inr rfl
  · exact changesOnly_refl _ s

/-- The report of one plane: whether it was the last shows in the others. -/
theorem noteReport_su {pl : Plane} {u : State} (hplanes : u.planes = put s.planes p pl) (hsu : u.su = s.su)
    (hpl : pl.state ≠ .initialising) :
    (s.su.phase = .planeWait → (∀ q : PlaneId, q ≠ p → (s.planes[q]).state ≠ .initialising) →
      (noteReport u).su.phase = .settle ∧ (noteReport u).su.settleTimer = some 1) ∧
    ∀ q : PlaneId, q ≠ p → (s.planes[q]).state = .initialising → (noteReport u).su = s.su := by
  refine ⟨fun hphase hothers => noteReport_of_last (hsu ▸ hphase) fun q => ?_, fun q hq hinit => ?_⟩
  · rw [hplanes]
    by_cases hq : q = p
    · subst hq; rwa [get_put_self]
    · rw [get_put_ne _ _ (Ne.symm hq)]; exact hothers q hq
  · rw [noteReport_of_more (q := q) (by rw [hplanes, get_put_ne _ _ (Ne.symm hq)]; exact hinit), hsu]

theorem exec_planeInitEnd (ready : Bool) (hpin : s.su.resetLow = false) (hinit : (s.planes[p]).state = .initialising) :
    exec (.planeInitEnd p ready) s = .next (noteReport (if ready then planeReady p s else planeFaulty p s)) :=
  released_onlyWhen_eq _ hpin (decide_eq_true hinit)

theorem exec_planeInitTimeout (hpin : s.su.resetLow = false) (hinit : (s.planes[p]).state = .initialising) :
    exec (.planeInitTimeout p) s = .next (noteReport (planeFaulty p s)) :=
  released_onlyWhen_eq (fun t => noteReport (planeFaulty p t)) hpin (decide_eq_true hinit)

end

/-- Settles O33, by how the plane ends and whether it is the last to report. -/
theorem planeInitialisationEnds : Obligations.PlaneInitialisationEnds := by
  unfold Obligations.PlaneInitialisationEnds
  intro s p hpin hinit
  refine ⟨?_, fun c hc => ?_⟩
  · have hnote := noteReport_changesOnly (planeReady p s)
    obtain ⟨hlast, hmore⟩ := noteReport_su (s := s) (p := p) (u := planeReady p s) rfl rfl nofun
    have hexec := exec_planeInitEnd true hpin hinit
    rw [if_pos rfl] at hexec
    refine ⟨_, hexec, hnote .planes (by simp), fun a => ?_, hnote .ts (by simp), fun hmask => ?_, fun hmask => ?_, hlast, hmore, ?_⟩
    · rw [show (noteReport (planeReady p s)).mem = (planeReady p s).mem from hnote .mem (by simp)]
      exact readByte_clearPlane_any s.mem p a
    · rw [show (noteReport (planeReady p s)).rm = (planeReady p s).rm from hnote .rm (by simp), planeReady, if_pos hmask]
      exact ⟨rfl, rfl⟩
    · rw [show (noteReport (planeReady p s)).rm = (planeReady p s).rm from hnote .rm (by simp), planeReady, hmask]
      rfl
    · refine changesOnly_trans (t := planeReady p s) (changesOnly_of fun p => ?_) (changesOnly_mono (by simp) hnote)
      cases p with
      | planes | mem | rm => exact .inl (by simp)
      | _ => exact .inr rfl
  · have hexec : exec c s = .next (noteReport (planeFaulty p s)) := by
      obtain rfl | rfl := hc
      · exact exec_planeInitEnd false hpin hinit
      · exact exec_planeInitTimeout hpin hinit
    have hnote := noteReport_changesOnly (planeFaulty p s)
    obtain ⟨hlast, hmore⟩ := noteReport_su (s := s) (p := p) (u := planeFaulty p s) rfl rfl nofun
    have hts : (noteReport (planeFaulty p s)).ts = (planeFaulty p s).ts := hnote .ts (by simp)
    refine ⟨_, hexec, hnote .planes (by simp), fun q => ?_, ?_, hlast, hmore, ?_⟩
    · rw [hts]; exact inPlaneSet_removePlane _ p q
    · rw [hts]; rfl
    · refine changesOnly_trans (t := planeFaulty p s) (changesOnly_of fun p => ?_) (changesOnly_mono (by simp) hnote)
      cases p with
      | planes | ts => exact .inl (by simp)
      | _ => exact .inr rfl

end Sys2Proof.Machine
end

section
/-! PROOFS. The completions of intake writes (R55, R57, R80, R99, R100, R107). -/

namespace Sys2Proof.Machine

open Sys2Proof.Safety

/-! ## What RM makes of a completion (R78, R80, R100) -/

section
variable {rm : Ring} {b : BlockId}

/-- A block that joins its class queue is QUEUED. -/
theorem Ring.block_enqueue {k : ClassId} (h : (rm.block b).cls = some k) :
    (rm.enqueue b).block b = { rm.block b with state := .queued } := by
  have hheld : rm.holds b := by
    by_contra hnot
    rw [Ring.holds, Option.not_isSome_iff_eq_none] at hnot
    rw [Ring.block, hnot] at h
    cases h
  rw [Ring.enqueue_eq h]
  exact Ring.block_modify _ hheld

theorem Ring.block_enqueue_ne {b' : BlockId} (h : b' ≠ b) : (rm.enqueue b).block b' = rm.block b' := by
  cases hk : (rm.block b).cls with
  | none => simp only [Ring.enqueue, hk]
  | some k => rw [Ring.enqueue_eq hk]; exact Ring.block_modify_ne _ h

/-- RM with `n` bytes less of the block unwritten. -/
def Ring.lessUnwritten (rm : Ring) (b : BlockId) (n : Nat) : Ring := rm.modify b (fun d => { d with unwritten := d.unwritten - n })

theorem Ring.block_lessUnwritten (rm : Ring) (b : BlockId) (n : Nat) :
    (rm.lessUnwritten b n).block b = { rm.block b with unwritten := (rm.block b).unwritten - n } := by
  by_cases hheld : rm.holds b
  · exact Ring.block_modify _ hheld
  · rw [Ring.lessUnwritten, Ring.modify_of_not_holds _ hheld]
    rw [Ring.holds, Option.not_isSome_iff_eq_none] at hheld
    rw [Ring.block, hheld]
    exact congrArg (fun n => { Descriptor.cleared _ with unwritten := n }) (Nat.zero_sub n).symm

/-- A SEALING block whose last bytes are written joins its class queue. -/
theorem Ring.written_of_last {n : Nat} (hstate : (rm.block b).state = .sealing) (hn : (rm.block b).unwritten ≤ n) :
    rm.written b n = (rm.lessUnwritten b n).enqueue b := by
  have hlast : ((rm.lessUnwritten b n).block b).state = .sealing ∧ ((rm.lessUnwritten b n).block b).unwritten = 0 := by
    rw [Ring.block_lessUnwritten]
    exact ⟨hstate, Nat.sub_eq_zero_of_le hn⟩
  exact if_pos hlast

theorem Ring.written_of_more {n : Nat} (h : (rm.block b).state = .sealing → ¬ (rm.block b).unwritten ≤ n) :
    rm.written b n = rm.lessUnwritten b n := by
  have hmore : ¬ (((rm.lessUnwritten b n).block b).state = .sealing ∧ ((rm.lessUnwritten b n).block b).unwritten = 0) := by
    rw [Ring.block_lessUnwritten]
    exact fun ⟨hstate, hn⟩ => h hstate (Nat.sub_eq_zero_iff_le.mp hn)
  exact if_neg hmore

/-- What a completion makes of the block it belongs to. -/
theorem Ring.block_written (rm : Ring) (b : BlockId) (n : Nat) :
    (((rm.written b n).block b).unwritten = (rm.block b).unwritten - n) ∧ ((rm.written b n).block b).bytesUsed = (rm.block b).bytesUsed ∧
      ((rm.block b).state = .sealing → (rm.block b).unwritten ≤ n → (rm.block b).cls ≠ none →
        ((rm.written b n).block b).state = .queued) := by
  have hblock := rm.block_lessUnwritten b n
  by_cases hlast : (rm.block b).state = .sealing ∧ (rm.block b).unwritten ≤ n
  · rw [Ring.written_of_last hlast.1 hlast.2]
    cases hk : (rm.block b).cls with
    | none =>
      have hsame : (rm.lessUnwritten b n).enqueue b = rm.lessUnwritten b n := by
        simp only [Ring.enqueue, hblock, hk]
      rw [hsame, hblock]
      exact ⟨rfl, rfl, fun _ _ h => absurd rfl h⟩
    | some k =>
      rw [Ring.block_enqueue (k := k) (by rw [hblock]; exact hk), hblock]
      exact ⟨rfl, rfl, fun _ _ _ => rfl⟩
  · rw [Ring.written_of_more fun hs hn => hlast ⟨hs, hn⟩, hblock]
    exact ⟨rfl, rfl, fun hs hn => absurd ⟨hs, hn⟩ hlast⟩

theorem Ring.block_written_ne {b' : BlockId} (n : Nat) (h : b' ≠ b) : (rm.written b n).block b' = rm.block b' := by
  have hother : (rm.lessUnwritten b n).block b' = rm.block b' := Ring.block_modify_ne _ h
  by_cases hlast : (rm.block b).state = .sealing ∧ (rm.block b).unwritten ≤ n
  · rw [Ring.written_of_last hlast.1 hlast.2, Ring.block_enqueue_ne h, hother]
  · rw [Ring.written_of_more fun hs hn => hlast ⟨hs, hn⟩, hother]

end

/-- A selection keeps a block's counts, and a QUEUED block QUEUED unless it is selected. -/
theorem keptOrSelected_fields {d d' : Descriptor} (h : KeptOrSelected d d') :
    d'.unwritten = d.unwritten ∧ d'.bytesUsed = d.bytesUsed ∧ (d.state = .queued → d'.state = .queued ∨ d'.state = .sending) := by
  obtain rfl | h := h
  · exact ⟨rfl, rfl, .inl⟩
  · rw [h]; exact ⟨rfl, rfl, fun _ => .inr rfl⟩

/-! ## What lands in memory (R99) -/

theorem readBytes_of_bytes {m : List Host.Cell} : ∀ (bs : List Byte) (a : Nat),
    (∀ (i : Nat) (hi : i < bs.length), readByte m (a + i) = bs[i]) → readBytes m a bs.length = bs
  | [], _, _ => rfl
  | b :: bs, a, h => by
    have hrest := readBytes_of_bytes (m := m) bs (a + 1) fun i hi => by
      rw [Nat.add_assoc, Nat.add_comm 1 i]
      exact h (i + 1) (Nat.succ_lt_succ hi)
    have hhead : readByte m a = b := h 0 (Nat.succ_pos _)
    rw [List.length_cons, readBytes, hrest, hhead]

theorem readBytes_writeBytes {m : List Host.Cell} (a : Nat) (bs : List Byte) (h : Memory.wf m = true) :
    readBytes (writeBytes m a bs) a bs.length = bs :=
  readBytes_of_bytes bs a fun i hi => readByte_writeBytes_inside bs a i hi h

section
variable {s : State} {p : PlaneId} {c : ChannelId} {b : BlockId} {off : Nat} {bs : List Byte}

/-- The part with the bytes of an intake write in memory and the port free. -/
def landed (p : PlaneId) (b : BlockId) (off : Nat) (bs : List Byte) (s : State) : State := freePort p (storeBytes b off bs s)

theorem changesOnly_landed (p : PlaneId) (b : BlockId) (off : Nat) (bs : List Byte) (s : State) :
    ChangesOnly [.mem, .planes] s (landed p b off bs s) := changesOnly_of fun p => by
  cases p with
  | mem | planes => exact .inl (by simp)
  | _ => exact .inr rfl

theorem exec_headerWriteComplete {live : Bool} (hpin : s.su.resetLow = false)
    (hport : (s.planes[p]).port = some (.headerWrite c b off bs live)) (hmem : b * 1048576 + off + bs.length ≤ 8589934592) :
    exec (.headerWriteComplete p) s = .next (settle ((if live then headerWritten c b else id) (landed p b off bs s))) := by
  simp only [exec, execHeaderWriteComplete, hport]
  exact accessEnd_eq hpin hmem

theorem exec_payloadWriteComplete {live : Bool} (hpin : s.su.resetLow = false)
    (hport : (s.planes[p]).port = some (.payloadWrite c b off bs live)) (hmem : b * 1048576 + off + bs.length ≤ 8589934592) :
    exec (.payloadWriteComplete p) s = .next (settle ((if live then payloadWritten c b bs.length else id) (landed p b off bs s))) := by
  simp only [exec, execPayloadWriteComplete, hport]
  exact accessEnd_eq hpin hmem

theorem changesOnly_chans_rm (cs : Vector Channel 16) (rm : Ring) :
    ChangesOnly [.chans, .rm] s { s with chans := cs, rm := rm } := changesOnly_of fun p => by
  cases p with
  | chans | rm => exact .inl (by simp)
  | _ => exact .inr rfl

/-- The parts a completion reaches. -/
def completionParts : List Part := [.mem, .chans, .rm, .planes, .ds]

/-- What every intake write's end does to memory and to the part around the channel and the block. -/
structure WriteEnd (s u : State) (c : ChannelId) (b : BlockId) (off : Nat) (bs : List Byte) : Prop where
  mem : u.mem = writeBytes s.mem (b * 1048576 + off) bs
  others : OtherChannelsKept c s u
  blocks : ∀ b', b' ≠ b → u.rm.block b' = s.rm.block b'
  free : u.rm.free = s.rm.free
  only : ChangesOnly completionParts s u

theorem writeEnd_landed : WriteEnd s (landed p b off bs s) c b off bs :=
  ⟨rfl, fun _ _ => rfl, fun _ _ => rfl, rfl, changesOnly_mono (by decide) (changesOnly_landed p b off bs s)⟩

/-- With the channel replaced and the block's unwritten bytes taken off. -/
theorem writeEnd_written (ch : Channel) (n : Nat) : WriteEnd s
    { landed p b off bs s with chans := put s.chans c ch, rm := s.rm.written b n } c b off bs :=
  ⟨rfl, fun _ hd => get_put_ne _ _ hd.symm, fun _ => Ring.block_written_ne n, Ring.written_free _ _ _,
    changesOnly_trans (changesOnly_mono (by decide) (changesOnly_landed p b off bs s))
      (changesOnly_mono (by decide) (changesOnly_chans_rm _ _))⟩

/-- What DS and the arbiters then do reaches none of it. -/
theorem WriteEnd.settled {u : State} (h : WriteEnd s u c b off bs) (hwf : MemoryCanonical s) :
    readBytes (settle u).mem (b * 1048576 + off) bs.length = bs ∧ BytesKeptOutside (b * 1048576 + off) bs.length s (settle u) ∧
      OtherChannelsKept c s (settle u) ∧ OtherBlocksKept b s (settle u) ∧ (settle u).rm.free = s.rm.free ∧
      ChangesOnly completionParts s (settle u) ∧ KeptOrSelected (u.rm.block b) ((settle u).rm.block b) := by
  obtain ⟨hfree, hblocks⟩ := settle_onlySelects u
  rw [BytesKeptOutside, OtherChannelsKept, settle_mem, settle_chans, h.mem]
  exact ⟨readBytes_writeBytes _ bs hwf, fun x hx => readByte_writeBytes_outside bs _ x hwf hx, h.others,
    fun b' hb' => by rw [← h.blocks b' hb']; exact hblocks b', hfree.trans h.free, changesOnly_settle h.only (by decide), hblocks b⟩

end

theorem closeIfDone_nextIndex (ch : Channel) : ch.closeIfDone.nextIndex = ch.nextIndex := by
  unfold Channel.closeIfDone
  split <;> rfl

/-- Settles O28, by whether the write is live. -/
theorem headerWriteStoresTheHeader : Obligations.HeaderWriteStoresTheHeader := by
  unfold Obligations.HeaderWriteStoresTheHeader
  intro s p c b off bs live hpin hwf hport hmem
  have hexec := exec_headerWriteComplete hpin hport hmem
  cases live with
  | true =>
    obtain ⟨hrecord, -, hruns, hwaiting⟩ := closeIfDone_staging { s.chans[c] with waiting := (s.chans[c]).waiting.tail }
    have hnext := closeIfDone_nextIndex { s.chans[c] with waiting := (s.chans[c]).waiting.tail }
    have hend : WriteEnd s (headerWritten c b (landed p b off bs s)) c b off bs := writeEnd_written _ 32
    have hch : (headerWritten c b (landed p b off bs s)).chans[c] =
        ({ s.chans[c] with waiting := (s.chans[c]).waiting.tail }).closeIfDone := get_put_self _ _ _
    have hrm : (headerWritten c b (landed p b off bs s)).rm = s.rm.written b 32 := rfl
    rw [if_pos rfl] at hexec
    generalize headerWritten c b (landed p b off bs s) = u at hexec hend hch hrm
    obtain ⟨hread, houtside, hchans, hblocks, hfree, honly, hblock⟩ := hend.settled hwf
    obtain ⟨hunwritten, hused, hstate⟩ := keptOrSelected_fields hblock
    obtain ⟨hunwritten', hused', hstate'⟩ := s.rm.block_written b 32
    rw [hrm] at hunwritten hused hstate
    refine ⟨_, hexec, hread, houtside, hchans, hblocks, fun _ => ?_, nofun, hfree, honly⟩
    rw [settle_chans, hch]
    exact ⟨hwaiting, hruns, hrecord, hnext, hunwritten.trans hunwritten', hused.trans hused', fun h1 h2 h3 => hstate (hstate' h1 h2 h3)⟩
  | false =>
    rw [if_neg Bool.false_ne_true, id_eq] at hexec
    obtain ⟨hread, houtside, hchans, hblocks, hfree, honly, hblock⟩ :=
      (writeEnd_landed (s := s) (p := p) (c := c) (b := b) (off := off) (bs := bs)).settled hwf
    exact ⟨_, hexec, hread, houtside, hchans, hblocks, nofun, fun _ => ⟨settle_chans _, hblock⟩, hfree, honly⟩

/-- Settles O29, by whether the write is live. -/
theorem payloadWriteStoresThePiece : Obligations.PayloadWriteStoresThePiece := by
  unfold Obligations.PayloadWriteStoresThePiece
  intro s p c b off bs live hpin hwf hport hmem
  have hexec := exec_payloadWriteComplete hpin hport hmem
  cases live with
  | true =>
    obtain ⟨hrecord, hpack, hruns, hwaiting⟩ := closeIfDone_staging { s.chans[c] with runs := pieceWritten bs.length (s.chans[c]).runs }
    have hnext := closeIfDone_nextIndex { s.chans[c] with runs := pieceWritten bs.length (s.chans[c]).runs }
    have hend : WriteEnd s (payloadWritten c b bs.length (landed p b off bs s)) c b off bs := writeEnd_written _ bs.length
    have hch : (payloadWritten c b bs.length (landed p b off bs s)).chans[c] =
        ({ s.chans[c] with runs := pieceWritten bs.length (s.chans[c]).runs }).closeIfDone := get_put_self _ _ _
    have hrm : (payloadWritten c b bs.length (landed p b off bs s)).rm = s.rm.written b bs.length := rfl
    rw [if_pos rfl] at hexec
    generalize payloadWritten c b bs.length (landed p b off bs s) = u at hexec hend hch hrm
    obtain ⟨hread, houtside, hchans, hblocks, hfree, honly, hblock⟩ := hend.settled hwf
    obtain ⟨hunwritten, hused, hstate⟩ := keptOrSelected_fields hblock
    obtain ⟨hunwritten', hused', hstate'⟩ := s.rm.block_written b bs.length
    rw [hrm] at hunwritten hused hstate
    refine ⟨_, hexec, hread, houtside, hchans, hblocks, fun _ => ?_, nofun, hfree, honly⟩
    rw [settle_chans, hch]
    refine ⟨fun r rest hr hlen => ?_, hwaiting, hrecord, hnext, hunwritten.trans hunwritten', hused.trans hused',
      fun h1 h2 h3 => hstate (hstate' h1 h2 h3)⟩
    rw [occupancy_eq, occupancy_eq, hruns, hpack, hr, pendingBytes_pieceWritten, pendingBytes_cons]
    dsimp only
    omega
  | false =>
    rw [if_neg Bool.false_ne_true, id_eq] at hexec
    obtain ⟨hread, houtside, hchans, hblocks, hfree, honly, hblock⟩ :=
      (writeEnd_landed (s := s) (p := p) (c := c) (b := b) (off := off) (bs := bs)).settled hwf
    exact ⟨_, hexec, hread, houtside, hchans, hblocks, nofun, fun _ => ⟨settle_chans _, hblock⟩, hfree, honly⟩

end Sys2Proof.Machine
end

section
/-! PROOFS. The Spool Link's choice of forward frames (R118, R144, R147). -/

namespace Sys2Proof.Machine

open Sys2Proof.Safety

section
variable {s : State}

/-! ## The DATA frame that is ready (R118) -/

theorem frames_eq (rm : Ring) (b : BlockId) : rm.frames b = ((rm.block b).bytesUsed + 4095) / 4096 :=
  congrArg (· / 4096) (Nat.add_sub_assoc (by decide : 1 ≤ 4096) _)

/-- The earliest frame that has not begun stands behind entries whose frames all have. -/
theorem nextFrame_of_before {rm : Ring} {e : SlotEntry} {rest : List SlotEntry} (he : e.begun < rm.frames e.block) :
    ∀ {before : List SlotEntry}, (∀ x ∈ before, rm.frames x.block ≤ x.begun) →
      nextFrame rm (before ++ e :: rest) = some (e.block, e.begun)
  | [], _ => if_pos he
  | x :: before, h => by
    have hx : ¬ x.begun < rm.frames x.block := not_lt.mpr (h x List.mem_cons_self)
    rw [List.cons_append, nextFrame, if_neg hx]
    exact nextFrame_of_before he fun y hy => h y (List.mem_cons_of_mem _ hy)

theorem Half.holds_iff {hf : Half} {b : BlockId} {i : Nat} :
    hf.holds b i = true ↔ hf.state = .loaded ∧ ∃ f, hf.frame = some f ∧ f.block = b ∧ f.frame = i := by
  rw [Half.holds, Bool.and_eq_true, decide_eq_true_iff]
  refine and_congr_right fun _ => ?_
  cases hf.frame with
  | none => simp
  | some f => simp

theorem dataReady_eq_some {h : Fin 2} (hr : dataReady s = some h) : s.sl.state = .ready ∧ s.mu.stream ≠ .halt ∧
    ∃ b i, nextFrame s.rm s.ds.slot = some (b, i) ∧ (s.ds.halves[h]).holds b i = true := by
  unfold dataReady at hr
  split at hr
  · next hon =>
    split at hr
    · cases hr
    · next b i hn => exact ⟨hon.1, hon.2, b, i, hn, by simpa using List.find?_some hr⟩
  · cases hr

theorem dataReady_of_not (h : s.sl.state ≠ .ready ∨ s.mu.stream = .halt) : dataReady s = none :=
  if_neg fun hon => h.elim (fun h => h hon.1) fun h => hon.2 h

/-- With one half holding the earliest frame, and the other not, that half's frame is ready. -/
theorem dataReady_of_half {h : Fin 2} {b : BlockId} {i : Nat} (hlink : s.sl.state = .ready) (hstream : s.mu.stream ≠ .halt)
    (hnext : nextFrame s.rm s.ds.slot = some (b, i)) (hh : (s.ds.halves[h]).holds b i = true)
    (hother : ∀ k, k ≠ h → (s.ds.halves[k]).holds b i = false) : dataReady s = some h := by
  have hready : dataReady s = ([0, 1] : List (Fin 2)).find? fun k => (s.ds.halves[k]).holds b i := by
    simp only [dataReady, hlink, hstream, ne_eq, not_false_eq_true, and_self, if_true, hnext]
  rw [hready]
  match h with
  | 0 => exact List.find?_cons_of_pos hh
  | 1 =>
    rw [List.find?_cons_of_neg (by rw [hother 0 (by decide)]; exact Bool.false_ne_true)]
    exact List.find?_cons_of_pos hh

/-! ## The choice (R147) -/

theorem exec_forwardFrameStart (hpin : s.su.resetLow = false) (hup : s.sl.state = .syncWait ∨ s.sl.state = .ready)
    (htx : s.sl.tx = none) : exec .forwardFrameStart s = .next (startFrameOf s) :=
  released_onlyWhen_eq _ hpin (by rw [(Link.up_iff _).mpr hup, htx]; rfl)

theorem startFrameOf_of_hello (h : s.sl.helloDue = true) : startFrameOf s = startHello s := if_pos h

section
variable (hhello : s.sl.helloDue = false)
include hhello

theorem startFrameOf_of_reply {r : Reply} (h : replyReady s = some r) : startFrameOf s = startReply r s := by
  simp only [startFrameOf, hhello, Bool.false_eq_true, if_false, h]

variable (hreply : replyReady s = none)
include hreply

theorem startFrameOf_of_mark {m : Mark} (h : markReady s = some m) : startFrameOf s = startMark m s := by
  simp only [startFrameOf, hhello, Bool.false_eq_true, if_false, hreply, startMarkOrLower, h]

variable (hmark : markReady s = none)
include hmark

theorem startFrameOf_of_data {h : Fin 2} (hd : dataReady s = some h) : startFrameOf s = startData h s := by
  simp only [startFrameOf, hhello, Bool.false_eq_true, if_false, hreply, startMarkOrLower, hmark, startDataOrFill, hd]

theorem startFrameOf_of_fill (hd : dataReady s = none) : startFrameOf s = setTx (some .fill) s := by
  simp only [startFrameOf, hhello, Bool.false_eq_true, if_false, hreply, startMarkOrLower, hmark, startDataOrFill, hd]

end

theorem replyReady_of_head {r : Reply} {rest : List Reply} (h : s.mu.replies = r :: rest) (htx : s.mu.replyInTx = false) :
    replyReady s = some r := by
  rw [replyReady, htx, h]; rfl

theorem replyReady_of_none (h : s.mu.replies = [] ∨ s.mu.replyInTx = true) : replyReady s = none := by
  unfold replyReady
  obtain h | h := h
  · rw [h]; exact ite_self _
  · rw [h]; rfl

theorem markReady_of_head {m : Mark} {rest : List Mark} (hlink : s.sl.state = .ready) (h : s.marks.queue = m :: rest)
    (htx : s.marks.headInTx = false) : markReady s = some m := by
  rw [markReady, hlink, htx, h]; rfl

theorem markReady_of_none (h : s.sl.state = .syncWait ∨ s.marks.queue = [] ∨ s.marks.headInTx = true) : markReady s = none := by
  unfold markReady
  obtain h | h | h := h
  · rw [h]; rfl
  · rw [h]; exact ite_self _
  · rw [h, Bool.not_true, Bool.and_false]; rfl

/-- Every start puts a frame in transmission, and makes no HELLO due. -/
theorem startFrameOf_tx (s : State) : (startFrameOf s).sl.tx ≠ none ∧ (s.sl.helloDue = false → (startFrameOf s).sl.helloDue = false) := by
  unfold startFrameOf startMarkOrLower startDataOrFill
  split
  · exact ⟨nofun, fun _ => rfl⟩
  · split
    · exact ⟨nofun, id⟩
    · split
      · exact ⟨nofun, id⟩
      · split
        · exact ⟨nofun, id⟩
        · exact ⟨nofun, id⟩

theorem changesOnly_sl (l : Link) : ChangesOnly [.sl] s { s with sl := l } := changesOnly_of fun p => by
  cases p with
  | sl => exact .inl (by simp)
  | _ => exact .inr rfl

theorem changesOnly_startReply (r : Reply) : ChangesOnly [.sl, .mu] s (startReply r s) := changesOnly_of fun p => by
  cases p with
  | sl | mu => exact .inl (by simp)
  | _ => exact .inr rfl

theorem changesOnly_startMark (m : Mark) : ChangesOnly [.sl, .marks] s (startMark m s) := changesOnly_of fun p => by
  cases p with
  | sl | marks => exact .inl (by simp)
  | _ => exact .inr rfl

theorem changesOnly_startData (h : Fin 2) : ChangesOnly [.sl, .ds] s (startData h s) := changesOnly_of fun p => by
  cases p with
  | sl | ds => exact .inl (by simp)
  | _ => exact .inr rfl

end

/-- Settles O39: the choice by its order, and the DATA frame that is ready by the slot and the halves. -/
theorem frameStartsFollowTheOrder : Obligations.FrameStartsFollowTheOrder := by
  unfold Obligations.FrameStartsFollowTheOrder
  intro s hpin hup htx
  obtain ⟨htx', hdue⟩ := startFrameOf_tx s
  refine ⟨_, exec_forwardFrameStart hpin hup htx, htx', fun hhello => ?_, fun hhello => ⟨hdue hhello, fun r rest hr hfree => ?_,
    fun hreply => ⟨fun m rest hlink hm hfree => ?_, fun hmark => ⟨fun h hd => ?_, fun hd => ?_⟩⟩⟩, dataReady_of_not, fun h hd => ?_,
    fun before rest e h f hlink hstream hslot hbefore he hhalf hb hi hother => ?_⟩
  · rw [startFrameOf_of_hello hhello]
    exact ⟨⟨s.hello, rfl, rfl, rfl, rfl, rfl, rfl, rfl, rfl, rfl⟩, rfl, changesOnly_sl _⟩
  · rw [startFrameOf_of_reply hhello (replyReady_of_head hr hfree)]
    exact ⟨rfl, rfl, changesOnly_startReply r⟩
  · rw [startFrameOf_of_mark hhello (replyReady_of_none hreply) (markReady_of_head hlink hm hfree)]
    exact ⟨rfl, rfl, changesOnly_startMark m⟩
  · rw [startFrameOf_of_data hhello (replyReady_of_none hreply) (markReady_of_none hmark) hd]
    have hhalf : (startData h s).ds.halves[h] = { s.ds.halves[h] with state := .transmitting } := get_put_self _ _ _
    rw [hhalf]
    exact ⟨rfl, rfl, rfl, changesOnly_startData h⟩
  · rw [startFrameOf_of_fill hhello (replyReady_of_none hreply) (markReady_of_none hmark) hd]
    exact ⟨rfl, changesOnly_sl _⟩
  · obtain ⟨-, -, b, i, hnext, hholds⟩ := dataReady_eq_some hd
    obtain ⟨hstate, f, hf, hb, hi⟩ := Half.holds_iff.mp hholds
    exact ⟨f, b, i, hstate, hf, hnext, hb, hi⟩
  · have hnext : nextFrame s.rm s.ds.slot = some (e.block, e.begun) := by
      rw [hslot]
      exact nextFrame_of_before (he.trans_eq (frames_eq _ _).symm) fun x hx => (frames_eq _ _).trans_le (hbefore x hx)
    refine dataReady_of_half hlink hstream hnext (by rw [hhalf]; exact Half.holds_iff.mpr ⟨rfl, f, rfl, hb, hi⟩) fun k hk => ?_
    refine Bool.eq_false_iff.mpr fun hholds => ?_
    obtain ⟨hstate, f', hf', hb', hi'⟩ := Half.holds_iff.mp hholds
    exact hother k f' hk (by rw [← hstate, ← hf']) hb' hi'

end Sys2Proof.Machine
end

section
/-! PROOFS. Events common to the channels, taken one channel after another (log entry 7); and the ends of frames (R119, R132, R148). -/

namespace Sys2Proof.Machine

open Sys2Proof.Safety

/-! ## The order of a common event -/

theorem mem_firstPlaces {c : ChannelId} : ∀ {o : List ChannelId}, c ∈ firstPlaces o ↔ c ∈ o
  | [] => Iff.rfl
  | d :: t => by
    rw [firstPlaces, List.mem_cons, List.mem_cons, List.mem_filter, mem_firstPlaces (o := t)]
    by_cases h : c = d <;> simp [h]

theorem nodup_firstPlaces : ∀ o : List ChannelId, (firstPlaces o).Nodup
  | [] => List.nodup_nil
  | d :: t => by
    refine List.nodup_cons.mpr ⟨fun h => ?_, (nodup_firstPlaces t).filter _⟩
    simpa using (List.mem_filter.mp h).2

/-- Each channel takes a common event once. -/
theorem nextOrder_complete (s : State) : (nextOrder s).Nodup ∧ ∀ c, c ∈ nextOrder s := by
  unfold nextOrder completeOrder
  generalize s.orders.headD [] = o
  refine ⟨List.nodup_append'.mpr ⟨nodup_firstPlaces o, allChannels_nodup.filter _, fun c hc hf => ?_⟩, fun c => ?_⟩
  · have hmem := mem_firstPlaces.mp hc
    have := (List.mem_filter.mp hf).2
    simp [hmem] at this
  · rw [List.mem_append, mem_firstPlaces, List.mem_filter]
    by_cases hc : c ∈ o
    · exact .inl hc
    · exact .inr ⟨mem_allChannels c, by simp [hc]⟩

/-- A common event by the channels that have taken it: what holds of none, and is kept as one more takes it, holds of all. -/
theorem eachChannel_induct_done {P : Finset ChannelId → State → Prop} (f : ChannelId → State → State) (s : State)
    (h0 : P ∅ (dropOrder s)) (hf : ∀ done c t, c ∉ done → P done t → P (insert c done) (f c t)) :
    P Finset.univ (eachChannel f s) := by
  obtain ⟨hnodup, hall⟩ := nextOrder_complete s
  have hfold : ∀ (l : List ChannelId) (done : Finset ChannelId) (t : State), l.Nodup → (∀ c ∈ l, c ∉ done) → P done t →
      P (done ∪ l.toFinset) (l.foldl (fun t c => f c t) t) := by
    intro l
    induction l with
    | nil => intro done t _ _ h; simpa using h
    | cons c l ih =>
      intro done t hnodup hnot h
      obtain ⟨hc, hl⟩ := List.nodup_cons.mp hnodup
      have := ih (insert c done) (f c t) hl (fun d hd => by
        rw [Finset.mem_insert]
        rintro (rfl | hmem)
        · exact hc hd
        · exact hnot d (List.mem_cons_of_mem _ hd) hmem) (hf done c t (hnot c List.mem_cons_self) h)
      rwa [List.foldl_cons, List.toFinset_cons, Finset.union_insert, ← Finset.insert_union]
  have := hfold (nextOrder s) ∅ (dropOrder s) hnodup (fun c _ => Finset.notMem_empty c) h0
  have huniv : (∅ : Finset ChannelId) ∪ (nextOrder s).toFinset = Finset.univ := by
    refine Finset.eq_univ_of_forall fun c => ?_
    rw [Finset.empty_union, List.mem_toFinset]
    exact hall c
  rwa [huniv] at this

/-! ## A departure from the Mark Queue (R39, R130, R132) -/

/-- What a departure makes of a channel that was `a`: `q` is the Mark Queue after it. -/
inductive ReofferOutcome (a b : Channel) (q : List Mark) : Prop where
  | kept (h : a.state ≠ .closing ∨ a.gap = none) (hb : b = a)
  | given (g : Gap) (hstate : a.state = .closing) (hgap : a.gap = some g)
      (hb : b = { a with gap := none, state := if a.runs = [] ∧ a.waiting = [] then .idle else .closing })
      (hq : g.count ≠ 0#64 → Mark.gap g ∈ q)
  | refused (hb : b = a) (hfull : 64 ≤ q.length)

theorem ReofferOutcome.append {a b : Channel} {q : List Mark} (h : ReofferOutcome a b q) (more : List Mark) :
    ReofferOutcome a b (q ++ more) := by
  cases h with
  | kept h hb => exact .kept h hb
  | given g hstate hgap hb hq => exact .given g hstate hgap hb fun hc => List.mem_append_left _ (hq hc)
  | refused hb hfull => exact .refused hb (by rw [List.length_append]; omega)

section
variable {a b : Channel} {q : List Mark} (h : ReofferOutcome a b q)
include h

theorem ReofferOutcome.eq_of_not (hnot : a.state ≠ .closing ∨ a.gap = none) : b = a := by
  cases h with
  | kept _ hb => exact hb
  | given g hstate hgap _ _ => exact absurd (hgap.symm.trans (hnot.resolve_left fun h => h hstate)) nofun
  | refused hb _ => exact hb

theorem ReofferOutcome.of_given (hstate : a.state = .closing) (hgap : a.gap ≠ none) (hnone : b.gap = none) :
    b = { a with gap := none, state := if a.runs = [] ∧ a.waiting = [] then .idle else .closing } ∧
      ∀ g, a.gap = some g → g.count ≠ 0#64 → Mark.gap g ∈ q := by
  cases h with
  | kept hnot _ => exact absurd (hnot.resolve_left fun h => h hstate) hgap
  | given g _ hg hb hq =>
    refine ⟨hb, fun g' hg' hcount => ?_⟩
    obtain rfl : g = g' := Option.some.inj (hg.symm.trans hg')
    exact hq hcount
  | refused hb _ => exact absurd (hb ▸ hnone) hgap

theorem ReofferOutcome.eq_of_gap (hgap : b.gap ≠ none) : b = a := by
  cases h with
  | kept _ hb => exact hb
  | given g _ _ hb _ => exact absurd (congrArg Channel.gap hb) hgap
  | refused hb _ => exact hb

theorem ReofferOutcome.gap_of_room (hstate : a.state = .closing) (hroom : q.length < 64) : b.gap = none := by
  cases h with
  | kept hnot hb => rw [hb]; exact hnot.resolve_left fun h => h hstate
  | given g _ _ hb _ => exact congrArg Channel.gap hb
  | refused _ hfull => exact absurd hroom (not_lt.mpr hfull)

end

theorem closeIfDone_of_closing {ch : Channel} (hstate : ch.state = .closing) (hgap : ch.gap = none) :
    ch.closeIfDone = { ch with state := if ch.runs = [] ∧ ch.waiting = [] then .idle else .closing } := by
  unfold Channel.closeIfDone
  by_cases hdone : ch.runs = [] ∧ ch.waiting = []
  · have hwritten : ch.stagingWritten = true := by simp [Channel.stagingWritten, hdone]
    rw [if_pos ⟨hstate, hgap, hwritten⟩, if_pos hdone]
  · have hwritten : ch.stagingWritten ≠ true := by simpa [Channel.stagingWritten] using hdone
    rw [if_neg fun h => hwritten h.2.2, if_neg hdone, ← hstate]

theorem closeIfDone_of_gap {ch : Channel} (h : ch.gap ≠ none) : ch.closeIfDone = ch := if_neg fun hd => h hd.2.1

theorem offerAgain_of_gap {v : Env} {e : Engine} {g : Gap} (hstate : e.ch.state = .closing) (hgap : e.ch.gap = some g) :
    offerAgain v e = { (offerGap e).1 with ch := (offerGap e).1.ch.closeIfDone } :=
  if_pos ⟨hstate, by rw [hgap]; rfl⟩

theorem offerAgain_of_none {v : Env} {e : Engine} (h : e.ch.state ≠ .closing ∨ e.ch.gap = none) : offerAgain v e = e :=
  if_neg fun ⟨hstate, hgap⟩ => h.elim (fun h => h hstate) fun h => by rw [h] at hgap; cases hgap

/-- The marks a departure's re-offer adds, and what it makes of the channel. -/
theorem offerAgain_outcome (v : Env) (e : Engine) : (offerAgain v e).rm = e.rm ∧
    ∃ more, (offerAgain v e).marks = { e.marks with queue := e.marks.queue ++ more } ∧
      ReofferOutcome e.ch (offerAgain v e).ch (e.marks.queue ++ more) ∧
      ∀ x ∈ more, ∃ g, x = .gap g ∧ e.ch.state = .closing ∧ e.ch.gap = some g ∧ (offerAgain v e).ch.gap = none := by
  have hsame : e.marks = { e.marks with queue := e.marks.queue ++ [] } := by rw [List.append_nil]
  by_cases hoffers : e.ch.state ≠ .closing ∨ e.ch.gap = none
  · rw [offerAgain_of_none hoffers]
    exact ⟨rfl, [], hsame, .kept hoffers rfl, nofun⟩
  obtain ⟨hclosing, hholds⟩ := not_or.mp hoffers
  have hstate : e.ch.state = .closing := not_not.mp hclosing
  obtain ⟨g, hgap⟩ := Option.ne_none_iff_exists'.mp hholds
  rw [offerAgain_of_gap hstate hgap]
  have hdone := closeIfDone_of_closing (ch := { e.ch with gap := none }) hstate rfl
  obtain ⟨hnone, -⟩ | ⟨g', hg', hzero, hoffer⟩ | ⟨g', hg', -, -, hoffer⟩ | ⟨g', hg', -, hfull, hoffer⟩ := offerGap_cases e
  · exact absurd hnone hholds
  · obtain rfl : g = g' := Option.some.inj (hgap.symm.trans hg')
    rw [hoffer]
    exact ⟨rfl, [], hsame, .given g hstate hgap hdone fun h => absurd hzero h, nofun⟩
  · obtain rfl : g = g' := Option.some.inj (hgap.symm.trans hg')
    rw [hoffer]
    refine ⟨rfl, [.gap g], rfl, .given g hstate hgap hdone fun _ => by simp, fun x hx => ?_⟩
    exact ⟨g, List.mem_singleton.mp hx, hstate, hgap, congrArg Channel.gap hdone⟩
  · rw [hoffer, closeIfDone_of_gap hholds]
    exact ⟨rfl, [], hsame, .refused rfl (by rw [List.append_nil]; omega), nofun⟩

/-- A departure as taken by the channels in `done`, from part `u`. -/
structure Reoffered (u : State) (done : Finset ChannelId) (t : State) : Prop where
  only : ChangesOnly [.chans, .marks, .orders] u t
  flags : t.marks.headInTx = u.marks.headInTx ∧ t.marks.skip = u.marks.skip
  waiting : ∀ c, c ∉ done → t.chans[c] = u.chans[c]
  outcome : ∀ c ∈ done, ReofferOutcome u.chans[c] t.chans[c] t.marks.queue
  offered : ∃ offered, t.marks.queue = u.marks.queue ++ offered ∧ ∀ x ∈ offered, ∃ (c : ChannelId) (g : Gap), x = .gap g ∧
    (u.chans[c]).state = .closing ∧ (u.chans[c]).gap = some g ∧ (t.chans[c]).gap = none

theorem reoffered_dropOrder (u : State) : Reoffered u ∅ (dropOrder u) := by
  refine ⟨changesOnly_of fun p => ?_, ⟨rfl, rfl⟩, fun _ _ => rfl, fun c hc => absurd hc (Finset.notMem_empty c),
    [], (List.append_nil _).symm, nofun⟩
  cases p with
  | chans | marks | orders => exact .inl (by simp)
  | _ => exact .inr rfl

theorem onChannel_chans_self (f : Env → Engine → Engine) (c : ChannelId) (s : State) :
    (onChannel f c s).chans[c] = (f (s.env c) (s.engine c)).ch := get_put_self _ _ _

theorem onChannel_chans_ne (f : Env → Engine → Engine) {c d : ChannelId} (h : c ≠ d) (s : State) :
    (onChannel f c s).chans[d] = s.chans[d] := get_put_ne _ _ h

theorem Reoffered.insert {u t : State} {done : Finset ChannelId} {c : ChannelId} (h : Reoffered u done t) (hc : c ∉ done) :
    Reoffered u (insert c done) (onChannel offerAgain c t) := by
  obtain ⟨honly, ⟨hhead, hskip⟩, hwaiting, houtcome, offered, hqueue, hoffered⟩ := h
  obtain ⟨hrm, more, hmarks, hout, hmore⟩ := offerAgain_outcome (t.env c) (t.engine c)
  have hself := onChannel_chans_self offerAgain c t
  have hch : (t.engine c).ch = u.chans[c] := hwaiting c hc
  have hqueue' : (onChannel offerAgain c t).marks.queue = t.marks.queue ++ more := congrArg MarkUnit.queue hmarks
  have hother (d : ChannelId) (hd : d ∈ done) : (onChannel offerAgain c t).chans[d] = t.chans[d] :=
    onChannel_chans_ne _ (by rintro rfl; exact hc hd) t
  refine ⟨changesOnly_trans honly (changesOnly_of fun p => ?_), ⟨?_, ?_⟩, fun d hd => ?_, fun d hd => ?_, offered ++ more, ?_,
    fun x hx => ?_⟩
  · cases p with
    | chans | marks | orders => exact .inl (by simp)
    | rm => exact .inr hrm
    | _ => exact .inr rfl
  · exact (congrArg MarkUnit.headInTx hmarks).trans hhead
  · exact (congrArg MarkUnit.skip hmarks).trans hskip
  · obtain ⟨hdc, hdone⟩ := not_or.mp (Finset.mem_insert.not.mp hd)
    rw [onChannel_chans_ne _ (Ne.symm hdc), hwaiting d hdone]
  · rw [hqueue']
    obtain rfl | hdone := Finset.mem_insert.mp hd
    · rw [hself, ← hch]; exact hout
    · rw [hother d hdone]; exact (houtcome d hdone).append more
  · rw [hqueue', hqueue, List.append_assoc]
  · obtain hx | hx := List.mem_append.mp hx
    · obtain ⟨d, g, hxg, hstate, hgap, hnone⟩ := hoffered x hx
      refine ⟨d, g, hxg, hstate, hgap, ?_⟩
      by_cases hdc : c = d
      · subst hdc
        rw [hwaiting c hc, hgap] at hnone
        cases hnone
      · rw [onChannel_chans_ne _ hdc, hnone]
    · obtain ⟨g, hxg, hstate, hgap, hnone⟩ := hmore x hx
      rw [hch] at hstate hgap
      exact ⟨c, g, hxg, hstate, hgap, by rw [hself, hnone]⟩

theorem reoffered_eachChannel (u : State) : Reoffered u Finset.univ (eachChannel (onChannel offerAgain) u) :=
  eachChannel_induct_done (P := Reoffered u) _ u (reoffered_dropOrder u) fun _ _ _ hc h => h.insert hc

/-! ## The ends of frames (R148) -/

section
variable {s : State}

theorem exec_replyFrameEnd {r : Reply} (hpin : s.su.resetLow = false) (htx : s.sl.tx = some (.reply r)) :
    exec .replyFrameEnd s = .next (replySent (setTx none s)) := by
  simp only [exec, execReplyFrameEnd, htx, released_eq _ hpin]

theorem exec_markFrameEnd {m : Mark} {live : Bool} (hpin : s.su.resetLow = false) (htx : s.sl.tx = some (.mark m live)) :
    exec .markFrameEnd s = .next ((if live then markSent else id) (setTx none s)) := by
  simp only [exec, execMarkFrameEnd, htx, released_eq _ hpin]

/-- The end of a MARK begun before a stream reset is disregarded (R136). -/
theorem exec_markFrameEnd_of_stale {m : Mark} (hpin : s.su.resetLow = false) (htx : s.sl.tx = some (.mark m false)) :
    exec .markFrameEnd s = .next (setTx none s) := exec_markFrameEnd hpin htx

theorem exec_markFrameEnd_of_live {m : Mark} (hpin : s.su.resetLow = false) (htx : s.sl.tx = some (.mark m true)) :
    exec .markFrameEnd s = .next (markSent (setTx none s)) := exec_markFrameEnd hpin htx

/-- The part with the head of the Mark Queue gone. -/
def departed (s : State) : State :=
  { setTx none s with marks := { s.marks with queue := s.marks.queue.tail, headInTx := false } }

theorem markSent_eq (s : State) : markSent (setTx none s) = eachChannel (onChannel offerAgain) (departed s) := rfl

theorem changesOnly_departed (s : State) : ChangesOnly [.sl, .marks, .chans, .orders] s (departed s) := changesOnly_of fun p => by
  cases p with
  | sl | marks | chans | orders => exact .inl (by simp)
  | _ => exact .inr rfl

end

/-- Settles O40, source by source; a mark's departure by what it makes of each channel in turn. -/
theorem frameEndsReachTheirSource : Obligations.FrameEndsReachTheirSource := by
  unfold Obligations.FrameEndsReachTheirSource
  refine ⟨fun s h counts hpin htx => ?_, fun s r hpin htx => ?_, fun s m live hpin htx => ?_, fun s hpin htx => ?_⟩
  · refine ⟨_, ?_, rfl⟩
    simp only [exec, execHelloFrameEnd, htx, released_eq _ hpin]
  · refine ⟨_, exec_replyFrameEnd hpin htx, ?_⟩
    have hparts := startRequests_eq { setTx none s with mu := { s.mu with replies := s.mu.replies.tail, replyInTx := false } }
    obtain ⟨hmore, -, hintx⟩ := startFrom_mu s.mu.queue
      { setTx none s with mu := { s.mu with replies := s.mu.replies.tail, replyInTx := false } }
    refine ⟨congrArg State.sl hparts, hintx, hmore, startFrom_stream _ _, fun hqueue => ?_, ?_⟩
    · change (startFrom s.mu.queue _).mu = _
      rw [hqueue, startFrom, setQueue_mu, ← hqueue]
      rfl
    · refine changesOnly_of fun p => ?_
      rw [show replySent (setTx none s) = _ from hparts]
      cases p with
      | sl | mu => exact .inl (by simp)
      | _ => exact .inr rfl
  · cases live with
    | false =>
      refine ⟨_, exec_markFrameEnd_of_stale hpin htx, rfl, fun _ => rfl, nofun, changesOnly_mono (by simp) (changesOnly_sl _)⟩
    | true =>
      have hexec := exec_markFrameEnd_of_live hpin htx
      obtain ⟨honly, ⟨hhead, hskip⟩, -, houtcome, hoffered⟩ := reoffered_eachChannel (departed s)
      rw [markSent_eq] at hexec
      have hchans : (departed s).chans = s.chans := rfl
      have hsl : (eachChannel (onChannel offerAgain) (departed s)).sl = { s.sl with tx := none } := honly .sl (by simp)
      have hall := changesOnly_trans (changesOnly_departed s) (changesOnly_mono (by simp) honly)
      have hskip' : (departed s).marks.skip = s.marks.skip := rfl
      have hqueue' : (departed s).marks.queue = s.marks.queue.tail := rfl
      have hhead' : (departed s).marks.headInTx = false := rfl
      generalize eachChannel (onChannel offerAgain) (departed s) = t at *
      rw [hchans] at houtcome hoffered
      refine ⟨t, hexec, hsl, nofun, fun _ => ⟨hhead.trans hhead', hskip.trans hskip', hqueue' ▸ hoffered, fun c hc => ?_,
        fun c hstate hgap hnone => ?_, fun c hgap => ?_, fun hroom c hstate => ?_⟩, hall⟩
      · exact (houtcome c (Finset.mem_univ c)).eq_of_not hc
      · exact (houtcome c (Finset.mem_univ c)).of_given hstate hgap hnone
      · exact (houtcome c (Finset.mem_univ c)).eq_of_gap hgap
      · exact (houtcome c (Finset.mem_univ c)).gap_of_room hstate hroom
  · refine ⟨_, ?_, rfl⟩
    simp only [exec, execFillFrameEnd, htx, released_eq _ hpin]
    rfl

end Sys2Proof.Machine
end

section
/-! PROOFS. The two resets: what a stream reset leaves (R165) and what a device reset and the RESET pin give (R167, R175, R176). -/

namespace Sys2Proof.Machine

open Sys2Proof.Safety

section
variable {s : State}

/-! ## A review request in progress at a reset (R174, R175) -/

theorem abortReview_of_none (h : s.rp.slot = none) : abortReview s = s := by
  unfold abortReview; rw [h]

theorem abortReview_of_locate {c : ChannelId} {run : Byte} {index : Word64} {n : Nat} (h : s.rp.slot = some (.locate c run index n)) :
    abortReview s = emptySlot (respond ⟨1#8, .aborted, 0xFFFF#16, 0#16, []⟩ s) := by
  unfold abortReview; rw [h]; rfl

theorem abortReview_of_read {b : BlockId} {off len : Nat} (h : s.rp.slot = some (.read b off len)) :
    abortReview s = emptySlot (respondOpen 4#8 .aborted (BitVec.ofNat 16 b) s) := by
  unfold abortReview; rw [h]; rfl

theorem abortReview_slot (s : State) : (abortReview s).rp.slot = none := by
  unfold abortReview
  split
  · assumption
  all_goals rfl

theorem abortReview_eq (s : State) : abortReview s = { s with rp := (abortReview s).rp, fresh := (abortReview s).fresh } := by
  unfold abortReview; split <;> rfl

/-! ## Stream reset (R165) -/

/-- A plane at a stream reset: its access in progress goes unreported and its claims are withdrawn (R101, R102, R107). -/
def Plane.atStreamReset (p : Plane) : Plane :=
  { p with port := p.port.map Access.unreported, review := none, drain := [] }

theorem withdrawLoads_get (ps : Vector Plane 4) (p : PlaneId) : (withdrawLoads ps)[p] = { ps[p] with drain := [] } :=
  get_mapV _ ps p p.isLt

theorem streamReset_planes (s : State) (p : PlaneId) : (streamReset s).planes[p] = (s.planes[p]).atStreamReset := by
  obtain ⟨busy, n, -, harrive⟩ := takeArrivals_hold (resetChannels s) rfl
  unfold streamReset
  rw [harrive]
  have hreset : (resetChannels s).planes[p] = { s.planes[p] with port := ((s.planes[p]).port).map Access.unreported, review := none } := by
    refine (get_mapV _ (abortReview s).planes p p.isLt).trans ?_
    rw [abortReview_eq]
    rfl
  refine (withdrawLoads_get _ p).trans ?_
  dsimp only
  rw [hreset]
  rfl

theorem streamReset_channel (s : State) (c : ChannelId) : (streamReset s).chans[c] = (s.chans[c]).streamReset := by
  rw [streamReset_chans]
  exact get_mapV _ s.chans c c.isLt

/-- RM, DS and MK after a stream reset. -/
theorem streamReset_capture (s : State) : (streamReset s).rm = s.rm.streamReset s.ts.settings ∧
    (∃ ps, (streamReset s).ds = s.ds.streamReset ps) ∧ (streamReset s).marks = MarkUnit.reset := by
  obtain ⟨busy, n, -, harrive⟩ := takeArrivals_hold (resetChannels s) rfl
  unfold streamReset
  rw [harrive]
  unfold resetChannels
  rw [abortReview_eq]
  exact ⟨rfl, ⟨_, rfl⟩, rfl⟩

/-- RP after a stream reset: its slot empty, the request it held answered, and every arrival answered BUSY (R174). -/
theorem streamReset_review (s : State) : ∃ busy, List.Forall₂ BusyFor s.resetArrivals busy ∧ (streamReset s).resetArrivals = [] ∧
    (streamReset s).rp = { slot := none, hold := false, responses := (abortReview s).rp.responses ++ busy } := by
  obtain ⟨busy, n, hbusy, harrive⟩ := takeArrivals_hold (resetChannels s) rfl
  have harrivals : (resetChannels s).resetArrivals = s.resetArrivals := by rw [resetChannels, abortReview_eq]
  refine ⟨busy, harrivals ▸ hbusy, ?_, ?_⟩
  · unfold streamReset
    rw [harrive]
    rfl
  · have hslot := abortReview_slot s
    unfold streamReset
    rw [harrive]
    unfold resetChannels
    generalize abortReview s = a at hslot ⊢
    simp only [resetTables, resetRing, hslot]

theorem streamReset_changesOnly (s : State) :
    ChangesOnly [.resetArrivals, .mu, .chans, .rm, .ds, .marks, .ts, .planes, .sl, .rp, .fresh] s (streamReset s) := by
  obtain ⟨busy, n, -, harrive⟩ := takeArrivals_hold (resetChannels s) rfl
  unfold streamReset
  rw [harrive]
  unfold resetChannels
  rw [abortReview_eq]
  refine changesOnly_of fun p => ?_
  cases p with
  | ap | su | mem | pending | orders => exact .inr rfl
  | _ => exact .inl (by simp)

/-- RM after a stream reset: no block but in a free list, pressure evaluated on the free count then (R93). -/
theorem Ring.streamReset_emptied (st : Settings) (rm : Ring) : (rm.streamReset st).blocks = [] ∧
    (∀ k : ClassId, (rm.streamReset st).queues[k] = []) ∧ (rm.streamReset st).rotation = rm.rotation ∧
    (rm.streamReset st).level = pressureLevel st (rm.streamReset st).freeCount rm.level :=
  ⟨rfl, fun k => Vector.getElem_replicate k.isLt, rfl, rfl⟩

theorem Half.emptied_frame (inProgress : Bool) (hf : Half) : (hf.emptied inProgress).frame = none := by
  unfold Half.emptied
  split
  · rfl
  · split <;> rfl
  all_goals rfl

theorem emptyHalves_frame (ps : Vector Plane 4) (hs : Vector Half 2) (h : Fin 2) : ((emptyHalves ps hs)[h]).frame = none := by
  fin_cases h
  · exact Half.emptied_frame _ hs[0]
  · exact Half.emptied_frame _ hs[1]

/-- R151, R152: an up link goes on in SYNC_WAIT with a HELLO due. -/
theorem Link.streamReset_of_up {l : Link} (h : l.state = .syncWait ∨ l.state = .ready) : l.streamReset.state = .syncWait ∧
    l.streamReset.helloDue = true ∧ l.streamReset.helloSent = false ∧ l.streamReset.helloTimer = some 10 := by
  unfold Link.streamReset
  dsimp only
  rw [if_pos h.symm]
  exact ⟨rfl, rfl, rfl, rfl⟩

theorem Link.streamReset_of_down {l : Link} (h : l.state = .down ∨ l.state = .training) :
    l.streamReset.state = l.state ∧ l.streamReset.helloDue = l.helloDue := by
  unfold Link.streamReset
  dsimp only
  rw [if_neg (by obtain h | h := h <;> simp [h])]
  exact ⟨rfl, rfl⟩

/-- What the link keeps over a stream reset, and the reason its next HELLO gives (R143). -/
theorem Link.streamReset_frame (l : Link) : l.streamReset.lanes = l.lanes ∧ l.streamReset.rejected = l.rejected ∧
    l.streamReset.silenceTimer = l.silenceTimer ∧
    l.streamReset.reason = (if l.reason = .linkUp then .streamReset else l.reason) := by
  have hreason : l.reason.atStreamReset = (if l.reason = .linkUp then .streamReset else l.reason) := by
    cases l.reason <;> rfl
  unfold Link.streamReset
  dsimp only
  split
  all_goals exact ⟨rfl, rfl, rfl, hreason⟩

end

/-- Settles O56: each part of the reset step by step, from the request's meaning, which its reply leaves. -/
theorem streamResetEmptiesTheCapturePath : Obligations.StreamResetEmptiesTheCapturePath := by
  unfold Obligations.StreamResetEmptiesTheCapturePath
  intro s tag z1 z2 z3 r hserving
  have hexec : exec .resetStream s = .next (finish r (streamReset s, .ok, [])) :=
    released_serve_of_serving hserving rfl nofun rfl
  have hanswer := finish_answered r (streamReset s, .ok, [])
  have hstream := finish_stream r (streamReset s, .ok, [])
  have hmu := streamReset_mu s
  have hchans := streamReset_channel s
  have hts := streamReset_ts s
  have hplanes := streamReset_planes s
  have hsl := streamReset_sl s
  have honly := changesOnly_finish r (streamReset s, .ok, []) (streamReset_changesOnly s) (by simp)
  obtain ⟨hrm, ⟨ps, hds⟩, hmarks⟩ := streamReset_capture s
  obtain ⟨busy, hbusy, harrivals, hrp⟩ := streamReset_review s
  have hkeeps := finish_eq r (streamReset s, .ok, [])
  generalize streamReset s = u at *
  generalize finish r (u, .ok, []) = t at *
  obtain ⟨hblocks, hqueues, hrotation, hlevel⟩ := Ring.streamReset_emptied s.ts.settings s.rm
  obtain ⟨hlanes, hrejected, hsilence, hreason⟩ := s.sl.streamReset_frame
  refine ⟨t, hexec, by rwa [Answered, hmu] at hanswer, hstream.trans (congrArg Management.stream hmu), ?_⟩
  rw [hkeeps] at honly ⊢
  simp only [hts, hsl, hrm, hds, hmarks, harrivals, hrp] at honly ⊢
  refine ⟨hchans, streamReset_free s.ts.settings s.rm, hblocks, hqueues, hrotation, hlevel, rfl, rfl, rfl, rfl, rfl, rfl, rfl, rfl, rfl,
    rfl, emptyHalves_frame ps s.ds.halves, trivial, trivial, fun p => ?_, Link.streamReset_of_up, Link.streamReset_of_down, hlanes,
    hrejected, hsilence, hreason, trivial, trivial, ⟨busy, hbusy, trivial, fun h => ?_, fun b off len h => ?_, fun c run index n h => ?_⟩, honly⟩
  · rw [hplanes p]
    exact ⟨rfl, rfl, rfl, rfl, rfl, rfl, rfl, rfl⟩
  · rw [abortReview_of_none h]
  · rw [abortReview_of_read h]
    exact ⟨_, List.append_assoc ..⟩
  · rw [abortReview_of_locate h]
    exact List.append_assoc ..

/-! ## Device reset (R167, R175, R176) -/

/-- Settles O35: each part's reset values by definition; the three cases of the review slot; and the pin's fall plane by plane. -/
theorem deviceResetGivesTheResetValues : Obligations.DeviceResetGivesTheResetValues := by
  unfold Obligations.DeviceResetGivesTheResetValues
  refine ⟨fun s straps => ?_, fun s straps tag z1 z2 z3 hserving => ?_, fun s => ?_⟩
  · have habort := abortReview_eq s
    refine ⟨deviceReset straps s, rfl, rfl, rfl, fun c => Vector.getElem_replicate c.isLt, rfl, fun p => Vector.getElem_replicate p.isLt,
      rfl, rfl, rfl, rfl, rfl, rfl, rfl, fun h => ?_, fun c run index n h => ?_, fun b off len h => ?_, ?_, ?_, ?_, ?_⟩
    · exact ⟨(congrArg (fun t : State => t.rp.responses) (abortReview_of_none h) :), (congrArg State.fresh (abortReview_of_none h) :)⟩
    · exact congrArg (fun t : State => t.rp.responses) (abortReview_of_locate h)
    · exact ⟨_, congrArg (fun t : State => t.rp.responses) (abortReview_of_read h)⟩
    · exact (congrArg State.mem habort :)
    · exact (congrArg State.pending habort :)
    · exact (congrArg State.resetArrivals habort :)
    · exact (congrArg State.orders habort :)
  · obtain ⟨hpin, hstream, hprogress⟩ := hserving
    refine ⟨deviceReset straps s, (released_eq _ hpin).trans (congrArg _ ?_), rfl⟩
    simp only [serveDeviceReset, inProgressOf_of_row (row := .resetDevice) hprogress rfl]
    exact (if_neg hstream).trans (if_pos rfl)
  · refine ⟨resetPinLow s, rfl, rfl, rfl, fun p => ?_, rfl, rfl, changesOnly_of fun p => ?_⟩
    · have hplane : (resetPinLow s).planes[p] = { s.planes[p] with port := none, drain := [], review := none } :=
        get_mapV _ s.planes p p.isLt
      rw [hplane]
      exact ⟨rfl, rfl, rfl, rfl⟩
    · cases p with
      | su | ap | planes | sl => exact .inl (by simp)
      | _ => exact .inr rfl

end Sys2Proof.Machine
end

section
/-! PROOFS. The end of start-up and the flash image, entry by entry (R176 to R179). -/

namespace Sys2Proof.Machine

open Sys2Proof.Safety

section
variable {s : State}

/-! ## Table writes of an image's entries -/

theorem writeTable_eq (table : Nat) (no : Byte) (bs : List Byte) (s : State) : (writeTable table no bs s).1 =
    { s with ts := (writeTable table no bs s).1.ts, rm := (writeTable table no bs s).1.rm } := by
  unfold writeTable
  split
  · unfold writeSlotMap; split <;> rfl
  · unfold writeProfile; split <;> rfl
  · unfold writeChannel; split <;> rfl
  · unfold writeSettings
    split
    · split <;> rfl
    · rfl
  · rfl

/-- A write that is not answered OK has changed nothing. -/
theorem writeTable_of_not_ok {table : Nat} {no : Byte} {bs : List Byte} (h : (writeTable table no bs s).2 ≠ .ok) :
    (writeTable table no bs s).1 = s := by
  revert h
  unfold writeTable
  split
  · unfold writeSlotMap; split <;> simp
  · unfold writeProfile; split <;> simp
  · unfold writeChannel; split <;> simp
  · unfold writeSettings
    split
    · split <;> simp
    · simp
  · simp

theorem applyEntry_of_ok {u : State} {e : FlashEntry} (h : (writeTable e.table e.number e.payload u).2 = .ok) :
    applyEntry u e = (writeTable e.table e.number e.payload u).1 := if_pos h

theorem applyEntry_of_not_ok {u : State} {e : FlashEntry} (h : (writeTable e.table e.number e.payload u).2 ≠ .ok) :
    applyEntry u e = { u with su := { u.su with configFault := true } } := by
  refine (if_neg h).trans ?_
  rw [writeTable_of_not_ok h]

theorem applyEntry_changesOnly (u : State) (e : FlashEntry) : ChangesOnly [.su, .ts, .rm] u (applyEntry u e) := by
  by_cases h : (writeTable e.table e.number e.payload u).2 = .ok
  · rw [applyEntry_of_ok h, writeTable_eq]
    refine changesOnly_of fun p => ?_
    cases p with
    | ts | rm => exact .inl (by simp)
    | _ => exact .inr rfl
  · rw [applyEntry_of_not_ok h]
    refine changesOnly_of fun p => ?_
    cases p with
    | su => exact .inl (by simp)
    | _ => exact .inr rfl

theorem foldl_applyEntry_changesOnly (es : List FlashEntry) (s : State) :
    ChangesOnly [.su, .ts, .rm] s (es.foldl applyEntry s) := by
  induction es generalizing s with
  | nil => exact changesOnly_refl _ s
  | cons e es ih => exact changesOnly_trans (applyEntry_changesOnly s e) (ih _)

/-! ## The end of start-up (R179) -/

/-- In RUN: the channels whose entry says autostart are armed with run 1. -/
theorem endStartUp_run (hmode : s.su.mode = .flashRun) : (endStartUp true s).mu.stream = .run ∧
    (∀ c : ChannelId, (endStartUp true s).chans[c] =
      if ((s.ts.channels[c]).current).autostart then { s.chans[c] with state := .armed, run := 1#8 } else s.chans[c]) := by
  have he : endStartUp true s = startRequests (startUpOver true s) := congrArg startRequests (if_pos ⟨hmode, rfl⟩)
  rw [he]
  refine ⟨startRequests_stream, fun c => ?_⟩
  rw [startRequests_eq]
  exact autostart_get s.ts s.chans c

theorem endStartUp_standby {valid : Bool} (h : ¬ (s.su.mode = .flashRun ∧ valid = true)) :
    (endStartUp valid s).mu.stream = .standby ∧ (endStartUp valid s).chans = s.chans ∧
      ChangesOnly [.su, .mu] s (endStartUp valid s) := by
  have he : endStartUp valid s = startRequests (startUpOver false s) := congrArg startRequests (if_neg h)
  rw [he]
  refine ⟨startRequests_stream, by rw [startRequests_eq]; rfl, ?_⟩
  rw [startRequests_eq]
  refine changesOnly_of fun p => ?_
  cases p with
  | su | mu => exact .inl (by simp)
  | _ => exact .inr rfl

theorem endStartUp_changesOnly (valid : Bool) (s : State) : ChangesOnly [.su, .mu, .chans] s (endStartUp valid s) := by
  have he : ∃ run, endStartUp valid s = startRequests (startUpOver run s) := by
    by_cases h : s.su.mode = .flashRun ∧ valid = true
    · exact ⟨true, congrArg startRequests (if_pos h)⟩
    · exact ⟨false, congrArg startRequests (if_neg h)⟩
  obtain ⟨run, he⟩ := he
  rw [he, startRequests_eq]
  refine changesOnly_of fun p => ?_
  cases p with
  | su | mu | chans => exact .inl (by simp)
  | _ => exact .inr rfl

theorem exec_settleTimerExpiry (hpin : s.su.resetLow = false) (hphase : s.su.phase = .settle) (htimer : s.su.settleTimer ≠ none) :
    exec .settleTimerExpiry s = .next (settleEnds s) :=
  released_onlyWhen_eq settleEnds hpin (by rw [decide_eq_true hphase, Bool.true_and]; exact Option.isSome_iff_ne_none.mpr htimer)

/-- What an applied image comes to: the entries' tables, and start-up's end on them. -/
theorem endStartUp_of_applied {u : State} (hu : ChangesOnly [.su, .ts, .rm] s u) (hmode : u.su.mode = s.su.mode) :
    (endStartUp true u).su = { u.su with phase := .done, settleTimer := none } ∧ (endStartUp true u).ts = u.ts ∧
      (endStartUp true u).rm = u.rm ∧
      (s.su.mode = .flashRun → (endStartUp true u).mu.stream = .run ∧ ∀ c : ChannelId, (endStartUp true u).chans[c] =
        if ((u.ts.channels[c]).current).autostart then { s.chans[c] with state := .armed, run := 1#8 } else s.chans[c]) ∧
      (s.su.mode ≠ .flashRun → (endStartUp true u).mu.stream = .standby ∧ (endStartUp true u).chans = s.chans) := by
  have hend := endStartUp_changesOnly true u
  have hchans : u.chans = s.chans := hu .chans (by simp)
  refine ⟨endStartUp_su true u, hend .ts (by simp), hend .rm (by simp), fun hrun => ?_, fun hother => ?_⟩
  · rw [← hchans]
    exact endStartUp_run (hmode.trans hrun)
  · obtain ⟨hstream, hkept, -⟩ := endStartUp_standby (s := u) (valid := true) fun h => hother (hmode ▸ h.1)
    exact ⟨hstream, hkept.trans hchans⟩

end

/-! ## An image of one Slot Map entry (R177, R185) -/

/-- An image that announces one entry, a Slot Map one, and holds it and four bytes more. -/
theorem judgeImage_of_one_slotMap (no v c0 c1 c2 c3 : Byte) :
    judgeImage [1#8, 0#8, 0#8, 0#8, 1#8, no, 0#8, 0#8, v, 0#8, 0#8, 0#8, c0, c1, c2, c3] =
      if 4 ≤ 4 ∧ leAt [c0, c1, c2, c3] 0 4 = (crc32 [1#8, 0#8, 0#8, 0#8, 1#8, no, 0#8, 0#8, v, 0#8, 0#8, 0#8]).toNat
      then some [⟨1, no, [v, 0#8, 0#8, 0#8]⟩] else none := rfl

theorem judgeImage_slotMap (i : Fin 32) (x : Option ChannelId) :
    judgeImage (withCheck (leBytes 4 1 ++ [1#8, byteOf i.val, 0#8, 0#8] ++ slotMapBytes x)) =
      some [⟨1, byteOf i.val, slotMapBytes x⟩] := by
  have hone : leBytes 4 1 = [1#8, 0#8, 0#8, 0#8] := rfl
  rw [hone]
  refine (judgeImage_of_one_slotMap _ _ _ _ _ _).trans (if_pos ⟨le_rfl, ?_⟩)
  exact leAt_leBytes (pre := []) (post := []) rfl (word32_lt _)

theorem applyEntry_slotMap {s : State} (i : Fin 32) (x : Option ChannelId) (hstream : s.mu.stream = .init) :
    applyEntry s ⟨1, byteOf i.val, slotMapBytes x⟩ = { s with ts := { s.ts with slotMap := put s.ts.slotMap i ⟨x, none⟩ } } := by
  have hno : entryNumber 32 (byteOf i.val) = some i := by revert i; decide
  have hwrite := writeSlotMap_of_good s hno (decodeSlotMap_bytes x)
  have hnow : configuring s.mu.stream = true := by rw [hstream]; rfl
  rw [hnow] at hwrite
  exact (applyEntry_of_ok (u := s) (e := ⟨1, byteOf i.val, slotMapBytes x⟩) (congrArg Prod.snd hwrite)).trans
    (congrArg Prod.fst hwrite)

/-- Settles O34: each mode's end, an image applied entry by entry, and the image of one Slot Map entry as a case of it. -/
theorem startUpEndsInItsMode : Obligations.StartUpEndsInItsMode := by
  unfold Obligations.StartUpEndsInItsMode
  refine ⟨fun s hpin hphase htimer => ?_, fun s image hpin hphase hfailed => ?_, ?_,
    fun u e => ⟨applyEntry_of_ok, applyEntry_of_not_ok⟩, fun s i x hpin hphase hstream => ?_⟩
  · have hexec := exec_settleTimerExpiry hpin hphase htimer
    have hsu := settleEnds_su s
    by_cases hflash : s.su.mode = .flash ∨ s.su.mode = .flashRun
    · have he : settleEnds s = { s with su := { s.su with phase := .flashLoad, settleTimer := none } } :=
        if_pos (decide_eq_true hflash)
      rw [he] at hexec
      refine ⟨_, hexec, rfl, changesOnly_of fun p => ?_, fun h => ?_, fun _ => ⟨rfl, rfl⟩⟩
      · cases p with
        | su => exact .inl (by simp)
        | _ => exact .inr rfl
      · obtain h | h := h <;> simp [h] at hflash
    · have he : settleEnds s = endStartUp false s := if_neg fun h => hflash (of_decide_eq_true h)
      rw [he] at hexec
      obtain ⟨hstandby, -, honly⟩ := endStartUp_standby (s := s) (valid := false) nofun
      have hend := endStartUp_su false s
      exact ⟨_, hexec, by rw [hend], honly, fun _ => ⟨hstandby, by rw [hend]⟩, fun h => absurd h hflash⟩
  · have hexec := exec_flashReadComplete_eq image hpin hphase
    rw [loadImage_of_failed hfailed, imageFails] at hexec
    obtain ⟨hstandby, -, honly⟩ :=
      endStartUp_standby (s := { s with su := { s.su with configFault := true } }) (valid := false) nofun
    have hend := endStartUp_su false { s with su := { s.su with configFault := true } }
    refine ⟨_, hexec, hstandby, by rw [hend], by rw [hend], changesOnly_trans (changesOnly_of fun p => ?_) honly⟩
    cases p with
    | su => exact .inl (by simp)
    | _ => exact .inr rfl
  · intro s image es hpin hphase hstream hjudged u
    have hexec := exec_flashReadComplete_eq (some image) hpin hphase
    rw [loadImage_of_judged (image := some image) hjudged] at hexec
    obtain ⟨skipped, hsu⟩ := foldl_applyEntry_su es s
    have hu : ChangesOnly [.su, .ts, .rm] s u := foldl_applyEntry_changesOnly es s
    have hmode : u.su.mode = s.su.mode := by rw [hsu]
    obtain ⟨hend, hts, hrm, hrun, hother⟩ := endStartUp_of_applied hu hmode
    refine ⟨_, hexec, by rw [hend], by rw [hend], by rw [hend]; exact hmode, by rw [hend], hts, hrm, hrun, hother, ?_⟩
    exact changesOnly_trans (changesOnly_mono (by simp) hu) (changesOnly_mono (by simp) (endStartUp_changesOnly true u))
  · have hexec := exec_flashReadComplete_eq
      (some (withCheck (leBytes 4 1 ++ [1#8, byteOf i.val, 0#8, 0#8] ++ slotMapBytes x))) hpin hphase
    have happlied : [(⟨1, byteOf i.val, slotMapBytes x⟩ : FlashEntry)].foldl applyEntry s = _ := applyEntry_slotMap i x hstream
    have hjudged : (some (withCheck (leBytes 4 1 ++ [1#8, byteOf i.val, 0#8, 0#8] ++ slotMapBytes x))).bind judgeImage = _ :=
      judgeImage_slotMap i x
    rw [loadImage_of_judged hjudged, happlied] at hexec
    have honly := endStartUp_changesOnly true { s with ts := { s.ts with slotMap := put s.ts.slotMap i ⟨x, none⟩ } }
    have hset : ChangesOnly [.ts] s { s with ts := { s.ts with slotMap := put s.ts.slotMap i ⟨x, none⟩ } } := changesOnly_ts _ _
    obtain ⟨hend, hts, -, hrun, hother⟩ := endStartUp_of_applied (changesOnly_mono (by simp) hset) rfl
    refine ⟨_, hexec, by rw [hend], by rw [hend], hts, hrun, hother, ?_⟩
    exact changesOnly_trans (changesOnly_mono (by simp) hset) (changesOnly_mono (by simp) honly)

end Sys2Proof.Machine
end

section
/-! PROOFS. Settings writes: the judgement of a plane_mask, what a write that passes does at RM, and its answers (R75, R90, R159). -/

namespace Sys2Proof.Machine

open Sys2Proof.Safety

/-! ## What DS's own work leaves of RM -/

/-- RM with the pressure level as it was, and every block it holds no descriptor for still without one. -/
def Ring.AsideFromHeld (rm rm' : Ring) : Prop := rm'.level = rm.level ∧ ∀ b, ¬ rm.holds b → ¬ rm'.holds b

theorem Ring.AsideFromHeld.trans {rm rm' rm'' : Ring} (h : rm.AsideFromHeld rm') (h' : rm'.AsideFromHeld rm'') :
    rm.AsideFromHeld rm'' :=
  ⟨h'.1.trans h.1, fun b hb => h'.2 b (h.2 b hb)⟩

theorem Ring.asideFromHeld_modify (rm : Ring) (b : BlockId) (f : Descriptor → Descriptor) : rm.AsideFromHeld (rm.modify b f) := by
  refine ⟨Ring.modify_level .., fun x hx => ?_⟩
  rwa [Ring.holds_modify]

theorem selectOnce_asideFromHeld (allowed : Bool) (w : Vector Nat 4) (x : Drain × Ring) :
    x.2.AsideFromHeld (selectOnce allowed w x).2 := by
  obtain h | ⟨-, -, ⟨m, rest, -, h⟩ | ⟨-, -, h⟩⟩ := selectOnce_cases allowed w x
  · rw [h]; exact ⟨rfl, fun _ => id⟩
  · rw [h]; exact Ring.asideFromHeld_modify _ _ _
  · rw [h]
    obtain h | ⟨k, _, _, b, rest, -, -, -, h⟩ := selectNew_cases w x
    · rw [h]; exact ⟨rfl, fun _ => id⟩
    · rw [h]; exact Ring.asideFromHeld_modify { x.2 with queues := put x.2.queues k rest } b _

theorem settle_asideFromHeld (s : State) : s.rm.AsideFromHeld (settle s).rm := by
  have hrm : (settle s).rm = (selectBlocks s).rm := (grants_rm _).trans (claimLoads_rm _)
  rw [hrm]
  exact (selectOnce_asideFromHeld _ _ (s.ds, s.rm)).trans (selectOnce_asideFromHeld _ _ _)

theorem settle_level (s : State) : (settle s).rm.level = s.rm.level := (settle_asideFromHeld s).1

/-- A block RM holds no descriptor for is FREE where its plane has a free list, else OFFLINE (R71). -/
theorem Ring.block_of_not_holds {rm : Ring} {b : BlockId} (h : ¬ rm.holds b) :
    rm.block b = .cleared (if b < 8192 ∧ (rm.free[planeOf b]).isSome then .free else .offline) := by
  rw [Ring.holds, Option.not_isSome_iff_eq_none] at h
  simp only [Ring.block, h]
  rfl

theorem settle_block_of_not_holds {s : State} {b : BlockId} (h : ¬ s.rm.holds b) : (settle s).rm.block b = s.rm.block b := by
  obtain ⟨hfree, -⟩ := settle_onlySelects s
  rw [Ring.block_of_not_holds ((settle_asideFromHeld s).2 b h), Ring.block_of_not_holds h, hfree]

/-! ## The judgement of a plane_mask (R90) -/

section
variable {h : Holdings} {p : PlaneId} {b : BlockId}

/-- RM's test says that every block of the plane is FREE. -/
theorem Holdings.Kept.planeAllFree_iff (hk : h.Kept ∅) :
    h.rm.planeAllFree p = true ↔ ∀ b, b < 8192 → planeOf b = p → (h.rm.block b).state = .free := by
  simp only [Ring.planeAllFree, Bool.and_eq_true, List.all_eq_true, bne_iff_ne, ne_eq]
  refine ⟨fun ⟨hlist, hnone⟩ b hb hp => ?_, fun hall => ⟨?_, fun e he hp => ?_⟩⟩
  · have hfree : ¬ h.rm.holds b := fun hheld => hnone (b, _) (mem_of_tableGet (Ring.get_of_holds hheld)) hp
    subst hp
    rw [Ring.block_of_not_holds hfree, if_pos ⟨hb, hlist⟩]
    rfl
  · obtain ⟨b, hb, hp⟩ : ∃ b, b < 8192 ∧ planeOf b = p := by
      fin_cases p
      exacts [⟨0, by decide⟩, ⟨2048, by decide⟩, ⟨4096, by decide⟩, ⟨6144, by decide⟩]
    obtain ⟨l, hl, -⟩ := (hk.placed b (Set.notMem_empty b) .free (by decide)).mpr (hall b hb hp)
    rw [← hp, hl]
    rfl
  · have hheld : h.rm.holds e.1 := Option.isSome_iff_exists.mpr ⟨e.2, tableGet_of_mem hk.tabled.rising he⟩
    obtain ⟨hlt, hstate, -⟩ := hk.tabled.held e.1 hheld
    exact hstate (hall e.1 hlt hp)

end

section
variable {s : State} {x : Settings}

theorem writeSettings_of_refused {no : Byte} {bs : List Byte} (hno : entryNumber 1 no = some 0) (hbs : decodeSettings bs = some x)
    (hmask : x.planeMask ≠ s.ts.settings.planeMask) (h : maskAllowed x.planeMask s ≠ true) :
    writeSettings no bs s = (s, .refused) := by
  simp only [writeSettings, hno, hbs]
  exact if_neg (not_or.mpr ⟨hmask, h⟩)

theorem writeSettings_of_taken {no : Byte} {bs : List Byte} (hno : entryNumber 1 no = some 0) (hbs : decodeSettings bs = some x)
    (h : x.planeMask = s.ts.settings.planeMask ∨ maskAllowed x.planeMask s = true) :
    writeSettings no bs s = (applySettings x s, .ok) := by
  simp only [writeSettings, hno, hbs]
  exact if_pos h

theorem writeSettings_of_bad {no : Byte} {bs : List Byte} (hbs : decodeSettings bs = none) :
    writeSettings no bs s = (s, .badArg) := by
  simp only [writeSettings, hbs]
  split <;> simp_all

/-- What a Settings write answered `status` comes to, with `u` the part after the write itself. -/
structure SettingsOutcome (r : Request) (status : ReplyStatus) (s u t : State) : Prop where
  answered : Answered r status [] s t
  tables : t.ts = u.ts
  free : t.rm.free = u.rm.free
  level : t.rm.level = u.rm.level
  blocks : ∀ b, KeptOrSelected (u.rm.block b) (t.rm.block b)
  unheld : ∀ b, ¬ u.rm.holds b → t.rm.block b = u.rm.block b

theorem writeSettings_changesOnly (no : Byte) (bs : List Byte) (s : State) : ChangesOnly [.ts, .rm] s (writeSettings no bs s).1 := by
  have h := writeTable_eq 4 no bs s
  change (writeSettings no bs s).1 = _ at h
  rw [h]
  refine changesOnly_of fun p => ?_
  cases p with
  | ts | rm => exact .inl (by simp)
  | _ => exact .inr rfl

theorem settingsOutcome {r : Request} {u : State} {status : ReplyStatus}
    (h : writeSettings (byteAt r.contents 1) (r.contents.drop 4) s = (u, status)) :
    SettingsOutcome r status s u (settle (finish r (u, status, []))) := by
  have honly := writeSettings_changesOnly (byteAt r.contents 1) (r.contents.drop 4) s
  rw [h] at honly
  have hmu : u.mu = s.mu := honly .mu (by simp)
  obtain ⟨-, hanswer⟩ := finish_of_mu_eq (r := r) (x := (u, status, [])) hmu
  have hts : (finish r (u, status, [])).ts = u.ts := finish_ts r _
  have hrm : (finish r (u, status, [])).rm = u.rm := finish_rm r _
  generalize finish r (u, status, []) = w at *
  obtain ⟨hfree, hblocks⟩ := settle_onlySelects w
  have hlevel := settle_level w
  have hunheld := fun b => settle_block_of_not_holds (s := w) (b := b)
  rw [hrm] at hfree hblocks hlevel hunheld
  exact ⟨answered_settle hanswer, by rw [settle_ts, hts], hfree, hlevel, hblocks, hunheld⟩

theorem exec_tableWriteSettings {r : Request} (hserving : Serving r s) (hrow : r.row = some .tableWriteSettings)
    (hfits : lengthFits .tableWriteSettings r = true) :
    exec .tableWriteSettings s = .next (settle (finish r (tableWrite writeSettings r s))) := by
  refine (released_eq (fun u => settle (serve .tableWriteSettings (tableWrite writeSettings) u)) hserving.1).trans ?_
  rw [serve_of_serving hserving hrow nofun hfits]

/-! ## What a write that passes does (R75, R90, R159) -/

theorem Ring.freeCount_of_free {rm rm' : Ring} (h : rm'.free = rm.free) : rm'.freeCount = rm.freeCount := by
  simp only [Ring.freeCount, Ring.freeOf, h]

theorem Ring.block_of_free {rm rm' : Ring} {b : BlockId} (hblocks : rm'.blocks = rm.blocks)
    (hfree : rm'.free[planeOf b] = rm.free[planeOf b]) : rm'.block b = rm.block b := by
  simp only [Ring.block, hblocks, hfree]

theorem Ring.holds_of_blocks {rm rm' : Ring} (h : rm'.blocks = rm.blocks) (b : BlockId) : rm'.holds b ↔ rm.holds b := by
  rw [Ring.holds, Ring.holds, h]

theorem changePlane_level (old new : BitVec 4) (ready : Bool) (p : PlaneId) (rm : Ring) :
    (Ring.changePlane old new ready p rm).level = rm.level := by
  unfold Ring.changePlane
  split_ifs <;> rfl

theorem takeMask_level (rm : Ring) (h : x.planeMask ≠ s.ts.settings.planeMask) :
    (takeMask s x rm).level = pressureLevel x (takeMask s x rm).freeCount rm.level := by
  rw [takeMask_of_ne s rm h, Ring.evaluate_level, Ring.freeCount_evaluate]
  simp only [List.foldl_cons, List.foldl_nil, changePlane_level]

theorem takeMarks_of_same {old : Settings} (rm : Ring)
    (h : x.tightMark = old.tightMark ∧ x.criticalMark = old.criticalMark ∧ x.hysteresis = old.hysteresis) :
    takeMarks old x rm = rm := by
  obtain ⟨h1, h2, h3⟩ := h
  exact if_neg fun hdiffer => by simp [marksDiffer, h1, h2, h3] at hdiffer

theorem takeMarks_level (old : Settings) (rm : Ring) : (takeMarks old x rm).level =
    if x.tightMark = old.tightMark ∧ x.criticalMark = old.criticalMark ∧ x.hysteresis = old.hysteresis then rm.level
    else pressureLevel x rm.freeCount rm.level := by
  split
  · next h => rw [takeMarks_of_same rm h]
  · next h =>
    refine congrArg Ring.level (if_pos (decide_eq_true ?_))
    by_contra hsame
    simp only [not_or, not_not] at hsame
    exact h ⟨hsame.1.symm, hsame.2.1.symm, hsame.2.2.symm⟩

/-- Outside INIT slot_count alone may wait (R15). -/
theorem applySettings_ts (hstream : s.mu.stream ≠ .init) : (applySettings x s).ts = { s.ts with
    settings := { x with slotCount := if s.mu.stream = .standby then x.slotCount else s.ts.settings.slotCount }
    pendingSlotCount := if s.mu.stream = .standby then none else some x.slotCount } := by
  have hnow := configuring_of_ne_init hstream
  unfold applySettings
  rw [hnow]
  simp only [decide_eq_true_eq]

/-- With plane_mask as it was RM takes the marks alone. -/
theorem applySettings_rm_of_same (h : x.planeMask = s.ts.settings.planeMask) :
    (applySettings x s).rm = takeMarks s.ts.settings x s.rm := if_pos h

theorem applySettings_blocks : (applySettings x s).rm.blocks = s.rm.blocks :=
  (takeMask_blocks s x _).trans (takeMarks_blocks ..)

/-- The free lists after another plane_mask, by which planes it names and named (R90). -/
theorem applySettings_free (hlisted : PlanesListed s) (hmask : x.planeMask ≠ s.ts.settings.planeMask) (p : PlaneId) :
    (applySettings x s).rm.free[p] = if inPlaneSet x.planeMask p = true then
      (if inPlaneSet s.ts.settings.planeMask p = true then s.rm.free[p]
        else if (s.planes[p]).state = .ready then some (planeBlocks p) else none) else none := by
  refine (takeMask_free s _ hmask p).trans ((changePlane_free _ _ _ p p _).trans ((if_pos rfl).trans ?_))
  rw [takeMarks_free]
  cases hasked : inPlaneSet x.planeMask p with
  | true =>
    cases hwas : inPlaneSet s.ts.settings.planeMask p with
    | true => rfl
    | false =>
      have hnone := free_none_of_unmasked hlisted hwas
      by_cases hready : (s.planes[p]).state = .ready
      · rw [if_pos hready, decide_eq_true hready]; rfl
      · rw [if_neg hready, decide_eq_false hready]; exact hnone
  | false =>
    cases hwas : inPlaneSet s.ts.settings.planeMask p with
    | true => rfl
    | false => exact free_none_of_unmasked hlisted hwas

end

/-- Settles O46: the write's judgement decides what it answers; each field then follows from what RM and the tables take. -/
theorem settingsTakeEffectByField : Obligations.SettingsTakeEffectByField := by
  unfold Obligations.SettingsTakeEffectByField
  intro s tag z1 z2 x r hserving
  have hstream : s.mu.stream ≠ .init := hserving.2.1
  have hexec : exec .tableWriteSettings s = .next (settle (finish r (tableWrite writeSettings r s))) :=
    exec_tableWriteSettings hserving rfl rfl
  have hfinish := finish_stream r (tableWrite writeSettings r s)
  have hmeaning := writeSettings_changesOnly (byteAt r.contents 1) (r.contents.drop 4) s
  have hmu : (writeSettings (byteAt r.contents 1) (r.contents.drop 4) s).1.mu = s.mu := hmeaning .mu (by simp)
  have honly : ChangesOnly [.ts, .mu, .rm, .ds, .planes] s (settle (finish r (tableWrite writeSettings r s))) :=
    changesOnly_settle (changesOnly_finish r _ (changesOnly_mono (by simp) hmeaning) (by simp)) (by simp)
  have houtcome : ∀ u status, writeSettings (byteAt r.contents 1) (r.contents.drop 4) s = (u, status) →
      SettingsOutcome r status s u (settle (finish r (tableWrite writeSettings r s))) := fun u status h => by
    have := settingsOutcome h
    rwa [tableWrite, h]
  have hno : entryNumber 1 (byteAt r.contents 1) = some 0 := rfl
  have hbytes : r.contents.drop 4 = x.bytes := rfl
  have hkeeps : (settle (finish r (tableWrite writeSettings r s))).mu.stream = s.mu.stream := by
    rw [settle_mu, hfinish]
    exact congrArg Management.stream hmu
  rw [hbytes] at houtcome
  generalize settle (finish r (tableWrite writeSettings r s)) = t at *
  refine ⟨t, hexec, hkeeps, honly, fun hrange hmask hstandby => ?_, fun hrange hmask => ?_,
    fun hrange hmask hstandby hcollected => ?_, fun h1 ht hcm hh hw hbad => ?_⟩
  · have hout := houtcome _ _ (writeSettings_of_refused hno (decodeSettings_bytes hrange) hmask
      fun hallowed => hstandby ((maskAllowed_iff _ _).mp hallowed).1)
    exact ⟨hout.answered, hout.tables⟩
  · have hout := houtcome _ _ (writeSettings_of_taken hno (decodeSettings_bytes hrange) (.inl hmask))
    have hrm := applySettings_rm_of_same hmask
    refine ⟨hout.answered, hout.tables.trans (applySettings_ts hstream), hout.free.trans ?_, hout.level.trans ?_⟩
    · rw [hrm, takeMarks_free]
    · rw [hrm, takeMarks_level]
  · obtain ⟨hlisted, hkept⟩ := (blocksCollected_iff s).mp hcollected
    intro was asked allowed
    have hjudged : maskAllowed x.planeMask s = true ↔ allowed := by
      rw [maskAllowed_iff]
      refine (and_iff_right hstandby).trans (and_congr_right fun _ => forall_congr' fun p => and_congr ?_ ⟨?_, ?_⟩)
      · exact imp_congr_right fun _ => imp_congr_right fun _ => hkept.planeAllFree_iff
      · exact fun h hw ha => h ha hw
      · exact fun h ha hw => h hw ha
    refine ⟨fun hrefused => ?_, fun hallowed => ?_⟩
    · have hout := houtcome _ _ (writeSettings_of_refused hno (decodeSettings_bytes hrange) hmask (hjudged.not.mpr hrefused))
      exact ⟨hout.answered, hout.tables, hout.free, hout.level⟩
    · have hout := houtcome _ _ (writeSettings_of_taken hno (decodeSettings_bytes hrange) (.inr (hjudged.mpr hallowed)))
      have hfree := applySettings_free hlisted hmask
      have hblocks := applySettings_blocks (s := s) (x := x)
      refine ⟨hout.answered, hout.tables.trans ((applySettings_ts hstream).trans ?_), fun p => ?_, fun b hb => ?_, ?_⟩
      · rw [if_pos hstandby, if_pos hstandby]
      · rw [hout.free]
        exact hfree p
      · have hheld := Ring.holds_of_blocks hblocks b
        have hlists := hfree (planeOf b)
        refine ⟨fun ha hw => ?_, fun ha hw hready => ?_, fun ha => ?_⟩
        · have hsame : (applySettings x s).rm.block b = s.rm.block b :=
            Ring.block_of_free hblocks (hlists.trans ((if_pos ha).trans (if_pos hw)))
          exact hsame ▸ hout.blocks b
        · have hunheld : ¬ s.rm.holds b := hkept.not_holds_of_none (free_none_of_unmasked hlisted hw) rfl
          rw [if_pos ha, if_neg (ne_true_of_eq_false hw), if_pos hready] at hlists
          rw [hout.unheld b (hheld.not.mpr hunheld), Ring.block_of_not_holds (hheld.not.mpr hunheld),
            if_pos ⟨hb, by rw [hlists]; rfl⟩]
        · have hunheld : ¬ s.rm.holds b := by
            cases hw : was (planeOf b) with
            | false => exact hkept.not_holds_of_none (free_none_of_unmasked hlisted hw) rfl
            | true => exact fun h => (hkept.tabled.held b h).2.1 ((hallowed.2 (planeOf b)).1 hw ha b hb rfl)
          rw [if_neg (ne_true_of_eq_false ha)] at hlists
          rw [hout.unheld b (hheld.not.mpr hunheld), Ring.block_of_not_holds (hheld.not.mpr hunheld),
            if_neg fun h => by rw [hlists] at h; exact absurd h.2 nofun]
      · intro htight hcritical hhyst
        rw [hout.level, Ring.freeCount_of_free hout.free]
        refine (takeMask_level _ hmask).trans ?_
        rw [takeMarks_of_same s.rm ⟨htight, hcritical, hhyst⟩]
        exact congrArg (fun rm : Ring => pressureLevel x (takeMask s x rm).freeCount s.rm.level)
          (takeMarks_of_same s.rm ⟨htight, hcritical, hhyst⟩).symm
  · have hout := houtcome _ _ (writeSettings_of_bad (decodeSettings_of_not_range h1 ht hcm hh hw hbad))
    exact ⟨hout.answered, hout.tables⟩

end Sys2Proof.Machine
end

section
/-! PROOFS. Blocks that leave DS, released or put on REDRAIN, one after another; a link loss (R82, R85, R86, R123). -/

namespace Sys2Proof.Machine

open Sys2Proof.Safety

/-! ## One block leaves -/

/-- A block leaves its list at DS: released (R82), or put on REDRAIN (R86). -/
def Ring.leave (rm : Ring) (x : BlockId × Bool) : Ring :=
  if x.2 then rm.release x.1 else rm.modify x.1 (fun d => { d with state := .redrain })

/-- What leaving makes of a descriptor. -/
def Descriptor.left (released : Bool) (d : Descriptor) : Descriptor :=
  if released then (if d.pins = 0 then .cleared .free else { d with state := .retired }) else { d with state := .redrain }

/-- Leaving frees the block. -/
def Ring.frees (rm : Ring) (x : BlockId × Bool) : Bool := x.2 && decide ((rm.block x.1).pins = 0)

section
variable {rm : Ring} {x : BlockId × Bool} {b : BlockId}

/-- A leaving is a return to FREE or a change of the block's descriptor. -/
theorem Ring.leave_cases (rm : Ring) (x : BlockId × Bool) :
    (rm.frees x = true ∧ rm.leave x = rm.toFree x.1 ∧ (rm.block x.1).left x.2 = .cleared .free) ∨
    (rm.frees x = false ∧ rm.leave x = rm.modify x.1 (fun d => { d with state := if x.2 then .retired else .redrain }) ∧
      (rm.block x.1).left x.2 = { rm.block x.1 with state := if x.2 then .retired else .redrain }) := by
  obtain ⟨b, released⟩ := x
  unfold Ring.frees Ring.leave Descriptor.left Ring.release
  cases released with
  | false => exact .inr ⟨rfl, rfl, rfl⟩
  | true =>
    by_cases hpins : (rm.block b).pins = 0
    · exact .inl ⟨by simp [hpins], by simp [hpins], by simp [hpins]⟩
    · exact .inr ⟨by simp [hpins], by simp [hpins], by simp [hpins]⟩

/-- What every leaving keeps. -/
structure Ring.LeftFrame (rm rm' : Ring) : Prop where
  level : rm'.level = rm.level
  queues : rm'.queues = rm.queues
  lists : SameLists rm rm'
  rising : tableRising rm.blocks = true → tableRising rm'.blocks = true

theorem Ring.leave_frame (rm : Ring) (x : BlockId × Bool) : rm.LeftFrame (rm.leave x) := by
  obtain ⟨-, h, -⟩ | ⟨-, h, -⟩ := rm.leave_cases x
  · rw [h]
    exact ⟨rfl, rfl, fun p => Ring.isSome_free_toFree rm x.1 p, rising_tableDel _⟩
  · rw [h]
    exact ⟨Ring.modify_level .., Ring.modify_queues .., .of_free (Ring.modify_free ..), Ring.rising_modify _ _⟩

theorem Ring.block_leave_ne (hr : tableRising rm.blocks = true) (h : b ≠ x.1) : (rm.leave x).block b = rm.block b := by
  obtain ⟨-, he, -⟩ | ⟨-, he, -⟩ := rm.leave_cases x
  · rw [he, Ring.block_toFree_ne hr h]
  · rw [he, Ring.block_modify_ne _ h]

theorem Ring.holds_leave_ne (hr : tableRising rm.blocks = true) (h : b ≠ x.1) (hb : rm.holds b) : (rm.leave x).holds b := by
  obtain ⟨-, he, -⟩ | ⟨-, he, -⟩ := rm.leave_cases x
  · rw [he]
    rwa [Ring.holds, Ring.get_toFree _ _ hr, if_neg h]
  · rwa [he, Ring.holds_modify]

/-- A block RM holds, of a plane with a free list. -/
def Ring.Leavable (rm : Ring) (b : BlockId) : Prop := rm.holds b ∧ b < 8192 ∧ (rm.free[planeOf b]).isSome

theorem Ring.block_leave (hr : tableRising rm.blocks = true) (h : rm.Leavable x.1) :
    (rm.leave x).block x.1 = (rm.block x.1).left x.2 := by
  obtain ⟨hheld, hlt, hlist⟩ := h
  obtain ⟨-, he, hleft⟩ | ⟨-, he, hleft⟩ := rm.leave_cases x
  · rw [he, hleft, Ring.block_toFree hr hlt hlist]
  · rw [he, hleft, Ring.block_modify _ hheld]

theorem Ring.freeCount_leave (h : rm.Leavable x.1) :
    (rm.leave x).freeCount = rm.freeCount + if rm.frees x = true then 1 else 0 := by
  obtain ⟨hheld, hlt, hlist⟩ := h
  obtain ⟨hf, he, -⟩ | ⟨hf, he, -⟩ := rm.leave_cases x
  · rw [he, if_pos hf, Ring.freeCount_toFree hlist]
  · rw [he, hf, Ring.freeCount_modify]; rfl

theorem Ring.Leavable.leave (hr : tableRising rm.blocks = true) (hne : b ≠ x.1) (h : rm.Leavable b) : (rm.leave x).Leavable b := by
  obtain ⟨hheld, hlt, hlist⟩ := h
  exact ⟨Ring.holds_leave_ne hr hne hheld, hlt, ((rm.leave_frame x).lists (planeOf b)).trans hlist⟩

/-! ## Several blocks leave, one after another -/

theorem Ring.LeftFrame.refl (rm : Ring) : rm.LeftFrame rm := ⟨rfl, rfl, .of_free rfl, id⟩

theorem Ring.LeftFrame.trans {rm' rm'' : Ring} (h : rm.LeftFrame rm') (h' : rm'.LeftFrame rm'') : rm.LeftFrame rm'' :=
  ⟨h'.level.trans h.level, h'.queues.trans h.queues, h.lists.trans h'.lists, h'.rising ∘ h.rising⟩

theorem Ring.foldl_leave_frame (l : List (BlockId × Bool)) (rm : Ring) : rm.LeftFrame (l.foldl Ring.leave rm) := by
  induction l generalizing rm with
  | nil => exact .refl rm
  | cons x l ih => exact (rm.leave_frame x).trans (ih _)

theorem Ring.block_foldl_leave_ne {l : List (BlockId × Bool)} (hr : tableRising rm.blocks = true) (hb : b ∉ l.map Prod.fst) :
    (l.foldl Ring.leave rm).block b = rm.block b := by
  induction l generalizing rm with
  | nil => rfl
  | cons x l ih =>
    obtain ⟨hne, hb⟩ := not_or.mp (List.mem_cons.not.mp hb)
    rw [List.foldl_cons, ih ((rm.leave_frame x).rising hr) hb, Ring.block_leave_ne hr hne]

theorem Ring.block_foldl_leave {l : List (BlockId × Bool)} (hr : tableRising rm.blocks = true) (hn : (l.map Prod.fst).Nodup)
    (hl : ∀ y ∈ l, rm.Leavable y.1) : ∀ y ∈ l, (l.foldl Ring.leave rm).block y.1 = (rm.block y.1).left y.2 := by
  induction l generalizing rm with
  | nil => nofun
  | cons x l ih =>
    obtain ⟨hx, hn⟩ := List.nodup_cons.mp hn
    have hne : ∀ y ∈ l, y.1 ≠ x.1 := fun y hy heq => hx (heq ▸ List.mem_map_of_mem hy)
    have hr' := (rm.leave_frame x).rising hr
    intro y hy
    rw [List.foldl_cons]
    obtain rfl | hy := List.mem_cons.mp hy
    · rw [Ring.block_foldl_leave_ne hr' hx, Ring.block_leave hr (hl y List.mem_cons_self)]
    · rw [ih hr' hn (fun z hz => (hl z (List.mem_cons_of_mem _ hz)).leave hr (hne z hz)) y hy, Ring.block_leave_ne hr (hne y hy)]

theorem Ring.freeCount_foldl_leave {l : List (BlockId × Bool)} (hr : tableRising rm.blocks = true) (hn : (l.map Prod.fst).Nodup)
    (hl : ∀ y ∈ l, rm.Leavable y.1) : (l.foldl Ring.leave rm).freeCount = rm.freeCount + (l.filter rm.frees).length := by
  induction l generalizing rm with
  | nil => rfl
  | cons x l ih =>
    obtain ⟨hx, hn⟩ := List.nodup_cons.mp hn
    have hne : ∀ y ∈ l, y.1 ≠ x.1 := fun y hy heq => hx (heq ▸ List.mem_map_of_mem hy)
    have hsame : l.filter (rm.leave x).frees = l.filter rm.frees := List.filter_congr fun y hy => by
      rw [Ring.frees, Ring.frees, Ring.block_leave_ne hr (hne y hy)]
    rw [List.foldl_cons, ih ((rm.leave_frame x).rising hr) hn fun z hz => (hl z (List.mem_cons_of_mem _ hz)).leave hr (hne z hz),
      Ring.freeCount_leave (hl x List.mem_cons_self), hsame, List.filter_cons]
    split
    · rw [List.length_cons]; omega
    · rfl

end

/-! ## The folds of DS are such leavings -/

/-- A block is leavable when a collection of DS holds it. -/
theorem Holdings.Kept.leavable {h : Holdings} (hk : h.Kept ∅) {X : BlockState} (hX : Listed X) {b : BlockId} (hb : b ∈ h.list X) :
    h.rm.Leavable b := by
  obtain ⟨-, hstate⟩ := hk.state_of_member ((member_list hX b).mpr hb)
  have hheld : h.rm.holds b :=
    holds_of_state (by rw [hstate]; rintro rfl; simp [Listed] at hX) (by rw [hstate]; rintro rfl; simp [Listed] at hX)
  obtain ⟨hlt, -, -, hlist⟩ := hk.tabled.held b hheld
  exact ⟨hheld, hlt, hlist⟩

def leavingSlot (l : List SlotEntry) : List (BlockId × Bool) := l.map fun e => (e.block, e.covered)
def leavingList (released : Bool) (l : List Sequenced) : List (BlockId × Bool) := l.map fun m => (m.block, released)

theorem map_fst_leavingSlot (l : List SlotEntry) : (leavingSlot l).map Prod.fst = slotBlocks l := by
  simp [leavingSlot, slotBlocks, Function.comp_def]

theorem map_fst_leavingList (released : Bool) (l : List Sequenced) : (leavingList released l).map Prod.fst = listBlocks l := by
  simp [leavingList, listBlocks, Function.comp_def]

theorem foldl_slotDown_snd (l : List SlotEntry) (x : Drain × Ring) : (l.foldl slotDown x).2 = (leavingSlot l).foldl Ring.leave x.2 := by
  induction l generalizing x with
  | nil => rfl
  | cons e l ih =>
    have hstep : (slotDown x e).2 = x.2.leave (e.block, e.covered) := by
      unfold slotDown Ring.leave
      dsimp only
      split <;> rfl
    rw [List.foldl_cons, ih, hstep]
    rfl

theorem foldl_sentDown_snd (l : List Sequenced) (x : Drain × Ring) :
    (l.foldl sentDown x).2 = (leavingList false l).foldl Ring.leave x.2 := by
  induction l generalizing x with
  | nil => rfl
  | cons m l ih => rw [List.foldl_cons, ih]; rfl

theorem foldl_release (l : List Sequenced) (rm : Ring) :
    l.foldl (fun rm m => rm.release m.block) rm = (leavingList true l).foldl Ring.leave rm := by
  induction l generalizing rm with
  | nil => rfl
  | cons m l ih => rw [List.foldl_cons, ih]; rfl

/-! ## Link loss (R86, R123) -/

/-- The blocks that leave at a link loss. -/
def Drain.leavingDown (d : Drain) : List (BlockId × Bool) := leavingSlot d.slot ++ leavingList false d.sent

theorem collectionsDown_snd (st : Settings) (x : Drain × Ring) :
    (collectionsDown st x).2 = (x.1.leavingDown.foldl Ring.leave x.2).evaluateSince st x.2 := by
  unfold collectionsDown
  dsimp only
  rw [foldl_sentDown_snd, foldl_slotDown_snd, Drain.leavingDown, List.foldl_append]

theorem Drain.leavingDown_nodup {fill : ChannelId → Option BlockId} {x : Drain × Ring} (hk : (drainHoldings fill x).Kept ∅) :
    (x.1.leavingDown.map Prod.fst).Nodup := by
  rw [Drain.leavingDown, List.map_append, map_fst_leavingSlot, map_fst_leavingList]
  refine List.nodup_append.mpr ⟨hk.distinct.slot, hk.distinct.sent, fun a ha b hb heq => ?_⟩
  exact hk.disjoint (X := .sending) (Y := .sent) (.inl rfl) (.inr (.inl rfl)) nofun (heq ▸ ha) hb

theorem Drain.leavingDown_leavable {fill : ChannelId → Option BlockId} {x : Drain × Ring} (hk : (drainHoldings fill x).Kept ∅) :
    ∀ y ∈ x.1.leavingDown, x.2.Leavable y.1 := by
  intro y hy
  obtain hy | hy := List.mem_append.mp hy
  · obtain ⟨e, he, rfl⟩ := List.mem_map.mp hy
    exact hk.leavable (X := .sending) (.inl rfl) (List.mem_map_of_mem he)
  · obtain ⟨m, hm, rfl⟩ := List.mem_map.mp hy
    exact hk.leavable (X := .sent) (.inr (.inl rfl)) (List.mem_map_of_mem hm)

theorem Half.emptied_state (inProgress : Bool) (hf : Half) :
    (hf.emptied inProgress).state = .empty ∨ (hf.emptied inProgress).state = .abandoned := by
  unfold Half.emptied
  split
  · exact .inr rfl
  · split
    · exact .inr rfl
    · exact .inl rfl
  all_goals exact .inl rfl

theorem emptyHalves_state (ps : Vector Plane 4) (hs : Vector Half 2) (h : Fin 2) :
    ((emptyHalves ps hs)[h]).state = .empty ∨ ((emptyHalves ps hs)[h]).state = .abandoned := by
  fin_cases h
  · exact Half.emptied_state _ hs[0]
  · exact Half.emptied_state _ hs[1]

theorem mem_uncoveredBlocks {l : List SlotEntry} {m : Sequenced} :
    m ∈ uncoveredBlocks l ↔ ∃ e ∈ l, e.covered = false ∧ m = ⟨e.block, e.seq⟩ := by
  simp only [uncoveredBlocks, List.mem_map, List.mem_filter, Bool.not_eq_true', and_assoc]
  exact exists_congr fun e => and_congr_right fun _ => and_congr_right fun _ => eq_comm

theorem linkDown_ds (s : State) : (linkDown s).ds = { s.ds.down with halves := emptyHalves s.planes s.ds.halves } := by
  change { (collectionsDown s.ts.settings (s.ds, s.rm)).1 with
    halves := emptyHalves s.planes (collectionsDown s.ts.settings (s.ds, s.rm)).1.halves } = _
  rw [collectionsDown_fst]
  rfl

theorem linkDown_rm (s : State) :
    (linkDown s).rm = (s.ds.leavingDown.foldl Ring.leave s.rm).evaluateSince s.ts.settings s.rm :=
  collectionsDown_snd s.ts.settings (s.ds, s.rm)

theorem linkDown_changesOnly (s : State) : ChangesOnly [.sl, .ds, .rm, .planes, .marks, .mu] s (linkDown s) :=
  changesOnly_of fun p => by
    cases p with
    | sl | ds | rm | planes | marks | mu => exact .inl (by simp)
    | _ => exact .inr rfl

/-- An evaluation after a change of the free count moves the level, any other leaves it. -/
theorem Ring.evaluateSince_level (rm : Ring) (st : Settings) (old : Ring) (h : rm.level = old.level) :
    (rm.evaluateSince st old).level =
      if (rm.evaluateSince st old).freeCount = old.freeCount then old.level
      else pressureLevel st (rm.evaluateSince st old).freeCount old.level := by
  obtain ⟨hsame, he⟩ | ⟨hmoved, he⟩ := Ring.evaluateSince_cases rm st old
  · rw [he, if_pos hsame, h]
  · rw [he, Ring.freeCount_evaluate, if_neg hmoved, Ring.evaluate_level, h]

theorem Ring.block_evaluateSince (rm : Ring) (st : Settings) (old : Ring) (b : BlockId) :
    (rm.evaluateSince st old).block b = rm.block b := by
  rw [Ring.block_of_free (Ring.evaluateSince_blocks rm st old) (congrArg (fun f => f[planeOf b]) (Ring.evaluateSince_free rm st old))]

theorem Ring.freeCount_evaluateSince (rm : Ring) (st : Settings) (old : Ring) :
    (rm.evaluateSince st old).freeCount = rm.freeCount :=
  Ring.freeCount_of_free (Ring.evaluateSince_free rm st old)

theorem exec_linkDown {s : State} {c : Instr} (hpin : s.su.resetLow = false) (hup : s.sl.state = .syncWait ∨ s.sl.state = .ready)
    (hc : (∃ lane : Fin 4, lane.val < s.sl.lanes ∧ c = .laneAlignmentLoss lane) ∨
      (s.sl.silenceTimer ≠ none ∧ c = .receiveSilenceTimeout)) : exec c s = .next (linkDown s) := by
  have hup' := (Link.up_iff s.sl).mpr hup
  obtain ⟨lane, hlane, rfl⟩ | ⟨hsilence, rfl⟩ := hc
  · exact released_onlyWhen_eq linkDown hpin (by rw [hup', decide_eq_true hlane]; rfl)
  · exact released_onlyWhen_eq linkDown hpin (by rw [hup', Option.isSome_iff_ne_none.mpr hsilence]; rfl)

section
variable {s : State} (hcollected : BlocksCollected s)
include hcollected

/-- The blocks that leave at a link loss, and those that stay. -/
theorem linkDown_blocks : (∀ y ∈ s.ds.leavingDown, (linkDown s).rm.block y.1 = (s.rm.block y.1).left y.2) ∧
    (∀ b, b ∉ slotBlocks s.ds.slot → b ∉ listBlocks s.ds.sent → (linkDown s).rm.block b = s.rm.block b) ∧
    (linkDown s).rm.freeCount = s.rm.freeCount + (s.ds.leavingDown.filter s.rm.frees).length := by
  obtain ⟨-, hk⟩ := (blocksCollected_iff s).mp hcollected
  have hr : tableRising s.rm.blocks = true := hk.tabled.rising
  have hn := Drain.leavingDown_nodup (fill := fun c => (s.chans[c]).filling) (x := (s.ds, s.rm)) hk
  have hl := Drain.leavingDown_leavable (fill := fun c => (s.chans[c]).filling) (x := (s.ds, s.rm)) hk
  rw [linkDown_rm]
  simp only [Ring.block_evaluateSince, Ring.freeCount_evaluateSince]
  refine ⟨Ring.block_foldl_leave hr hn hl, fun b hslot hsent => Ring.block_foldl_leave_ne hr ?_, Ring.freeCount_foldl_leave hr hn hl⟩
  rw [Drain.leavingDown, List.map_append, map_fst_leavingSlot, map_fst_leavingList]
  exact List.mem_append.not.mpr (not_or.mpr ⟨hslot, hsent⟩)

/-- A block that is FREE after a link loss is on its plane's free list. -/
theorem linkDown_listed {b : BlockId} (hb : ((linkDown s).rm.block b).state = .free) :
    ∃ l, (linkDown s).rm.free[planeOf b] = some l ∧ b ∈ l := by
  obtain ⟨-, hk⟩ := (blocksCollected_iff s).mp hcollected
  have hk' := kept_collectionsDown s.ts.settings (fill := fun c => (s.chans[c]).filling) (x := (s.ds, s.rm)) hk
  exact (hk'.placed b (Set.notMem_empty b) .free (by decide)).mpr hb

end

/-- The leavings that free a block are those of covered blocks of the slot without a pin. -/
theorem filter_frees_leavingDown (d : Drain) (rm : Ring) : (d.leavingDown.filter rm.frees).length =
    (d.slot.filter (fun e => e.covered && decide ((rm.block e.block).pins = 0))).length := by
  have hsent : (leavingList false d.sent).filter rm.frees = [] := List.filter_eq_nil_iff.mpr fun y hy => by
    obtain ⟨m, -, rfl⟩ := List.mem_map.mp hy
    exact Bool.false_ne_true
  rw [Drain.leavingDown, List.filter_append, hsent, List.append_nil, leavingSlot, List.filter_map, List.length_map]
  rfl

/-- Settles O37: the blocks of the slot and of SENT leave one after another, and what else the report changes is by definition. -/
theorem linkDownKeepsWhatWasNotCommitted : Obligations.LinkDownKeepsWhatWasNotCommitted := by
  unfold Obligations.LinkDownKeepsWhatWasNotCommitted
  intro s c hpin hup hc
  have hds := linkDown_ds s
  have hframe := Ring.foldl_leave_frame s.ds.leavingDown s.rm
  have hlevel := Ring.evaluateSince_level _ s.ts.settings s.rm hframe.level
  have hqueues := (Ring.evaluateSince_queues _ s.ts.settings s.rm).trans hframe.queues
  rw [← linkDown_rm] at hlevel hqueues
  refine ⟨linkDown s, exec_linkDown hpin hup hc, rfl, rfl, rfl, rfl, rfl, rfl, rfl, rfl, rfl, rfl, rfl, ?_⟩
  have hblocks : BlocksCollected s → _ := linkDown_blocks
  have hlisted : BlocksCollected s → ∀ b, _ := fun h b => linkDown_listed h (b := b)
  have honly := linkDown_changesOnly s
  have hplanes : ∀ p : PlaneId, (linkDown s).planes[p] = { s.planes[p] with drain := [] } := withdrawLoads_get s.planes
  generalize linkDown s = t at *
  simp only [hds]
  refine ⟨rfl, rfl, fun m => ?_, fun hcollected => ?_, hlevel,
    fun h => ⟨emptyHalves_frame s.planes s.ds.halves h, emptyHalves_state s.planes s.ds.halves h⟩,
    rfl, rfl, rfl, rfl, rfl, rfl, rfl, hqueues, hplanes, honly⟩
  · simp only [Drain.down, mem_joinAll, List.mem_append, mem_uncoveredBlocks]
    exact or_comm.trans (or_congr_right or_comm)
  · obtain ⟨hleft, hstay, hcount⟩ := hblocks hcollected
    have hslot : ∀ e ∈ s.ds.slot, t.rm.block e.block = (s.rm.block e.block).left e.covered := fun e he =>
      hleft (e.block, e.covered) (List.mem_append_left _ (List.mem_map_of_mem he))
    refine ⟨fun m hm => hleft (m.block, false) (List.mem_append_right _ (List.mem_map_of_mem hm)), fun e he hcov => ?_,
      fun e he hcov => ?_, hstay, ?_⟩
    · rw [hslot e he, hcov]; rfl
    · have he' := hslot e he
      rw [hcov] at he'
      refine ⟨fun hpins => ?_, fun hpins => he'.trans (if_neg hpins)⟩
      have hfree : t.rm.block e.block = .cleared .free := he'.trans (if_pos hpins)
      exact ⟨hfree, hlisted hcollected e.block (by rw [hfree]; rfl)⟩
    · rw [hcount, filter_frees_leavingDown]

end Sys2Proof.Machine
end

section
/-! PROOFS. Which blocks DS's own selections reach; the end of a DATA frame (R82, R84, R112 to R119). -/

namespace Sys2Proof.Machine

open Sys2Proof.Safety

/-! ## Selections, block by block (R112 to R116) -/

/-- What selections leave of the blocks: only waiting ones change, and a block of REDRAIN stays there or comes into the slot. -/
structure Chosen (x y : Drain × Ring) : Prop where
  others : ∀ b, (x.2.block b).state ≠ .queued → (x.2.block b).state ≠ .redrain → y.2.block b = x.2.block b
  waiting : ∀ m ∈ x.1.redrain, (m ∈ y.1.redrain ∧ y.2.block m.block = x.2.block m.block) ∨
    ((m.block, m.seq, false, true, 0) ∈ y.1.slot.map SlotEntry.standing ∧
      y.2.block m.block = { x.2.block m.block with state := .sending })
  slot : x.1.slot.map SlotEntry.standing <+: y.1.slot.map SlotEntry.standing

theorem Chosen.refl (x : Drain × Ring) : Chosen x x := ⟨fun _ _ _ => rfl, fun _ hm => .inl ⟨hm, rfl⟩, List.prefix_rfl⟩

theorem Chosen.trans {x y z : Drain × Ring} (h : Chosen x y) (h' : Chosen y z) : Chosen x z := by
  refine ⟨fun b hq hr => ?_, fun m hm => ?_, h.slot.trans h'.slot⟩
  · have hy := h.others b hq hr
    rw [h'.others b (hy ▸ hq) (hy ▸ hr), hy]
  · obtain ⟨hstay, hblock⟩ | ⟨hslot, hblock⟩ := h.waiting m hm
    · rw [← hblock]
      exact h'.waiting m hstay
    · have hkept := h'.others m.block (by rw [hblock]; nofun) (by rw [hblock]; nofun)
      exact .inr ⟨h'.slot.subset hslot, hkept.trans hblock⟩

section
variable {fill : ChannelId → Option BlockId} {x : Drain × Ring}

theorem state_of_mem_redrain (hk : (drainHoldings fill x).Kept ∅) {m : Sequenced} (hm : m ∈ x.1.redrain) :
    (x.2.block m.block).state = .redrain :=
  (hk.placed m.block (Set.notMem_empty _) .redrain (by decide)).mp (List.mem_map_of_mem hm)

theorem chosen_selectOnce (allowed : Bool) (w : Vector Nat 4) (hk : (drainHoldings fill x).Kept ∅) :
    Chosen x (selectOnce allowed w x) := by
  obtain he | ⟨-, -, ⟨m, rest, hr, he⟩ | ⟨hempty, -, he⟩⟩ := selectOnce_cases allowed w x
  · rw [he]; exact .refl x
  · rw [he]
    have hstate := state_of_mem_redrain hk (m := m) (hr ▸ List.mem_cons_self)
    have hheld : x.2.holds m.block := holds_of_state (by rw [hstate]; nofun) (by rw [hstate]; nofun)
    have hn : (listBlocks (m :: rest)).Nodup := hr ▸ hk.distinct.redrain
    refine ⟨fun b _ hb => Ring.block_modify_ne _ fun heq => hb (heq ▸ hstate), fun m' hm' => ?_, (List.prefix_append x.1.slot _).map _⟩
    rw [hr] at hm'
    obtain rfl | hm' := List.mem_cons.mp hm'
    · exact .inr ⟨List.mem_map_of_mem (f := SlotEntry.standing) (List.mem_append_right _ (List.mem_singleton_self _)),
        Ring.block_modify _ hheld⟩
    · refine .inl ⟨hm', Ring.block_modify_ne _ fun heq => (List.nodup_cons.mp hn).1 ?_⟩
      exact List.mem_map.mpr ⟨m', hm', heq⟩
  · rw [he]
    obtain he | ⟨k, cur, turn, b, rest, -, hq, hfst, hsnd⟩ := selectNew_cases w x
    · rw [he]; exact .refl x
    · have hstate : (x.2.block b).state = .queued :=
        (hk.placed b (Set.notMem_empty b) .queued (by decide)).mp ⟨k, hq.symm ▸ List.mem_cons_self⟩
      refine ⟨fun b' hb' _ => ?_, fun m hm => absurd (hempty ▸ hm) List.not_mem_nil, ?_⟩
      · rw [hsnd]
        exact Ring.block_modify_ne (rm := { x.2 with queues := put x.2.queues k rest }) _ fun heq => hb' (heq ▸ hstate)
      · rw [hfst]
        exact (List.prefix_append x.1.slot _).map _

end

theorem claimLoad_redrain (h : Fin 2) (s : State) : (claimLoad h s).ds.redrain = s.ds.redrain := by
  unfold claimLoad
  split
  · split <;> rfl
  · rfl

/-- DS's own work selects and claims; a claim leaves the lists and the entries' standing. -/
theorem chosen_settle {s : State} (hk : s.holdings.Kept ∅) : Chosen (s.ds, s.rm) ((settle s).ds, (settle s).rm) := by
  have hk0 : (drainHoldings (fun c => (s.chans[c]).filling) (s.ds, s.rm)).Kept ∅ := hk
  have hselect : Chosen (s.ds, s.rm) ((selectBlocks s).ds, (selectBlocks s).rm) :=
    (chosen_selectOnce _ _ hk0).trans (chosen_selectOnce _ _ (kept_selectOnce _ _ hk0))
  have hrm : (settle s).rm = (selectBlocks s).rm := (grants_rm _).trans (claimLoads_rm _)
  have hredrain : (settle s).ds.redrain = (selectBlocks s).ds.redrain := by
    rw [settle_ds_eq]
    exact (claimLoad_redrain 1 _).trans (claimLoad_redrain 0 _)
  have hslot : (selectBlocks s).ds.slot.map SlotEntry.standing <+: (settle s).ds.slot.map SlotEntry.standing := by
    rw [settle_ds_eq]
    exact ((ownWork_claimLoad 0 _).trans (ownWork_claimLoad 1 _)).drain.slot
  generalize selectBlocks s = u at *
  generalize settle s = t at *
  refine hselect.trans ⟨fun b _ _ => congrArg (fun rm : Ring => rm.block b) hrm, fun m hm => .inl ⟨?_, ?_⟩, hslot⟩
  · rw [hredrain]; exact hm
  · rw [hrm]

/-! ## The end of a DATA frame (R117, R119) -/

section
variable {s : State} {h : Fin 2} {f : HalfFrame} {e : SlotEntry} {rest : List SlotEntry}

theorem exec_dataFrameEnd (hpin : s.su.resetLow = false) (htx : s.sl.tx = some (.data h)) :
    exec .dataFrameEnd s = .next (settle (dataSent h (setTx none s))) := by
  simp only [exec, execDataFrameEnd, htx]
  exact released_eq _ hpin

theorem dataEnd_of_more {st : Settings} {x : Drain × Ring} (hframe : (x.1.halves[h]).frame = some f) (hslot : x.1.slot = e :: rest)
    (hmore : f.frame + 1 ≠ f.frameCount) : dataEnd st h x = ({ x.1 with halves := put x.1.halves h ⟨.empty, none⟩ }, x.2) := by
  simp only [dataEnd, hframe, hslot, if_neg hmore]

theorem dataEnd_of_last {st : Settings} {x : Drain × Ring} (hframe : (x.1.halves[h]).frame = some f) (hslot : x.1.slot = e :: rest)
    (hlast : f.frame + 1 = f.frameCount) :
    dataEnd st h x = finishBlock st e rest ({ x.1 with halves := put x.1.halves h ⟨.empty, none⟩ }, x.2) := by
  simp only [dataEnd, hframe, hslot, if_pos hlast]

theorem finishBlock_of_uncovered {st : Settings} {x : Drain × Ring} (h : e.covered = false) :
    (finishBlock st e rest x).1.sent = insertBySeq ⟨e.block, e.seq⟩ x.1.sent ∧
      (finishBlock st e rest x).2 = x.2.modify e.block (fun b => { b with state := .sent }) := by
  unfold finishBlock
  rw [h]
  exact ⟨rfl, rfl⟩

theorem finishBlock_of_covered {st : Settings} {x : Drain × Ring} (h : e.covered = true) :
    (finishBlock st e rest x).1.sent = x.1.sent ∧
      (finishBlock st e rest x).2 = (x.2.leave (e.block, true)).evaluateSince st x.2 := by
  unfold finishBlock
  rw [h]
  exact ⟨rfl, rfl⟩

theorem finishBlock_frame (st : Settings) (e : SlotEntry) (rest : List SlotEntry) (x : Drain × Ring) :
    (finishBlock st e rest x).1.slot = rest ∧ (finishBlock st e rest x).1.granted = x.1.granted ∧
      (finishBlock st e rest x).1.committed = x.1.committed ∧ (finishBlock st e rest x).1.halves = x.1.halves ∧
      (finishBlock st e rest x).1.transmitted =
        if 1 ≤ (e.seq - x.1.transmitted).toNat ∧ (e.seq - x.1.transmitted).toNat < 2147483648 then e.seq else x.1.transmitted := by
  have ht : (if seqAfter e.seq x.1.transmitted then e.seq else x.1.transmitted) =
      if 1 ≤ (e.seq - x.1.transmitted).toNat ∧ (e.seq - x.1.transmitted).toNat < 2147483648 then e.seq else x.1.transmitted :=
    if_congr (seqAfter_iff _ _) rfl rfl
  unfold finishBlock
  cases e.covered with
  | false => exact ⟨rfl, rfl, rfl, rfl, ht⟩
  | true => exact ⟨rfl, rfl, rfl, rfl, ht⟩

theorem dataEnd_frame (st : Settings) (h : Fin 2) (x : Drain × Ring) : (dataEnd st h x).1.granted = x.1.granted ∧
    (dataEnd st h x).1.committed = x.1.committed ∧ (dataEnd st h x).1.halves[h] = ⟨.empty, none⟩ := by
  have hput : (put x.1.halves h (⟨.empty, none⟩ : Half))[h] = ⟨.empty, none⟩ := get_put_self _ _ _
  obtain he | ⟨f, e, rest, -, -, -, he⟩ := dataEnd_cases st h x
  · rw [he]; exact ⟨rfl, rfl, hput⟩
  · rw [he]
    obtain ⟨-, hgranted, hcommitted, hhalves, -⟩ :=
      finishBlock_frame st e rest ({ x.1 with halves := put x.1.halves h ⟨.empty, none⟩ }, x.2)
    exact ⟨hgranted, hcommitted, by rw [hhalves]; exact hput⟩

end

/-- A command keeps every block a member of the collection its state names. -/
theorem blocksCollected_of_exec {c : Instr} {s t : State} (h : exec c s = .next t) (hs : BlocksCollected s) : BlocksCollected t :=
  (exec_moves h).keep (fun _ _ => Move.blocksCollected) hs

theorem sending_of_mem_slot {s : State} (h : BlocksCollected s) {x : SlotEntry} (hx : x ∈ s.ds.slot) :
    (s.rm.block x.block).state = .sending := by
  obtain ⟨-, hk⟩ := (blocksCollected_iff s).mp h
  exact (hk.placed x.block (Set.notMem_empty _) .sending (by decide)).mp (List.mem_map_of_mem hx)

theorem setTx_dataSent_changesOnly (h : Fin 2) (s : State) : ChangesOnly [.sl, .ds, .rm, .planes] s (dataSent h (setTx none s)) :=
  changesOnly_of fun p => by
    cases p with
    | sl | ds | rm | planes => exact .inl (by simp)
    | _ => exact .inr rfl

theorem standing_head {e : SlotEntry} {rest l : List SlotEntry}
    (h : (e :: rest).map SlotEntry.standing <+: l.map SlotEntry.standing) :
    ∃ e' later, l = e' :: later ∧ e'.standing = e.standing := by
  obtain ⟨more, h⟩ := h
  cases l with
  | nil => cases h
  | cons e' later => exact ⟨e', later, rfl, (List.cons.inj h).1.symm⟩

theorem standing_fields {e e' : SlotEntry} (h : e'.standing = e.standing) : e'.block = e.block ∧ e'.seq = e.seq ∧
    e'.covered = e.covered ∧ e'.resend = e.resend ∧ e'.begun = e.begun := by
  simpa only [SlotEntry.standing, Prod.mk.injEq] using h

/-- Settles O41: the frame's end at DS, before the block's last frame and at it, then DS's own work, which leaves the block. -/
theorem dataFrameEndFinishesTheBlock : Obligations.DataFrameEndFinishesTheBlock := by
  unfold Obligations.DataFrameEndFinishesTheBlock
  intro s h f e rest hpin hcollected htx hframe hslot
  have hexec := exec_dataFrameEnd hpin htx
  have hcollected' := blocksCollected_of_exec hexec hcollected
  obtain ⟨-, hk⟩ := (blocksCollected_iff s).mp hcollected
  have he : e ∈ s.ds.slot := hslot ▸ List.mem_cons_self
  have hstate := sending_of_mem_slot hcollected he
  have hleavable : s.rm.Leavable e.block := hk.leavable (X := .sending) (.inl rfl) (List.mem_map_of_mem he)
  have hds : (dataSent h (setTx none s)).ds = (dataEnd s.ts.settings h (s.ds, s.rm)).1 := rfl
  have hrm : (dataSent h (setTx none s)).rm = (dataEnd s.ts.settings h (s.ds, s.rm)).2 := rfl
  have hku : (dataSent h (setTx none s)).holdings.Kept ∅ :=
    kept_dataEnd (fill := fun c => (s.chans[c]).filling) (x := (s.ds, s.rm)) hk
  have honly := changesOnly_settle (setTx_dataSent_changesOnly h s) (by simp)
  have hsl : (settle (dataSent h (setTx none s))).sl = { s.sl with tx := none } := settle_sl _
  have hmore := dataEnd_of_more (st := s.ts.settings) (x := (s.ds, s.rm)) hframe hslot
  have hlast := dataEnd_of_last (st := s.ts.settings) (x := (s.ds, s.rm)) hframe hslot
  obtain ⟨hgranted, hcommitted, hhalf⟩ := dataEnd_frame s.ts.settings h (s.ds, s.rm)
  rw [← hds] at hgranted hcommitted hhalf
  generalize dataSent h (setTx none s) = u at *
  have hworked := worked_settle u
  have hchosen := chosen_settle hku
  have hlevel := settle_level u
  obtain ⟨hfree, -⟩ := settle_onlySelects u
  generalize settle u = t at *
  refine ⟨t, hexec, hsl, (hworked.halves h).of_empty (by rw [hhalf]), hworked.granted.trans hgranted,
    hworked.committed.trans hcommitted, fun hne => ?_, fun heq => ?_, honly⟩
  · rw [hmore hne] at hds hrm
    have hblock : t.rm.block e.block = u.rm.block e.block :=
      hchosen.others e.block (by rw [hrm, hstate]; nofun) (by rw [hrm, hstate]; nofun)
    refine ⟨by rw [hworked.sent, hds], by rw [hworked.transmitted, hds], by rw [hfree, hrm], by rw [hblock, hrm], ?_⟩
    have hprefix := hworked.slot
    rw [hds] at hprefix
    obtain ⟨e', later, hl, he'⟩ := standing_head (e := e) (rest := rest) (l := t.ds.slot) (by rw [← hslot]; exact hprefix)
    exact ⟨e', later, hl, standing_fields he'⟩
  · rw [hlast heq] at hds hrm
    obtain ⟨hslot', -, -, -, htransmitted⟩ :=
      finishBlock_frame s.ts.settings e rest ({ s.ds with halves := put s.ds.halves h ⟨.empty, none⟩ }, s.rm)
    have hleft : (u.rm.block e.block).state ≠ .queued → (u.rm.block e.block).state ≠ .redrain →
        (u.rm.block e.block).state ≠ .sending → t.rm.block e.block = u.rm.block e.block ∧ ∀ x ∈ t.ds.slot, x.block ≠ e.block := by
      intro hq hr hsending
      have hblock := hchosen.others e.block hq hr
      exact ⟨hblock, fun x hx heq => hsending (by rw [← hblock, ← heq]; exact sending_of_mem_slot hcollected' hx)⟩
    have hfreeCount : t.rm.freeCount = u.rm.freeCount := Ring.freeCount_of_free hfree
    refine ⟨by rw [hworked.transmitted, hds, htransmitted], ?_⟩
    cases hcov : e.covered with
    | false =>
      obtain ⟨hsent, hmodify⟩ := finishBlock_of_uncovered (rest := rest) (st := s.ts.settings)
        (x := ({ s.ds with halves := put s.ds.halves h ⟨.empty, none⟩ }, s.rm)) hcov
      rw [hmodify] at hrm
      have hu : u.rm.block e.block = { s.rm.block e.block with state := .sent } := by
        rw [hrm, Ring.block_modify _ hleavable.1]
      obtain ⟨hblock, hout⟩ := hleft (by rw [hu]; nofun) (by rw [hu]; nofun) (by rw [hu]; nofun)
      have hperm : t.ds.sent.Perm (⟨e.block, e.seq⟩ :: s.ds.sent) := by
        rw [hworked.sent, hds, hsent]
        exact insertBySeq_perm _ _
      exact ⟨hout, fun _ => ⟨hperm.mem_iff.mpr List.mem_cons_self, fun m hm => hperm.mem_iff.mpr (List.mem_cons_of_mem _ hm),
        hperm.length_eq, hblock.trans hu⟩, nofun⟩
    | true =>
      obtain ⟨hsent, hleave⟩ := finishBlock_of_covered (rest := rest) (st := s.ts.settings)
        (x := ({ s.ds with halves := put s.ds.halves h ⟨.empty, none⟩ }, s.rm)) hcov
      rw [hleave] at hrm
      have hu : u.rm.block e.block = (s.rm.block e.block).left true := by
        rw [hrm, Ring.block_evaluateSince]
        exact Ring.block_leave hk.tabled.rising hleavable
      have hcount : u.rm.freeCount = s.rm.freeCount + if s.rm.frees (e.block, true) = true then 1 else 0 := by
        rw [hrm, Ring.freeCount_evaluateSince, Ring.freeCount_leave hleavable]
      have hpressure := Ring.evaluateSince_level _ s.ts.settings s.rm (s.rm.leave_frame (e.block, true)).level
      rw [← hrm, ← hfreeCount, ← hlevel] at hpressure
      rw [← hfreeCount] at hcount
      by_cases hpins : (s.rm.block e.block).pins = 0
      · have hu' : u.rm.block e.block = .cleared .free := hu.trans (if_pos hpins)
        obtain ⟨hblock, hout⟩ := hleft (by rw [hu']; nofun) (by rw [hu']; nofun) (by rw [hu']; nofun)
        rw [if_pos (by simp [Ring.frees, hpins])] at hcount
        exact ⟨hout, nofun, fun _ => ⟨by rw [hworked.sent, hds, hsent],
          fun _ => ⟨hblock.trans hu', hcount, hpressure.trans (if_neg (by omega))⟩, fun h => absurd hpins h⟩⟩
      · have hu' : u.rm.block e.block = { s.rm.block e.block with state := .retired } := hu.trans (if_neg hpins)
        obtain ⟨hblock, hout⟩ := hleft (by rw [hu']; nofun) (by rw [hu']; nofun) (by rw [hu']; nofun)
        rw [if_neg (by simp [Ring.frees, hpins])] at hcount
        exact ⟨hout, nofun, fun _ => ⟨by rw [hworked.sent, hds, hsent], fun h => absurd h hpins,
          fun _ => ⟨hblock.trans hu', hcount, hpressure.trans (if_pos hcount)⟩⟩⟩

end Sys2Proof.Machine
end

section
/-! PROOFS. FLOW frames at DS: the grant, the commit and the blocks it releases (R85, R120, R121). -/

namespace Sys2Proof.Machine

open Sys2Proof.Safety

section
variable {d : Drain} {st : Settings} {g m : Word32}

/-! ## The counters (R120, R121) -/

theorem seqAfter_iff_half (a b : Word32) : seqAfter a b = true ↔ 1 ≤ (a - b).toNat ∧ (a - b).toNat < 2147483648 := seqAfter_iff a b

theorem takeGrant_eq (g : Word32) (d : Drain) : d.takeGrant g = { d with granted :=
    if 1 ≤ (g - d.granted).toNat ∧ (g - d.granted).toNat < 2147483648 ∧ (g - d.committed).toNat < 2147483648 then g else d.granted } := by
  have hiff : (seqAfter g d.granted = true ∧ (g - d.committed).toNat < 2 ^ 31) ↔
      1 ≤ (g - d.granted).toNat ∧ (g - d.granted).toNat < 2147483648 ∧ (g - d.committed).toNat < 2147483648 :=
    (and_congr_left fun _ => seqAfter_iff_half g d.granted).trans and_assoc
  unfold Drain.takeGrant
  split
  · next h => rw [if_pos (hiff.mp h)]
  · next h => rw [if_neg (hiff.not.mp h)]

/-- Within the window of the counters the clamp compares distances from committed_through. -/
theorem clampCommit_eq (hc : Counters d) (m : Word32) : d.clampCommit m =
    if 1 ≤ (m - d.committed).toNat ∧ (m - d.committed).toNat < 2147483648
    then (if (m - d.committed).toNat ≤ (d.transmitted - d.committed).toNat then m else d.transmitted)
    else d.committed := by
  have htr : (d.transmitted - d.committed).toNat < 2 ^ 31 := by
    have h1 := hc.transmitted
    have h2 := hc.limit
    unfold Ahead at h1 h2
    omega
  unfold Drain.clampCommit
  by_cases hm : seqAfter m d.committed = true
  · have hm' := (seqAfter_iff_half _ _).mp hm
    have hiff := seqAfter_iff_distance (c := d.committed) (x := m) (y := d.transmitted) hm'.2 htr
    rw [if_pos hm, if_pos hm']
    by_cases hle : (m - d.committed).toNat ≤ (d.transmitted - d.committed).toNat
    · rw [if_neg (hiff.not.mpr (Nat.not_lt.mpr hle)), if_pos hle]
    · rw [if_pos (hiff.mpr (Nat.not_le.mp hle)), if_neg hle]
  · rw [if_neg hm, if_neg ((seqAfter_iff_half _ _).not.mp hm)]

/-! ## The commit (R85, R121) -/

theorem Outstanding.after {x : Word32} (hc : Counters d) (h : Outstanding d x) : seqAfter x d.committed = true :=
  (seqAfter_iff _ _).mpr ⟨h.1, h.window hc⟩

/-- A commit to committed_through itself covers nothing. -/
theorem commitTo_committed (st : Settings) (hd : DrainOrdered d) (rm : Ring) : commitTo st d.committed (d, rm) = (d, rm) := by
  obtain ⟨hc, hlists, -, huncovered, -, -⟩ := (drainOrdered_iff d).mp hd
  have hafter : ∀ m ∈ d.sent ++ d.redrain, seqAfter m.seq d.committed = true := fun m hm => (hlists m hm).after hc
  have hnone : ∀ l, l ⊆ d.sent ++ d.redrain → l.filter (fun m : Sequenced => seqAtOrBefore m.seq d.committed) = [] := fun l hl =>
    List.filter_eq_nil_iff.mpr fun m hm => by rw [seqAtOrBefore, hafter m (hl hm)]; exact Bool.false_ne_true
  have hkept : ∀ l, l ⊆ d.sent ++ d.redrain → l.filter (fun m : Sequenced => seqAfter m.seq d.committed) = l := fun l hl =>
    List.filter_eq_self.mpr fun m hm => hafter m (hl hm)
  have hslot : d.slot.map (fun e => { e with covered := e.covered || seqAtOrBefore e.seq d.committed }) = d.slot := by
    refine (List.map_congr_left fun e he => ?_).trans (List.map_id _)
    cases hcov : e.covered with
    | true => cases e; simp_all
    | false =>
      rw [seqAtOrBefore, (huncovered e he hcov).after hc]
      cases e; simp_all
  have hcovered : coveredBlocks d.committed d = [] := by
    rw [coveredBlocks, hnone _ (List.subset_append_right _ _), hnone _ (List.subset_append_left _ _)]
    rfl
  unfold commitTo
  dsimp only
  rw [hkept _ (List.subset_append_left _ _), hkept _ (List.subset_append_right _ _), hslot, hcovered]
  refine congrArg (Prod.mk d) ?_
  exact if_pos rfl

/-- Whatever the FLOW says, DS commits to the clamped value. -/
theorem takeFlow_eq (st : Settings) (hd : DrainOrdered d) (rm : Ring) :
    takeFlow st g m (d, rm) = commitTo st (d.clampCommit m) (d.takeGrant g, rm) := by
  have hgrant := takeGrant_eq g d
  have hclamp : (d.takeGrant g).clampCommit m = d.clampCommit m := by rw [hgrant]; rfl
  have hcommitted : (d.takeGrant g).committed = d.committed := by rw [hgrant]
  unfold takeFlow
  dsimp only
  rw [hclamp, hcommitted]
  split
  · next heq =>
    rw [heq, ← hcommitted]
    exact (commitTo_committed st (drainOrdered_takeGrant g hd) rm).symm
  · rfl

/-! ## The blocks a commit reaches (R82, R85) -/

section
variable {fill : ChannelId → Option BlockId} {x : Drain × Ring} {c : Word32}

/-- A block stands once on SENT and REDRAIN together. -/
theorem eq_of_block_eq (hk : (drainHoldings fill x).Kept ∅) {a b : Sequenced} (ha : a ∈ x.1.sent ++ x.1.redrain)
    (hb : b ∈ x.1.sent ++ x.1.redrain) (h : a.block = b.block) : a = b := by
  have hn : ((x.1.sent ++ x.1.redrain).map fun m => m.block).Nodup := by
    rw [List.map_append]
    refine List.nodup_append.mpr ⟨hk.distinct.sent, hk.distinct.redrain, fun y hy z hz heq => ?_⟩
    exact hk.disjoint (X := .sent) (Y := .redrain) (.inr (.inl rfl)) (.inr (.inr rfl)) nofun (heq ▸ hy) hz
  exact List.inj_on_of_nodup_map hn ha hb h

theorem mem_coveredBlocks_append {y : Sequenced} :
    y ∈ coveredBlocks c x.1 ↔ y ∈ x.1.sent ++ x.1.redrain ∧ ¬ seqAfter y.seq c = true := by
  rw [mem_coveredBlocks, List.mem_append, seqAtOrBefore, Bool.not_eq_true', Bool.not_eq_true]

theorem not_covered_of_after (hk : (drainHoldings fill x).Kept ∅) {y : Sequenced} (hy : y ∈ x.1.sent ++ x.1.redrain)
    (hafter : seqAfter y.seq c = true) : y.block ∉ listBlocks (coveredBlocks c x.1) := fun hmem => by
  obtain ⟨z, hz, heq⟩ := List.mem_map.mp hmem
  obtain ⟨hlist, hnot⟩ := mem_coveredBlocks_append.mp hz
  rw [eq_of_block_eq hk hlist hy heq] at hnot
  exact hnot hafter

theorem not_covered_of_slot (hk : (drainHoldings fill x).Kept ∅) {e : SlotEntry} (he : e ∈ x.1.slot) :
    e.block ∉ listBlocks (coveredBlocks c x.1) := fun hmem => by
  obtain ⟨z, hz, heq⟩ := List.mem_map.mp hmem
  have hin : e.block ∈ (drainHoldings fill x).list .sending := List.mem_map_of_mem he
  obtain hz | hz := (mem_coveredBlocks.mp hz).1
  · exact hk.disjoint (X := .sending) (Y := .sent) (.inl rfl) (.inr (.inl rfl)) nofun hin (List.mem_map.mpr ⟨z, hz, heq⟩)
  · exact hk.disjoint (X := .sending) (Y := .redrain) (.inl rfl) (.inr (.inr rfl)) nofun hin (List.mem_map.mpr ⟨z, hz, heq⟩)

theorem commitTo_snd (st : Settings) (c : Word32) (x : Drain × Ring) :
    (commitTo st c x).2 = ((leavingList true (coveredBlocks c x.1)).foldl Ring.leave x.2).evaluateSince st x.2 := by
  unfold commitTo
  dsimp only
  rw [foldl_release]

/-- What a commit does at RM: the covered blocks are released, the others kept, pressure evaluated when a block became FREE. -/
structure Released (st : Settings) (c : Word32) (x : Drain × Ring) (rm : Ring) : Prop where
  covered : ∀ y ∈ x.1.sent ++ x.1.redrain, ¬ seqAfter y.seq c = true → rm.block y.block = (x.2.block y.block).left true
  kept : ∀ b, b ∉ listBlocks (coveredBlocks c x.1) → rm.block b = x.2.block b
  freed : x.2.freeCount ≤ rm.freeCount
  level : rm.level = if rm.freeCount = x.2.freeCount then x.2.level else pressureLevel st rm.freeCount x.2.level

theorem released_commitTo (st : Settings) (c : Word32) (hk : (drainHoldings fill x).Kept ∅) :
    Released st c x (commitTo st c x).2 := by
  have hr : tableRising x.2.blocks = true := hk.tabled.rising
  have hn : ((leavingList true (coveredBlocks c x.1)).map Prod.fst).Nodup := by
    rw [map_fst_leavingList]
    exact coveredBlocks_nodup c hk
  have hl : ∀ y ∈ leavingList true (coveredBlocks c x.1), x.2.Leavable y.1 := fun y hy => by
    obtain ⟨z, hz, rfl⟩ := List.mem_map.mp hy
    obtain hz | hz := (mem_coveredBlocks.mp hz).1
    · exact hk.leavable (X := .sent) (.inr (.inl rfl)) (List.mem_map_of_mem hz)
    · exact hk.leavable (X := .redrain) (.inr (.inr rfl)) (List.mem_map_of_mem hz)
  have hframe := Ring.foldl_leave_frame (leavingList true (coveredBlocks c x.1)) x.2
  rw [commitTo_snd]
  refine ⟨fun y hy hnot => ?_, fun b hb => ?_, ?_, Ring.evaluateSince_level _ st x.2 hframe.level⟩
  · rw [Ring.block_evaluateSince]
    exact Ring.block_foldl_leave hr hn hl (y.block, true) (List.mem_map_of_mem (mem_coveredBlocks_append.mpr ⟨hy, hnot⟩))
  · rw [Ring.block_evaluateSince]
    exact Ring.block_foldl_leave_ne hr (by rwa [map_fst_leavingList])
  · rw [Ring.freeCount_evaluateSince, Ring.freeCount_foldl_leave hr hn hl]
    exact Nat.le_add_right _ _

end

theorem takeGrant_lists (g : Word32) (d : Drain) : (d.takeGrant g).sent = d.sent ∧ (d.takeGrant g).redrain = d.redrain ∧
    (d.takeGrant g).slot = d.slot ∧ (d.takeGrant g).transmitted = d.transmitted := by
  rw [takeGrant_eq]
  exact ⟨rfl, rfl, rfl, rfl⟩

end

/-! ## FLOW_FRAME -/

/-- The part when it has taken a FLOW, before DS's own work. -/
def flowHeard (g m : Word32) (s : State) : State := { flowTaken g m s with sl := s.sl.heard.takeReady }

section
variable {s : State} {g m : Word32}

theorem exec_flowFrame (hpin : s.su.resetLow = false) (hup : s.sl.state = .syncWait ∨ s.sl.state = .ready) :
    exec (.flowFrame g m) s = .next (settle (flowHeard g m s)) :=
  released_onlyWhen_eq (fun t => settle { flowTaken g m t with sl := (flowTaken g m t).sl.heard.takeReady }) hpin (receiving_of_up hup)

theorem flowHeard_changesOnly (g m : Word32) (s : State) : ChangesOnly [.sl, .ds, .rm, .planes] s (flowHeard g m s) :=
  changesOnly_of fun p => by
    cases p with
    | sl | ds | rm | planes => exact .inl (by simp)
    | _ => exact .inr rfl

/-- R140, R142: what a FLOW makes of the link. -/
theorem flowHeard_sl (hup : s.sl.state = .syncWait ∨ s.sl.state = .ready) :
    (s.sl.state = .syncWait → s.sl.helloSent = true → (flowHeard g m s).sl.state = .ready ∧ (flowHeard g m s).sl.helloDue = false ∧
      (flowHeard g m s).sl.helloTimer = none ∧ (flowHeard g m s).sl.reason = .linkUp) ∧
    ((s.sl.state = .ready ∨ s.sl.helloSent = false) →
      (flowHeard g m s).sl.state = s.sl.state ∧ (flowHeard g m s).sl.reason = s.sl.reason) ∧
    (flowHeard g m s).sl.silenceTimer = some 1 ∧ (flowHeard g m s).sl.tx = s.sl.tx ∧
    (flowHeard g m s).sl.rejected = s.sl.rejected := by
  have hheard : (flowHeard g m s).sl = Link.takeReady { s.sl with silenceTimer := some 1 } := congrArg Link.takeReady (Link.heard_of_up hup)
  rw [hheard]
  unfold Link.takeReady
  dsimp only
  by_cases hready : s.sl.state = .syncWait ∧ s.sl.helloSent = true
  · rw [if_pos hready]
    exact ⟨fun _ _ => ⟨rfl, rfl, rfl, rfl⟩, fun h => by obtain h | h := h <;> simp [h] at hready, rfl, rfl, rfl⟩
  · rw [if_neg hready]
    exact ⟨fun h h' => absurd ⟨h, h'⟩ hready, fun _ => ⟨rfl, rfl⟩, rfl, rfl, rfl⟩

/-- What a FLOW leaves at DS and RM before DS's own work, with `c` the value committed_through takes. -/
structure FlowTaken (g : Word32) (c : Word32) (s u : State) : Prop where
  granted : u.ds.granted = (s.ds.takeGrant g).granted
  committed : u.ds.committed = c
  transmitted : u.ds.transmitted = s.ds.transmitted
  sent : u.ds.sent = s.ds.sent.filter fun y => seqAfter y.seq c
  redrain : u.ds.redrain = s.ds.redrain.filter fun y => seqAfter y.seq c
  slot : u.ds.slot = s.ds.slot.map fun e => { e with covered := e.covered || seqAtOrBefore e.seq c }
  ring : Released s.ts.settings c (s.ds, s.rm) u.rm
  placed : u.holdings.Kept ∅

theorem flowTaken_flowHeard (hd : DrainOrdered s.ds) (hk : s.holdings.Kept ∅) :
    FlowTaken g (s.ds.clampCommit m) s (flowHeard g m s) := by
  have hx := takeFlow_eq (st := s.ts.settings) (g := g) (m := m) hd s.rm
  have hk0 : (drainHoldings (fun c => (s.chans[c]).filling) (s.ds, s.rm)).Kept ∅ := hk
  have hds : (flowHeard g m s).ds = (commitTo s.ts.settings (s.ds.clampCommit m) (s.ds.takeGrant g, s.rm)).1 := congrArg Prod.fst hx
  have hrm : (flowHeard g m s).rm = (commitTo s.ts.settings (s.ds.clampCommit m) (s.ds.takeGrant g, s.rm)).2 := congrArg Prod.snd hx
  have hplaced : (flowHeard g m s).holdings.Kept ∅ := kept_takeFlow s.ts.settings g m hk0
  obtain ⟨hsent, hredrain, hslot, htransmitted⟩ := takeGrant_lists g s.ds
  have hring : (commitTo s.ts.settings (s.ds.clampCommit m) (s.ds.takeGrant g, s.rm)).2 =
      (commitTo s.ts.settings (s.ds.clampCommit m) (s.ds, s.rm)).2 := by
    unfold commitTo coveredBlocks
    dsimp only
    rw [hsent, hredrain]
  rw [hring] at hrm
  generalize flowHeard g m s = u at *
  refine ⟨by rw [hds]; rfl, by rw [hds]; rfl, by rw [hds]; exact htransmitted, ?_, ?_, ?_, hrm ▸ released_commitTo _ _ hk0, hplaced⟩
  · rw [hds, ← hsent]; rfl
  · rw [hds, ← hredrain]; rfl
  · rw [hds, ← hslot]; rfl

end

/-- Settles O42: the FLOW's counters and releases, then DS's own work, which reaches waiting blocks alone. -/
theorem flowGrantsCommitsAndMakesReady : Obligations.FlowGrantsCommitsAndMakesReady := by
  unfold Obligations.FlowGrantsCommitsAndMakesReady
  intro s g m hpin hup hd hcollected
  have hexec := exec_flowFrame (g := g) (m := m) hpin hup
  obtain ⟨-, hk⟩ := (blocksCollected_iff s).mp hcollected
  have hc := ((drainOrdered_iff s.ds).mp hd).1
  have htaken := flowTaken_flowHeard (g := g) (m := m) hd hk
  have hclamp := clampCommit_eq hc m
  obtain ⟨hready, hother, hsilence, htx, hrejected⟩ := flowHeard_sl (g := g) (m := m) hup
  have honly := changesOnly_settle (flowHeard_changesOnly g m s) (by simp)
  generalize flowHeard g m s = u at *
  have hworked := worked_settle u
  have hchosen := chosen_settle htaken.placed
  have hlevel := settle_level u
  have hsl : (settle u).sl = u.sl := settle_sl u
  obtain ⟨hfree, -⟩ := settle_onlySelects u
  have hfreeCount := Ring.freeCount_of_free hfree
  generalize settle u = t at *
  have hk0 : (drainHoldings (fun c => (s.chans[c]).filling) (s.ds, s.rm)).Kept ∅ := hk
  have hcommitted : t.ds.committed = s.ds.clampCommit m := hworked.committed.trans htaken.committed
  have hafter : ∀ y : Word32, seqAfter y (s.ds.clampCommit m) = true ↔
      1 ≤ (y - t.ds.committed).toNat ∧ (y - t.ds.committed).toNat < 2147483648 := fun y => by
    rw [hcommitted]; exact seqAfter_iff_half _ _
  have hsent : ∀ y, y ∈ t.ds.sent ↔ y ∈ s.ds.sent ∧ seqAfter y.seq (s.ds.clampCommit m) = true := fun y => by
    rw [hworked.sent, htaken.sent, List.mem_filter]
  have huredrain : ∀ y, y ∈ u.ds.redrain ↔ y ∈ s.ds.redrain ∧ seqAfter y.seq (s.ds.clampCommit m) = true := fun y => by
    rw [htaken.redrain, List.mem_filter]
  have hsentstate : ∀ y ∈ s.ds.sent, (s.rm.block y.block).state = .sent := fun y hy =>
    (hk.placed y.block (Set.notMem_empty _) .sent (by decide)).mp (List.mem_map_of_mem hy)
  refine ⟨t, hexec, ?_, hcommitted.trans hclamp, hworked.transmitted.trans htaken.transmitted, fun y => ?_, fun y hy => ?_,
    fun y hy h1 h2 => ?_, fun y hy => ?_, fun e he => ⟨?_, ?_⟩, ?_, fun y hy hnot => ?_, ?_, ?_, ?_, ?_, ?_, ?_, honly⟩
  · rw [hworked.granted, htaken.granted, takeGrant_eq]
  · rw [hsent, hafter]
  · have hy' := (huredrain y).mp (hworked.redrain.subset hy)
    rwa [hafter] at hy'
  · have hy' := (huredrain y).mpr ⟨hy, (hafter _).mpr ⟨h1, h2⟩⟩
    have hkept := htaken.ring.kept y.block
      (not_covered_of_after hk0 (List.mem_append_right _ hy) ((hafter _).mpr ⟨h1, h2⟩))
    obtain ⟨hstay, hblock⟩ | ⟨hslot, hblock⟩ := hchosen.waiting y hy'
    · exact .inl ⟨hstay, hblock.trans hkept⟩
    · obtain ⟨e, he, hst⟩ := List.mem_map.mp hslot
      simp only [SlotEntry.standing, Prod.mk.injEq] at hst
      obtain ⟨hb, hq, hcov, hre, -⟩ := hst
      exact .inr ⟨⟨e, he, hb, hq, hcov, hre⟩, by rw [hblock]; dsimp only; rw [hkept]⟩
  · obtain ⟨hys, hya⟩ := (hsent y).mp hy
    have hkept := htaken.ring.kept y.block (not_covered_of_after hk0 (List.mem_append_left _ hys) hya)
    have hstate := hsentstate y hys
    exact (hchosen.others y.block (by rw [hkept, hstate]; nofun) (by rw [hkept, hstate]; nofun)).trans hkept
  · have hkept := htaken.ring.kept e.block (not_covered_of_slot hk0 he)
    have hstate := sending_of_mem_slot hcollected he
    exact (hchosen.others e.block (by rw [hkept, hstate]; nofun) (by rw [hkept, hstate]; nofun)).trans hkept
  · have hmem : SlotEntry.standing { e with covered := e.covered || seqAtOrBefore e.seq (s.ds.clampCommit m) } ∈
        u.ds.slot.map SlotEntry.standing := by
      rw [htaken.slot]
      exact List.mem_map_of_mem (List.mem_map_of_mem he)
    obtain ⟨e', he', hst⟩ := List.mem_map.mp (hworked.slot.subset hmem)
    obtain ⟨hb, hq, hcov, hre, hbegun⟩ := standing_fields hst
    refine ⟨e', he', hb, hq, hre, hbegun, ?_⟩
    rw [hcov, ← hafter, Bool.or_eq_true, seqAtOrBefore, Bool.not_eq_true', Bool.not_eq_true]
  · rw [hlevel, htaken.ring.level, hfreeCount]
  · have hleft := htaken.ring.covered y (List.mem_append.mpr hy) ((hafter _).not.mpr hnot)
    have hstate : (u.rm.block y.block).state ≠ .queued ∧ (u.rm.block y.block).state ≠ .redrain := by
      rw [hleft, Descriptor.left, if_pos rfl]
      split
      · exact ⟨nofun, nofun⟩
      · exact ⟨nofun, nofun⟩
    exact (hchosen.others y.block hstate.1 hstate.2).trans hleft
  · rw [hfreeCount]
    exact htaken.ring.freed
  all_goals rw [hsl]
  · exact hready
  · exact hother
  · exact hsilence
  · exact htx
  · exact hrejected

end Sys2Proof.Machine
end

section
/-! PROOFS. A record that closes and a block that is sealed, from the engine to the part: the seal-age timer and FLUSH (R36, R40, R61,
R65, R76 to R79). -/

namespace Sys2Proof.Machine

open Sys2Proof.Safety

/-! ## RM seals a block (R79) -/

section
variable {rm : Ring} {b : BlockId}

/-- A held block that is sealed takes its class and cause, and is QUEUED at once when all its bytes are written. -/
theorem Ring.block_seal (k : ClassId) (cause : SealCause) (h : rm.holds b) : ∃ st, (st = .sealing ∨ st = .queued) ∧
    (rm.seal b k cause).block b = { rm.block b with state := st, cls := some k, cause := some cause } := by
  have hblock := Ring.block_modify (fun d : Descriptor => { d with state := .sealing, cls := some k, cause := some cause }) h
  unfold Ring.seal
  dsimp only
  split
  · refine ⟨.queued, .inr rfl, ?_⟩
    rw [Ring.block_enqueue (congrArg Descriptor.cls hblock), hblock]
  · exact ⟨.sealing, .inl rfl, hblock⟩

theorem Ring.block_seal_ne (k : ClassId) (cause : SealCause) {b' : BlockId} (h : b' ≠ b) :
    (rm.seal b k cause).block b' = rm.block b' := by
  unfold Ring.seal
  dsimp only
  split
  · rw [Ring.block_enqueue_ne h, Ring.block_modify_ne _ h]
  · exact Ring.block_modify_ne _ h

end

/-! ## What a record that closes brings (R61, R65) -/

/-- The part of a descriptor that tells what the block holds. -/
def Descriptor.contents (d : Descriptor) :
    Nat × Nat × Option Word64 × Nat × Option Word64 × Option Word64 × Option Word32 :=
  (d.bytesUsed, d.records, d.lastIndex, d.unwritten, d.firstIndex, d.firstFrame, d.sweep)

theorem keptOrSelected_contents {d d' : Descriptor} (h : KeptOrSelected d d') : d'.contents = d.contents ∧ d'.cls = d.cls ∧
    d'.cause = d.cause ∧ ((d.state = .sealing ∨ d.state = .queued ∨ d.state = .sending) →
      d'.state = .sealing ∨ d'.state = .queued ∨ d'.state = .sending) := by
  obtain rfl | h := h
  · exact ⟨rfl, rfl, rfl, id⟩
  · rw [h]; exact ⟨rfl, rfl, rfl, fun _ => .inr (.inr rfl)⟩

/-- `RecordClosed`, of a channel and a descriptor before and after. -/
def RecordEnds (kind : EndKind) (b : BlockId) (ch ch' : Channel) (d d' : Descriptor) : Prop :=
  (ch.record = none → ch'.waiting = ch.waiting ∧ d'.bytesUsed = d.bytesUsed ∧ d'.records = d.records ∧
    d'.lastIndex = d.lastIndex ∧ d'.unwritten = d.unwritten) ∧
  ∀ (r : OpenRecord) (cp : CurrentProfile), ch.record = some r → ch.current = some cp →
    ch'.waiting = ch.waiting ++ [⟨r.block, r.offset, closedHeader cp.content r kind⟩] ∧
    (r.block = b →
      d'.bytesUsed = r.offset + recordSize cp.content.width r.valueCount ∧ d'.records = d.records + 1 ∧
      d'.lastIndex = some r.lastIndex ∧
      d'.unwritten = d.unwritten + (if ch.pack.isSome then 2 else 0)
        + (pad4 (payloadBytes cp.content.width r.valueCount) - payloadBytes cp.content.width r.valueCount) + 32 ∧
      (d.records = 0 → d'.firstIndex = some r.firstIndex ∧ d'.firstFrame = some r.firstFrame ∧ d'.sweep = some r.sweep) ∧
      (d.records ≠ 0 → d'.firstIndex = d.firstIndex ∧ d'.firstFrame = d.firstFrame ∧ d'.sweep = d.sweep))

theorem recordClosed_iff {kind : EndKind} {c : ChannelId} {b : BlockId} {s t : State} :
    RecordClosed kind c b s t ↔ RecordEnds kind b s.chans[c] t.chans[c] (s.rm.block b) (t.rm.block b) := Iff.rfl

/-- Only the header slots and what the descriptor tells of the contents matter. -/
theorem RecordEnds.congr {kind : EndKind} {b : BlockId} {ch ch' ch'' : Channel} {d d' d'' : Descriptor}
    (h : RecordEnds kind b ch ch' d d') (hw : ch''.waiting = ch'.waiting) (hd : d''.contents = d'.contents) :
    RecordEnds kind b ch ch'' d d'' := by
  simp only [Descriptor.contents, Prod.mk.injEq] at hd
  obtain ⟨h1, h2, h3, h4, h5, h6, h7⟩ := hd
  simp only [RecordEnds, hw, h1, h2, h3, h4, h5, h6, h7]
  exact h

theorem closingBytes_length (p : Profile) (r : OpenRecord) (pack : Option (BitVec 12)) : (closingBytes p r pack).length =
    (if pack.isSome then 2 else 0) + (pad4 (payloadBytes p.width r.valueCount) - payloadBytes p.width r.valueCount) := by
  cases pack with
  | none => simp [closingBytes]
  | some a =>
    simp only [closingBytes, loneBytes, List.length_append, zeros_length]
    rfl

section
variable {v : Env} {e : Engine} {b : BlockId}

theorem recordEnds_closeRecord (kind : EndKind) (hheld : e.rm.holds b) :
    RecordEnds kind b e.ch (closeRecord kind e).ch (e.rm.block b) ((closeRecord kind e).rm.block b) := by
  refine ⟨fun hnone => ?_, fun r cp hr hcp => ?_⟩
  · rw [closeRecord_of_none hnone]
    exact ⟨rfl, rfl, rfl, rfl, rfl⟩
  · rw [closeRecord_of_open hr hcp]
    refine ⟨rfl, fun hb => ?_⟩
    subst hb
    dsimp only
    rw [Ring.block_modify _ hheld]
    refine ⟨rfl, rfl, rfl, ?_, fun h => ⟨if_pos h, if_pos h, if_pos h⟩, fun h => ⟨if_neg h, if_neg h, if_neg h⟩⟩
    change _ + (closingBytes cp.content r e.ch.pack).length + 32 = _
    rw [closingBytes_length, ← Nat.add_assoc]

theorem holds_closeRecord (kind : EndKind) (h : e.rm.holds b) : (closeRecord kind e).rm.holds b := by
  unfold closeRecord
  split
  · exact (Ring.holds_modify ..).mpr h
  · exact h

theorem fillingUsed_eq (h : e.ch.filling = some b) : e.fillingUsed = (e.rm.block b).bytesUsed := by
  unfold Engine.fillingUsed
  rw [h]

theorem fillingUsed_of_none (h : e.ch.filling = none) : e.fillingUsed = 0 := by
  unfold Engine.fillingUsed
  rw [h]

theorem sealFilling_of_filling (cause : SealCause) (h : e.ch.filling = some b) : sealFilling v cause e =
    { e with ch := { e.ch with filling := none, sealTimer := none }, rm := e.rm.seal b v.config.cls cause } := by
  unfold sealFilling
  rw [h]

/-- What closing the record and sealing the block leave of the channel and its block. -/
structure SealedOff (kind : EndKind) (cause : SealCause) (k : ClassId) (b : BlockId) (ch ch' : Channel) (d d' : Descriptor) : Prop where
  filling : ch'.filling = none
  sealTimer : ch'.sealTimer = none
  record : ch'.record = none
  state : ch'.state = ch.state
  group : ch'.group = ch.group
  current : ch'.current = ch.current
  gap : ch'.gap = ch.gap
  nextIndex : ch'.nextIndex = ch.nextIndex
  ends : RecordEnds kind b ch ch' d d'
  sealedFor : d'.cause = some cause
  cls : d'.cls = some k
  queued : d'.state = .sealing ∨ d'.state = .queued ∨ d'.state = .sending

theorem sealedOff_engine (kind : EndKind) (cause : SealCause) (hfill : e.ch.filling = some b) (hheld : e.rm.holds b)
    (hsound : e.ch.record.isSome → e.ch.current.isSome) :
    SealedOff kind cause v.config.cls b e.ch (sealFilling v cause (closeRecord kind e)).ch (e.rm.block b)
      ((sealFilling v cause (closeRecord kind e)).rm.block b) := by
  obtain ⟨-, hstate, -, hnext, -, hcurrent, hgroup, hfilling, -, hgap, -⟩ := closeRecord_frame kind e
  have hends := recordEnds_closeRecord kind hheld
  have hrecord := closeRecord_record (kind := kind) hsound
  have hheld' := holds_closeRecord kind hheld
  generalize closeRecord kind e = e1 at *
  obtain ⟨st, hst, hblock⟩ := Ring.block_seal v.config.cls cause hheld'
  rw [sealFilling_of_filling cause (hfilling.trans hfill)]
  dsimp only
  rw [hblock]
  exact ⟨rfl, rfl, hrecord, hstate, hgroup, hcurrent, hgap, hnext, hends.congr rfl rfl, rfl, rfl, hst.imp_right .inl⟩

theorem SealedOff.selected {kind : EndKind} {cause : SealCause} {k : ClassId} {ch ch' : Channel} {d d' d'' : Descriptor}
    (h : SealedOff kind cause k b ch ch' d d') (hd : KeptOrSelected d' d'') : SealedOff kind cause k b ch ch' d d'' := by
  obtain ⟨hcontents, hcls, hcause, hstate⟩ := keptOrSelected_contents hd
  exact { h with ends := h.ends.congr rfl hcontents, sealedFor := hcause.trans h.sealedFor, cls := hcls.trans h.cls,
                 queued := hstate h.queued }

theorem sealFilling_free (v : Env) (cause : SealCause) (e : Engine) : (sealFilling v cause e).rm.free = e.rm.free := by
  unfold sealFilling
  split
  · rfl
  · exact Ring.seal_free ..

end

/-! ## The part when one channel has acted -/

/-- The part after channel `c`'s engine became `x` and DS did its own work. -/
structure EngineTaken (c : ChannelId) (x : Engine) (s t : State) : Prop where
  chans : t.chans = put s.chans c x.ch
  marks : t.marks = x.marks
  free : t.rm.free = x.rm.free
  level : t.rm.level = x.rm.level
  blocks : ∀ b, KeptOrSelected (x.rm.block b) (t.rm.block b)
  unheld : ∀ b, ¬ x.rm.holds b → t.rm.block b = x.rm.block b

section
variable {c : ChannelId} {x : Engine} {s t u : State}

theorem engineTaken_settle (hchans : u.chans = put s.chans c x.ch) (hrm : u.rm = x.rm) (hmarks : u.marks = x.marks) :
    EngineTaken c x s (settle u) := by
  obtain ⟨hfree, hblocks⟩ := settle_onlySelects u
  have hlevel := settle_level u
  have hunheld := fun b => settle_block_of_not_holds (s := u) (b := b)
  rw [hrm] at hfree hblocks hlevel hunheld
  exact ⟨(settle_chans u).trans hchans, (settle_marks u).trans hmarks, hfree, hlevel, hblocks, hunheld⟩

theorem EngineTaken.channel (h : EngineTaken c x s t) : t.chans[c] = x.ch := by rw [h.chans]; exact get_put_self _ _ _

theorem EngineTaken.others (h : EngineTaken c x s t) : OtherChannelsKept c s t := fun d hd => by
  rw [h.chans]; exact get_put_ne _ _ (Ne.symm hd)

theorem withEngine_changesOnly (hmarks : x.marks = s.marks) : ChangesOnly [.chans, .rm] s (s.withEngine c x) :=
  changesOnly_of fun p => by
    cases p with
    | chans | rm => exact .inl (by simp)
    | marks => exact .inr hmarks
    | _ => exact .inr rfl

theorem sealFilling_marks (v : Env) (cause : SealCause) (kind : EndKind) (e : Engine) :
    (sealFilling v cause (closeRecord kind e)).marks = e.marks :=
  (sealFilling_frame v cause _).1.trans (closeRecord_frame kind e).1

theorem closeRecord_free (kind : EndKind) (e : Engine) : (closeRecord kind e).rm.free = e.rm.free := by
  obtain ⟨-, -, -, -, -, -, -, -, -, -, hfree, -⟩ := closeRecord_frame kind e
  exact hfree

theorem holds_of_filling {b : BlockId} (h : (s.rm.block b).state = .filling) : s.rm.holds b :=
  holds_of_state (by rw [h]; nofun) (by rw [h]; nofun)

/-! ## The seal-age timer (R36) -/

theorem exec_sealAgeTimerExpiry (hpin : s.su.resetLow = false) (htimer : (s.chans[c]).sealTimer ≠ none) :
    exec (.sealAgeTimerExpiry c) s = .next (settle (s.withEngine c (sealAgeExpiry (s.env c) (s.engine c)))) :=
  released_onlyWhen_eq (fun t => settle (onChannel (fun v e => sealAgeExpiry v e) c t)) hpin (Option.isSome_iff_ne_none.mpr htimer)

theorem sealAgeExpiry_of_used {v : Env} {e : Engine} (h : 0 < e.fillingUsed) :
    sealAgeExpiry v e = sealFilling v .age (closeRecord .split e) := if_pos h

theorem sealAgeExpiry_of_empty {v : Env} {e : Engine} (h : e.fillingUsed = 0) :
    sealAgeExpiry v e = { e with ch := { e.ch with sealTimer := none } } := if_neg (Nat.not_lt.mpr h.le)

theorem sealAgeExpiry_frame (v : Env) (e : Engine) :
    (sealAgeExpiry v e).marks = e.marks ∧ (sealAgeExpiry v e).rm.free = e.rm.free := by
  obtain h | h := Nat.eq_zero_or_pos e.fillingUsed
  · rw [sealAgeExpiry_of_empty h]
    exact ⟨rfl, rfl⟩
  · rw [sealAgeExpiry_of_used h]
    exact ⟨sealFilling_marks .., (sealFilling_free ..).trans (closeRecord_free ..)⟩

end

/-- Settles O27: by whether the block holds bytes; a block with bytes is sealed off after its record's SPLIT end. -/
theorem sealAgeTimerExpirySealsTheBlock : Obligations.SealAgeTimerExpirySealsTheBlock := by
  unfold Obligations.SealAgeTimerExpirySealsTheBlock
  intro s c b hpin htimer hfill hstate hsound
  have hexec := exec_sealAgeTimerExpiry hpin htimer
  have hused : (s.engine c).fillingUsed = (s.rm.block b).bytesUsed := fillingUsed_eq hfill
  have hempty := sealAgeExpiry_of_empty (v := s.env c) (e := s.engine c)
  have hfull := sealAgeExpiry_of_used (v := s.env c) (e := s.engine c)
  obtain ⟨hmarks, hfree⟩ := sealAgeExpiry_frame (s.env c) (s.engine c)
  have hsealed := sealedOff_engine (v := s.env c) (e := s.engine c) .split .age hfill (holds_of_filling hstate) hsound.1
  generalize sealAgeExpiry (s.env c) (s.engine c) = x at *
  have honly := changesOnly_settle (ps := [.chans, .rm, .planes, .ds])
    (changesOnly_mono (by simp) (withEngine_changesOnly (s := s) (c := c) hmarks)) (by simp)
  have htaken : EngineTaken c x s (settle (s.withEngine c x)) := engineTaken_settle rfl rfl rfl
  generalize settle (s.withEngine c x) = t at *
  refine ⟨t, hexec, htaken.others, fun hpos => ?_, fun hzero => ?_, htaken.free.trans hfree, honly⟩
  · rw [← hfull (hused ▸ hpos), ← htaken.channel] at hsealed
    have h := hsealed.selected (htaken.blocks b)
    exact ⟨h.filling, h.sealTimer, h.record, h.state, h.group, h.current, h.nextIndex, h.ends, h.sealedFor, h.cls, h.queued⟩
  · have hx := hempty (hused.trans hzero)
    have hblock := htaken.blocks b
    rw [hx] at hblock
    exact ⟨htaken.chans.trans (by rw [hx]; rfl), hblock⟩

/-! ## FLUSH (R40) -/

section
variable {s : State} {c : ChannelId} {r : Request}

theorem exec_channelFlush (hserving : Serving r s) (hrow : r.row = some .channelFlush) (hfits : lengthFits .channelFlush r = true)
    (hc : byteAt r.contents 0 = byteOf c.val) : exec .channelFlush s = .next (settle (finish r
      (s.withEngine c (flushChannel (s.env c) (s.engine c)).1, (flushChannel (s.env c) (s.engine c)).2, []))) := by
  refine (released_eq (fun u => settle (serve .channelFlush (channelCommand flushChannel) u)) hserving.1).trans ?_
  rw [serve_of_serving hserving hrow nofun hfits, channelCommand_of_channel hc]

variable {v : Env} {e : Engine}

/-- A FLUSH is always answered OK. -/
theorem flushChannel_answer (v : Env) (e : Engine) : (flushChannel v e).2 = .ok := by
  unfold flushChannel
  split
  · split <;> rfl
  · split <;> rfl
  all_goals rfl

/-- A running channel whose block holds bytes closes what is open and seals the block; in LOSS nothing is open. -/
theorem flushChannel_of_used (hsound : ChannelSound e.ch) (hrun : e.ch.state = .active ∨ e.ch.state = .loss) (hused : 0 < e.fillingUsed) :
    (flushChannel v e).1 = sealFilling v .flush (closeRecord .split e) := by
  obtain hs | hs := hrun
  · simp only [flushChannel, hs, if_pos hused]
    rfl
  · obtain ⟨-, -, -, -, hloss⟩ := hsound
    rw [hs] at hloss
    simp only [flushChannel, hs, if_pos hused]
    rw [closeRecord_of_no_profile hloss.1]

theorem flushChannel_of_not (h : (e.ch.state ≠ .active ∧ e.ch.state ≠ .loss) ∨ e.fillingUsed = 0) : (flushChannel v e).1 = e := by
  have hzero : e.fillingUsed = 0 → ¬ 0 < e.fillingUsed := fun h => Nat.not_lt.mpr h.le
  unfold flushChannel
  split
  · next hs => rw [if_neg (hzero (h.resolve_left fun h => h.1 hs))]
  · next hs => rw [if_neg (hzero (h.resolve_left fun h => h.2 hs))]
  all_goals rfl

theorem flushChannel_frame (hsound : ChannelSound e.ch) : (flushChannel v e).1.marks = e.marks ∧ (flushChannel v e).1.rm.free = e.rm.free := by
  by_cases h : (e.ch.state = .active ∨ e.ch.state = .loss) ∧ 0 < e.fillingUsed
  · rw [flushChannel_of_used hsound h.1 h.2]
    exact ⟨sealFilling_marks .., (sealFilling_free ..).trans (closeRecord_free ..)⟩
  · have hnot : (e.ch.state ≠ .active ∧ e.ch.state ≠ .loss) ∨ e.fillingUsed = 0 := by
      obtain h | h := not_and_or.mp h
      · exact .inl (not_or.mp h)
      · exact .inr (Nat.le_zero.mp (Nat.not_lt.mp h))
    rw [flushChannel_of_not hnot]
    exact ⟨rfl, rfl⟩

end

/-- Settles O53: a running channel's block with bytes is sealed off after its record's SPLIT end; else the engine is as it was. -/
theorem flushSealsTheBlock : Obligations.FlushSealsTheBlock := by
  unfold Obligations.FlushSealsTheBlock
  intro s tag z1 z2 c r hserving hsound
  have hexec := exec_channelFlush (r := r) (c := c) hserving rfl rfl rfl
  have hanswer := flushChannel_answer (s.env c) (s.engine c)
  have hused := flushChannel_of_used (v := s.env c) (e := s.engine c) hsound
  have hnot := flushChannel_of_not (v := s.env c) (e := s.engine c)
  obtain ⟨hmarks, hfree⟩ := flushChannel_frame (v := s.env c) (e := s.engine c) hsound
  rw [hanswer] at hexec
  generalize (flushChannel (s.env c) (s.engine c)).1 = x at *
  obtain ⟨hstream, hreply⟩ := finish_of_mu_eq (r := r) (x := (s.withEngine c x, .ok, [])) (s := s) rfl
  have honly := changesOnly_settle (ps := [.chans, .mu, .rm, .ds, .planes]) (changesOnly_finish r (s.withEngine c x, .ok, [])
    (changesOnly_mono (by simp) (withEngine_changesOnly (s := s) (c := c) hmarks)) (by simp)) (by simp)
  have htaken : EngineTaken c x s (settle (finish r (s.withEngine c x, .ok, []))) :=
    engineTaken_settle (finish_chans ..) (finish_rm ..) (finish_marks ..)
  have hreply' := answered_settle hreply
  have hstream' := (congrArg Management.stream (settle_mu (finish r (s.withEngine c x, .ok, [])))).trans hstream
  generalize settle (finish r (s.withEngine c x, .ok, [])) = t at *
  refine ⟨t, hexec, hstream', hreply', htaken.others, honly, htaken.free.trans hfree, fun b hfill hstate hpos hrun => ?_, fun h => ?_⟩
  · have hsealed := sealedOff_engine (v := s.env c) (e := s.engine c) .split .flush hfill (holds_of_filling hstate) hsound.1
    rw [← hused hrun ((fillingUsed_eq (e := s.engine c) hfill).symm ▸ hpos), ← htaken.channel] at hsealed
    have h := hsealed.selected (htaken.blocks b)
    exact ⟨h.filling, h.sealTimer, h.record, h.state, h.group, h.current, h.gap, h.nextIndex, h.ends, h.sealedFor, h.cls, h.queued⟩
  · have hx : x = s.engine c := hnot <| h.imp_right fun h => by
      obtain hnone | hempty := h
      · exact fillingUsed_of_none (e := s.engine c) hnone
      · cases hfill : (s.chans[c]).filling with
        | none => exact fillingUsed_of_none (e := s.engine c) hfill
        | some b => exact (fillingUsed_eq (e := s.engine c) hfill).trans (hempty b hfill)
    rw [htaken.chans, hx]
    exact put_get _ _

end Sys2Proof.Machine
end

section
/-! PROOFS. STOP: what becomes of the filling block when a run closes, and what is left of the channel (R38, R59, R63, R79, R81). -/

namespace Sys2Proof.Machine

open Sys2Proof.Safety

/-! ## A block that stays filling through a BREAK end -/

section
variable {v : Env} {e e' : Engine} {b : BlockId}

/-- The engine fills `b`, which holds bytes, and a record it would abandon does not empty the block. -/
structure Fills (b : BlockId) (e : Engine) : Prop where
  filling : e.ch.filling = some b
  holds : e.rm.holds b
  used : 0 < (e.rm.block b).bytesUsed
  record : ∀ r, e.ch.record = some r → r.block = b → r.valueCount = 0 → 0 < r.offset

theorem recordSize_pos (w : Width) (n : Nat) : 0 < recordSize w n := by
  unfold recordSize
  exact Nat.add_pos_left (by decide) _

/-- A change of one descriptor that leaves bytes in the block. -/
theorem Fills.edit (h : Fills b e) {b' : BlockId} {f : Descriptor → Descriptor} (hfill : e'.ch.filling = e.ch.filling)
    (hrm : e'.rm = e.rm.modify b' f) (hf : b' = b → 0 < (f (e.rm.block b)).bytesUsed)
    (hrecord : ∀ r, e'.ch.record = some r → r.block = b → r.valueCount = 0 → 0 < r.offset) : Fills b e' := by
  refine ⟨hfill.trans h.filling, ?_, ?_, hrecord⟩
  · rw [hrm]; exact (Ring.holds_modify ..).mpr h.holds
  · rw [hrm]
    by_cases hb : b = b'
    · subst hb
      rw [Ring.block_modify f h.holds]
      exact hf rfl
    · rw [Ring.block_modify_ne f hb]
      exact h.used

theorem Fills.closeRecord (kind : EndKind) (h : Fills b e) : Fills b (closeRecord kind e) := by
  cases hr : e.ch.record with
  | none => rwa [closeRecord_of_none hr]
  | some r =>
    cases hc : e.ch.current with
    | none => rwa [closeRecord_of_no_profile hc]
    | some cp =>
      rw [closeRecord_of_open hr hc]
      exact h.edit (f := Descriptor.recordClosed cp.content r _) rfl rfl (fun _ => Nat.add_pos_right _ (recordSize_pos _ _)) nofun

theorem Fills.placeUnit (p : Profile) (g : Group) (h : Fills b e) : Fills b (placeUnit p g e).1 := by
  unfold Machine.placeUnit
  split
  · exact h
  · next r hr =>
    split
    · have hemit : Fills b (emitUnit p g r e) :=
        h.edit (f := fun d => { d with unwritten := d.unwritten + (packUnit p e.ch.pack (groupValues p g)).1.length }) rfl rfl
          (fun _ => h.used) fun r' hr' _ hzero => by
            obtain rfl := Option.some.inj hr'
            exact absurd hzero (Nat.add_pos_right _ (groupValues_length_pos p g)).ne'
      dsimp only
      split
      · exact hemit.closeRecord .split
      · exact hemit
    · split
      · next hzero =>
        unfold abandonRecord
        rw [hr]
        exact h.edit (f := fun d => { d with bytesUsed := r.offset }) rfl rfl (fun hb => h.record r hr hb hzero) nofun
      · exact h

/-- A block with room for a record stays the filling block. -/
theorem ensureBlock_of_room {need : Nat} (hfill : e.ch.filling = some b) (hroom : ¬ 1048576 < (e.rm.block b).bytesUsed + need) :
    ensureBlock v need e = (e, true) := by
  have hcond : (e.ch.filling.isSome && decide (Config.blockSize < e.fillingUsed + need)) = false := by
    rw [fillingUsed_eq hfill, Bool.and_eq_false_iff]
    exact .inr (decide_eq_false hroom)
  unfold ensureBlock
  rw [hcond]
  simp only [Bool.false_eq_true, if_false, hfill]

theorem openRecord_of_filling {need : Nat} (g : Group) (hfill : e.ch.filling = some b) : openRecord v need g e =
    { e with
      ch := { e.ch with
        record := some { block := b, offset := (e.rm.block b).bytesUsed, firstIndex := g.firstIndex, firstFrame := g.firstFrame,
                         sweep := e.ch.lastSweep, valueCount := 0, clipCount := 0, lastIndex := g.firstIndex }
        sealTimer := if (e.rm.block b).bytesUsed = 0 ∧ e.ch.sealTimer = none then sealAgeStart v else e.ch.sealTimer }
      rm := e.rm.modify b (fun d => { d with bytesUsed := (e.rm.block b).bytesUsed + need }) } := by
  unfold openRecord
  rw [hfill]

theorem Fills.startRecord {p : Profile} (g : Group) (h : Fills b e) (hroom : ¬ 1048576 < (e.rm.block b).bytesUsed + recordSize p.width p.recordLen) :
    Fills b (startRecord v p g e).1 := by
  unfold Machine.startRecord
  rw [ensureBlock_of_room h.filling hroom]
  dsimp only
  split
  · exact h
  · rw [openRecord_of_filling g h.filling]
    refine h.edit (f := fun d => { d with bytesUsed := (e.rm.block b).bytesUsed + recordSize p.width p.recordLen }) rfl rfl
      (fun _ => Nat.add_pos_left h.used _) fun r hr' _ _ => ?_
    obtain rfl := Option.some.inj hr'
    exact h.used

/-- The filling block has room for the record a completed group has to start, where it has to start one. -/
def RoomForGroup (b : BlockId) (e : Engine) : Prop :=
  e.ch.record = none → ∀ cp, e.ch.current = some cp →
    ¬ 1048576 < (e.rm.block b).bytesUsed + recordSize cp.content.width cp.content.recordLen

theorem Fills.place (g : Group) (h : Fills b e) (hroom : RoomForGroup b e) : Fills b (place v g e).1 := by
  unfold Machine.place
  split
  · exact h
  · next cp hc =>
    split
    · exact h.placeUnit _ g
    · next hr =>
      have hstart := h.startRecord (v := v) (p := cp.content) g (hroom (Option.not_isSome_iff_eq_none.mp hr) cp hc)
      split
      · next he => rw [he] at hstart; exact hstart
      · next he => rw [he] at hstart; exact hstart.placeUnit _ g

/-- What the block and the record decide, whatever else becomes of the channel. -/
theorem Fills.congr (h : Fills b e) (hfill : e'.ch.filling = e.ch.filling) (hrm : e'.rm = e.rm)
    (hrecord : e'.ch.record = e.ch.record) : Fills b e' :=
  ⟨hfill.trans h.filling, hrm ▸ h.holds, hrm ▸ h.used, hrecord ▸ h.record⟩

theorem Fills.placeGroup (g : Group) (h : Fills b e) (hroom : RoomForGroup b e) : Fills b (placeGroup v g e) := by
  have hplace : Fills b (Machine.place v g { e with ch := { e.ch with group := none } }).1 :=
    Fills.place (e := { e with ch := { e.ch with group := none } }) g (h.congr rfl rfl rfl) hroom
  rcases hp : Machine.place v g { e with ch := { e.ch with group := none } } with ⟨e1, _ | cause⟩
  · rw [hp] at hplace
    rwa [placeGroup_of_success hp]
  · rw [hp] at hplace
    rw [placeGroup_of_failure hp]
    obtain ⟨-, -, -, hrecord, hfilling⟩ := lose_frame v g.firstIndex (BitVec.ofNat 64 g.n) g.firstFrame cause
      { (Machine.closeRecord .break_ e1).ch with current := none, group := none }
    exact (hplace.closeRecord .break_).congr hfilling rfl hrecord

/-- A BREAK end whose last group finds room leaves the filling block. -/
theorem Fills.breakEnd (h : Fills b e) (hroom : e.ch.group ≠ none → RoomForGroup b e) : Fills b (breakEnd v e) := by
  have hrecord : Fills b (breakRecord v e) := by
    unfold breakRecord
    split
    · exact h.closeRecord .break_
    · next g hg => exact (h.placeGroup g (hroom (by rw [hg]; nofun))).closeRecord .break_
  rw [breakEnd_eq]
  exact hrecord.congr rfl rfl rfl

/-! ## A block that is sealed before the run closes -/

theorem ensureBlock_of_full {need : Nat} (hfill : e.ch.filling = some b) (hfull : 1048576 < (e.rm.block b).bytesUsed + need) :
    ensureBlock v need e = ensureBlock v need (sealFilling v .full e) := by
  have hcond : (e.ch.filling.isSome && decide (Config.blockSize < e.fillingUsed + need)) = true := by
    rw [fillingUsed_eq hfill, hfill]
    exact decide_eq_true hfull
  have hnone : (sealFilling v .full e).ch.filling = none := (sealFilling_frame v .full e).2.1
  have hcond' : ((sealFilling v .full e).ch.filling.isSome &&
      decide (Config.blockSize < (sealFilling v .full e).fillingUsed + need)) = false := by
    rw [hnone]; rfl
  unfold ensureBlock
  rw [hcond, hcond']
  rfl

/-- With no record open what a placement does is what its record's start does. -/
theorem place_of_start {g : Group} {cp : CurrentProfile} (hc : e.ch.current = some cp) (hc' : e'.ch.current = some cp)
    (hr : e.ch.record = none) (hr' : e'.ch.record = none) (hstart : startRecord v cp.content g e = startRecord v cp.content g e') :
    place v g e = place v g e' := by
  unfold place
  rw [hc, hc']
  dsimp only
  rw [hr, hr', hstart]
  rfl

/-- A last group whose record finds no room in the block closes as if the block had been sealed FULL before. -/
theorem breakEnd_of_full {g : Group} {cp : CurrentProfile} (hfill : e.ch.filling = some b) (hr : e.ch.record = none)
    (hg : e.ch.group = some g) (hc : e.ch.current = some cp)
    (hfull : 1048576 < (e.rm.block b).bytesUsed + recordSize cp.content.width cp.content.recordLen) :
    breakEnd v e = breakEnd v (sealFilling v .full e) := by
  have hstart : startRecord v cp.content g { e with ch := { e.ch with group := none } } =
      startRecord v cp.content g (sealFilling v .full { e with ch := { e.ch with group := none } }) := by
    unfold startRecord
    rw [ensureBlock_of_full (e := { e with ch := { e.ch with group := none } }) hfill hfull]
  have hseal : sealFilling v .full { e with ch := { e.ch with group := none } } =
      { sealFilling v .full e with ch := { (sealFilling v .full e).ch with group := none } } := by
    rw [sealFilling_of_filling .full hfill, sealFilling_of_filling .full (e := { e with ch := { e.ch with group := none } }) hfill]
  obtain ⟨-, -, -, -, -, -, hcurrent, hgroup, hrecord, -⟩ := sealFilling_frame v .full e
  have hplace : placeGroup v g e = placeGroup v g (sealFilling v .full e) := by
    rw [hseal] at hstart
    have h := place_of_start (e := { e with ch := { e.ch with group := none } })
      (e' := { sealFilling v .full e with ch := { (sealFilling v .full e).ch with group := none } })
      hc (hcurrent.trans hc) hr (hrecord.trans hr) hstart
    unfold placeGroup
    rw [h]
  unfold breakEnd
  rw [hg, hgroup.trans hg]
  dsimp only
  rw [hplace]

end

/-- Block `b` is sealed with the cause and the class and is not the filling block. -/
structure SealedOn (b : BlockId) (cause : SealCause) (k : ClassId) (x : Option BlockId × Ring) : Prop where
  apart : x.1 ≠ some b
  cause : (x.2.block b).cause = some cause
  cls : (x.2.block b).cls = some k
  state : (x.2.block b).state = .sealing ∨ (x.2.block b).state = .queued

section
variable {v : Env} {b : BlockId} {cause : SealCause} {k : ClassId} {x y : Option BlockId × Ring}

theorem SealedOn.of_block_eq (h : SealedOn b cause k x) (hapart : y.1 ≠ some b) (hblock : y.2.block b = x.2.block b) :
    SealedOn b cause k y :=
  ⟨hapart, hblock ▸ h.cause, hblock ▸ h.cls, hblock ▸ h.state⟩

theorem SealedOn.state_ne (h : SealedOn b cause k x) : (x.2.block b).state ≠ .free ∧ (x.2.block b).state ≠ .offline := by
  obtain hs | hs := h.state
  all_goals rw [hs]; exact ⟨nofun, nofun⟩

/-- What a channel then does to its filling block and RM leaves the sealed block. -/
theorem FillMove.sealedOn {h : Holdings} {c : ChannelId} (hm : FillMove v x y) (hk : (h.withFill c x.1 x.2).Kept ∅)
    (hs : SealedOn b cause k x) : SealedOn b cause k y := by
  have hr : tableRising x.2.blocks = true := hk.tabled.rising
  obtain ⟨hapart, hcause, hcls, hstate⟩ := id hs
  obtain ⟨hfree, hoffline⟩ := hs.state_ne
  cases hm with
  | sealed rm b' cause' => exact hs.of_block_eq nofun (Ring.block_seal_ne _ _ fun heq => hapart (by rw [heq]))
  | allocated rm rm' b' run halloc =>
    obtain ⟨p, rest, -, hp, rfl⟩ := Ring.allocate_some halloc
    have hplane : planeOf b' = p := ((hk.tabled.lists p _ hp).2 b' List.mem_cons_self).2
    have hne : b ≠ b' := by
      rintro rfl
      subst hplane
      exact hfree ((hk.placed b (Set.notMem_empty b) .free (by decide)).mp ⟨_, hp, List.mem_cons_self⟩)
    refine hs.of_block_eq (fun heq => hne (Option.some.inj heq).symm) ?_
    exact Ring.block_granted_ne (d := .allocated v.c run) (by rw [hp]; rfl) hne
  | released rm b' => exact hs.of_block_eq nofun (Ring.block_toFree_ne hr fun heq => hapart (by rw [heq]))
  | edited o rm b' f hf =>
    by_cases hb : b = b'
    · subst hb
      have hblock := Ring.block_modify f (holds_of_state hfree hoffline)
      obtain ⟨h1, h2, -, h4⟩ := hf (rm.block b)
      exact ⟨hapart, hblock ▸ h4.trans hcause, hblock ▸ h2.trans hcls, by rw [hblock, h1]; exact hstate⟩
    · exact hs.of_block_eq hapart (Ring.block_modify_ne f hb)

theorem FillMoves.sealedOn {h : Holdings} {c : ChannelId} (hm : FillMoves v x y) (hk : (h.withFill c x.1 x.2).Kept ∅)
    (hs : SealedOn b cause k x) : SealedOn b cause k y :=
  (hm.keep (P := fun x => (h.withFill c x.1 x.2).Kept ∅ ∧ SealedOn b cause k x)
    (fun _ _ hm h => ⟨hm.kept h.1, hm.sealedOn h.1 h.2⟩) ⟨hk, hs⟩).2

end

/-! ## What is left of a channel that stops (R38) -/

section
variable {v : Env} {e : Engine} {b : BlockId}

/-- The engine of an ACTIVE or LOSS channel whose record, group and profile are given up. -/
def brokenOff (v : Env) (e : Engine) : Engine := if e.ch.state = .active then breakEnd v e else e

theorem stopRun_eq (v : Env) (e : Engine) : stopRun v e =
    { (offerGap (giveUpBlock v (brokenOff v e))).1 with
      ch := ({ (offerGap (giveUpBlock v (brokenOff v e))).1.ch with state := .closing }).closeIfDone } := rfl

theorem stopChannel_of_running (h : e.ch.state = .active ∨ e.ch.state = .loss) : stopChannel v e = (stopRun v e, .ok) := by
  obtain h | h := h
  all_goals simp only [stopChannel, h]

theorem stopChannel_of_armed (h : e.ch.state = .armed) : stopChannel v e = ({ e with ch := { e.ch with state := .idle } }, .ok) := by
  simp only [stopChannel, h]

theorem stopChannel_of_stopped (h : e.ch.state = .idle ∨ e.ch.state = .closing) : stopChannel v e = (e, .refused) := by
  obtain h | h := h
  all_goals simp only [stopChannel, h]

/-- A channel whose run closes is IDLE exactly when its gap is queued and its staging written (R38, R39). -/
theorem closing_closeIfDone (ch : Channel) : ({ ch with state := .closing } : Channel).closeIfDone =
    { ch with state := if ch.gap = none ∧ ch.runs = [] ∧ ch.waiting = [] then .idle else .closing } := by
  have hiff : (({ ch with state := .closing } : Channel).state = .closing ∧ ({ ch with state := .closing } : Channel).gap = none ∧
      ({ ch with state := .closing } : Channel).stagingWritten = true) ↔ ch.gap = none ∧ ch.runs = [] ∧ ch.waiting = [] := by
    simp [Channel.stagingWritten]
  unfold Channel.closeIfDone
  by_cases h : ch.gap = none ∧ ch.runs = [] ∧ ch.waiting = []
  · rw [if_pos (hiff.mpr h), if_pos h]
  · rw [if_neg (hiff.not.mpr h), if_neg h]

/-- What breaking off leaves of a sound channel. -/
theorem brokenOff_frame (hsound : ChannelSound e.ch) (h : e.ch.state = .active ∨ e.ch.state = .loss) :
    SameRun e.ch (brokenOff v e).ch ∧ (brokenOff v e).marks = e.marks ∧ (brokenOff v e).ch.record = none ∧
      (brokenOff v e).ch.group = none ∧ (brokenOff v e).ch.current = none := by
  unfold brokenOff
  obtain hs | hs := h
  · rw [if_pos hs]
    have hsound' : ChannelSound (breakEnd v e).ch :=
      (moves_breakEnd (v := v) hs).keep (P := fun e => ChannelSound e.ch) (fun _ _ => EngineMove.channelSound) hsound
    obtain ⟨⟨hrecord, -⟩, -⟩ := breakEnd_closed hsound'
    obtain ⟨hrun, hmarks, -, hgroup, hcurrent⟩ := breakEnd_frame v e
    exact ⟨hrun, hmarks, hrecord, hgroup, hcurrent⟩
  · rw [if_neg (by rw [hs]; nofun)]
    obtain ⟨-, -, -, -, hloss⟩ := id hsound
    rw [hs] at hloss
    obtain ⟨hrecord, hgroup⟩ := closed_of_no_profile hsound hloss.1
    exact ⟨.refl _, rfl, hrecord, hgroup, hloss.1⟩

/-- What is left of a run that closed. -/
structure RunClosed (ch ch' : Channel) (m m' : MarkUnit) : Prop where
  run : SameRun ch ch'
  filling : ch'.filling = none
  record : ch'.record = none
  group : ch'.group = none
  current : ch'.current = none
  state : ch'.state = if ch'.gap = none ∧ ch'.runs = [] ∧ ch'.waiting = [] then .idle else .closing
  gap : ch'.gap ≠ none → 64 ≤ m.queue.length ∧ m' = m

theorem runClosed_stopRun (hsound : ChannelSound e.ch) (h : e.ch.state = .active ∨ e.ch.state = .loss) :
    RunClosed e.ch (stopRun v e).ch e.marks (stopRun v e).marks := by
  obtain ⟨hrun, hmarks, hrecord, hgroup, hcurrent⟩ := brokenOff_frame (v := v) hsound h
  obtain ⟨hmarks', hfilling, hch⟩ := giveUpBlock_frame v (brokenOff v e)
  rw [stopRun_eq, closing_closeIfDone]
  generalize brokenOff v e = e1 at *
  have hkept : ∀ ch : Channel, ch.record = e1.ch.record → ch.group = e1.ch.group → ch.current = e1.ch.current →
      SameRun e1.ch ch → ch.filling = none → SameRun e.ch ch ∧ ch.filling = none ∧ ch.record = none ∧ ch.group = none ∧ ch.current = none :=
    fun ch h1 h2 h3 h4 h5 => ⟨hrun.trans h4, h5, h1.trans hrecord, h2.trans hgroup, h3.trans hcurrent⟩
  have hgive := hkept (giveUpBlock v e1).ch (by rw [hch]) (by rw [hch]) (by rw [hch]) (by rw [hch]; exact .refl _) hfilling
  generalize giveUpBlock v e1 = e2 at *
  obtain ⟨h1, h2, h3, h4, h5⟩ := hgive
  have hgap : (offerGap e2).1.ch.gap ≠ none → 64 ≤ e.marks.queue.length ∧ (offerGap e2).1.marks = e.marks := fun hne => by
    rw [← hmarks, ← hmarks']
    obtain ⟨hg, he⟩ | ⟨g, -, -, he⟩ | ⟨g, -, -, -, he⟩ | ⟨g, -, -, hfull, he⟩ := offerGap_cases e2
    · rw [he] at hne; exact absurd hg hne
    · rw [he] at hne; exact absurd rfl hne
    · rw [he] at hne; exact absurd rfl hne
    · rw [he]; exact ⟨Nat.not_lt.mp hfull, rfl⟩
  obtain ho | ho := offerGap_ch e2
  all_goals
    rw [ho] at hgap ⊢
    exact ⟨h1, h2, h3, h4, h5, rfl, hgap⟩

/-! ## What becomes of the filling block (R38, R79, R81) -/

theorem stopRun_rm (v : Env) (e : Engine) : (stopRun v e).rm = (giveUpBlock v (brokenOff v e)).rm := by
  rw [stopRun_eq]
  exact offerGap_rm _

theorem giveUpBlock_of_used (hfill : e.ch.filling = some b) (hused : 0 < (e.rm.block b).bytesUsed) :
    giveUpBlock v e = sealFilling v .stop e := by
  unfold giveUpBlock
  rw [hfill]
  exact if_pos hused

theorem giveUpBlock_of_empty (hfill : e.ch.filling = some b) (hempty : (e.rm.block b).bytesUsed = 0) :
    giveUpBlock v e = { e with ch := { e.ch with filling := none, sealTimer := none }, rm := e.rm.releaseEmpty v.ts.settings b } := by
  unfold giveUpBlock
  rw [hfill]
  exact if_neg (Nat.not_lt.mpr hempty.le)

/-- The last group has to start a record the filling block has no room for (R59). -/
def FullAtEnd (b : BlockId) (e : Engine) : Prop := ∃ cp, e.ch.current = some cp ∧ e.ch.record = none ∧ e.ch.group ≠ none ∧
  1048576 < (e.rm.block b).bytesUsed + recordSize cp.content.width cp.content.recordLen

theorem fillMoves_brokenOff (hs : e.ch.state = .active) : FillMoves v e.filled (brokenOff v e).filled := by
  unfold brokenOff
  rw [if_pos hs]
  exact (moves_breakEnd hs).rel (R := fun a b => FillMoves v a.filled b.filled) (fun _ => .refl) (fun _ _ _ h h' => h.trans h')
    fun _ _ => EngineMove.fillMoves

theorem sealedOn_giveUp (h : Fills b e) : SealedOn b .stop v.config.cls (giveUpBlock v e).filled := by
  obtain ⟨st, hst, hblock⟩ := Ring.block_seal v.config.cls .stop h.holds
  rw [giveUpBlock_of_used h.filling h.used, sealFilling_of_filling .stop h.filling]
  exact ⟨nofun, congrArg Descriptor.cause hblock, congrArg Descriptor.cls hblock, by rw [Engine.filled, hblock]; exact hst⟩

/-- The block of an ACTIVE channel that stops is sealed: FULL where the last group found no room in it, else STOP. -/
theorem sealedOn_stopRun {h : Holdings} {c : ChannelId} (hs : e.ch.state = .active) (hb : Fills b e)
    (hk : (h.withFill c e.ch.filling e.rm).Kept ∅) :
    (FullAtEnd b e → SealedOn b .full v.config.cls (giveUpBlock v (brokenOff v e)).filled) ∧
    (¬ FullAtEnd b e → SealedOn b .stop v.config.cls (giveUpBlock v (brokenOff v e)).filled) := by
  refine ⟨fun ⟨cp, hc, hr, hg, hfull⟩ => ?_, fun hroom => ?_⟩
  · obtain ⟨g, hg⟩ := Option.ne_none_iff_exists'.mp hg
    have hstate : (sealFilling v .full e).ch.state = .active := (sealFilling_frame v .full e).2.2.1.trans hs
    have heq : brokenOff v e = brokenOff v (sealFilling v .full e) := by
      unfold brokenOff
      rw [if_pos hs, if_pos hstate]
      exact breakEnd_of_full hb.filling hr hg hc hfull
    have hkept : (h.withFill c (sealFilling v .full e).ch.filling (sealFilling v .full e).rm).Kept ∅ :=
      (fillMoves_sealFilling (v := v) (e := e) .full).keep (P := fun x => (h.withFill c x.1 x.2).Kept ∅)
        (fun _ _ hm hk => hm.kept hk) hk
    obtain ⟨st, hst, hblock⟩ := Ring.block_seal v.config.cls .full hb.holds
    have hsealed : SealedOn b .full v.config.cls (sealFilling v .full e).filled := by
      rw [sealFilling_of_filling .full hb.filling]
      exact ⟨nofun, congrArg Descriptor.cause hblock, congrArg Descriptor.cls hblock, by rw [Engine.filled, hblock]; exact hst⟩
    rw [heq]
    exact FillMoves.sealedOn ((fillMoves_brokenOff hstate).trans fillMoves_giveUpBlock) hkept hsealed
  · refine sealedOn_giveUp ?_
    unfold brokenOff
    rw [if_pos hs]
    exact hb.breakEnd fun hg hr cp hc hfull => hroom ⟨cp, hc, hr, hg, hfull⟩

/-- Without a group in progress a BREAK end closes the record alone. -/
theorem brokenOff_of_no_group (hs : e.ch.state = .active) (hg : e.ch.group = none) : brokenOff v e =
    { closeRecord .break_ e with ch := { (closeRecord .break_ e).ch with current := none } } := by
  unfold brokenOff breakEnd
  rw [if_pos hs, hg]

theorem brokenOff_of_loss (hs : e.ch.state = .loss) : brokenOff v e = e := if_neg (by rw [hs]; nofun)

/-- What offering the gap and closing leave of the header slots. -/
theorem stopRun_waiting (v : Env) (e : Engine) : (stopRun v e).ch.waiting = (giveUpBlock v (brokenOff v e)).ch.waiting := by
  rw [stopRun_eq, closing_closeIfDone]
  obtain ho | ho := offerGap_ch (giveUpBlock v (brokenOff v e))
  all_goals rw [ho]

/-- With no group in progress the record's BREAK end shows in the block that is sealed. -/
theorem recordEnds_stopRun (hs : e.ch.state = .active) (hg : e.ch.group = none) (hb : Fills b e)
    (hsound : e.ch.record.isSome → e.ch.current.isSome) :
    RecordEnds .break_ b e.ch (stopRun v e).ch (e.rm.block b) ((stopRun v e).rm.block b) := by
  have hoff := sealedOff_engine (v := v) .break_ .stop hb.filling hb.holds hsound
  have hclosed := hb.closeRecord .break_
  have hbroken := brokenOff_of_no_group (v := v) hs hg
  have hgive : giveUpBlock v (brokenOff v e) = sealFilling v .stop (brokenOff v e) := by
    rw [hbroken]
    exact giveUpBlock_of_used hclosed.filling hclosed.used
  have hsame : (giveUpBlock v (brokenOff v e)).rm = (sealFilling v .stop (closeRecord .break_ e)).rm ∧
      (giveUpBlock v (brokenOff v e)).ch.waiting = (sealFilling v .stop (closeRecord .break_ e)).ch.waiting := by
    rw [hgive, hbroken, sealFilling_of_filling .stop hclosed.filling,
      sealFilling_of_filling .stop (e := { closeRecord .break_ e with ch := { (closeRecord .break_ e).ch with current := none } })
        hclosed.filling]
    exact ⟨rfl, rfl⟩
  rw [stopRun_rm]
  exact hoff.ends.congr ((stopRun_waiting v e).trans hsame.2) (by rw [hsame.1])

/-- An ACTIVE channel that stops with no group in progress has no gap, and offers none. -/
theorem stopRun_of_no_group (hs : e.ch.state = .active) (hg : e.ch.group = none) (hsound : ChannelSound e.ch) :
    (stopRun v e).ch.gap = none ∧ (stopRun v e).marks = e.marks := by
  have hgap : (giveUpBlock v (brokenOff v e)).ch.gap = none := by
    obtain ⟨-, -, hch⟩ := giveUpBlock_frame v (brokenOff v e)
    obtain ⟨-, -, -, -, -, -, -, -, -, hkept, -⟩ := closeRecord_frame .break_ e
    obtain ⟨-, -, -, -, hactive⟩ := hsound
    rw [hs] at hactive
    rw [hch, brokenOff_of_no_group hs hg]
    exact hkept.trans hactive
  have hmarks : (giveUpBlock v (brokenOff v e)).marks = e.marks := by
    rw [(giveUpBlock_frame v _).1, brokenOff_of_no_group hs hg]
    exact (closeRecord_frame .break_ e).1
  have hoffer : offerGap (giveUpBlock v (brokenOff v e)) = (giveUpBlock v (brokenOff v e), true) := by
    unfold offerGap
    rw [hgap]
  rw [stopRun_eq, closing_closeIfDone, hoffer]
  exact ⟨hgap, hmarks⟩

/-- What a LOSS channel that stops does with its gap. -/
theorem stopRun_gap_of_loss (hs : e.ch.state = .loss) {g : Gap} (hg : e.ch.gap = some g) :
    (g.count ≠ 0#64 → e.marks.queue.length < 64 →
      (stopRun v e).ch.gap = none ∧ (stopRun v e).marks = { e.marks with queue := e.marks.queue ++ [.gap g] }) ∧
    (g.count = 0#64 → (stopRun v e).ch.gap = none ∧ (stopRun v e).marks = e.marks) := by
  obtain ⟨hmarks, -, hch⟩ := giveUpBlock_frame v e
  have hgap : (giveUpBlock v e).ch.gap = some g := by rw [hch]; exact hg
  rw [stopRun_eq, closing_closeIfDone, brokenOff_of_loss hs]
  generalize giveUpBlock v e = e2 at *
  rw [← hmarks]
  obtain ⟨hnone, -⟩ | ⟨g', hg', hzero, he⟩ | ⟨g', hg', hcount, hroom, he⟩ | ⟨g', hg', hcount, hfull, he⟩ := offerGap_cases e2
  · rw [hgap] at hnone; cases hnone
  · obtain rfl := Option.some.inj (hgap.symm.trans hg')
    rw [he]
    exact ⟨fun h => absurd hzero h, fun _ => ⟨rfl, rfl⟩⟩
  · obtain rfl := Option.some.inj (hgap.symm.trans hg')
    rw [he]
    exact ⟨fun _ _ => ⟨rfl, rfl⟩, fun h => absurd h hcount⟩
  · obtain rfl := Option.some.inj (hgap.symm.trans hg')
    exact ⟨fun _ h => absurd h hfull, fun h => absurd h hcount⟩

/-- An engine that breaks nothing off RM gives up its block as it stands. -/
theorem stopRun_rm_of_kept (hfill : (brokenOff v e).ch.filling = some b) (hrm : (brokenOff v e).rm = e.rm) :
    (0 < (e.rm.block b).bytesUsed → (stopRun v e).rm = e.rm.seal b v.config.cls .stop) ∧
    ((e.rm.block b).bytesUsed = 0 → (stopRun v e).rm = e.rm.releaseEmpty v.ts.settings b) := by
  rw [stopRun_rm]
  refine ⟨fun hused => ?_, fun hempty => ?_⟩
  · rw [giveUpBlock_of_used hfill (by rw [hrm]; exact hused), sealFilling_of_filling .stop hfill, ← hrm]
  · rw [giveUpBlock_of_empty hfill (by rw [hrm]; exact hempty), ← hrm]

end

/-! ## A released block in the part -/

section
variable {s t : State} {c : ChannelId} {x : Engine} {b : BlockId}

theorem kept_withFill (hk : s.holdings.Kept ∅) (c : ChannelId) : (s.holdings.withFill c (s.chans[c]).filling s.rm).Kept ∅ := by
  have h := withFill_self s.holdings c s.rm
  change s.holdings.withFill c (s.chans[c]).filling s.rm = s.holdings at h
  rwa [h]

/-- R81: an empty filling block is FREE again, and pressure is evaluated. -/
theorem EngineTaken.released (h : EngineTaken c x s t) (hk : s.holdings.Kept ∅) (hfill : (s.chans[c]).filling = some b)
    (hrm : x.rm = s.rm.releaseEmpty s.ts.settings b) :
    t.rm.block b = .cleared .free ∧ t.rm.freeCount = s.rm.freeCount + 1 ∧
      t.rm.level = pressureLevel s.ts.settings t.rm.freeCount s.rm.level := by
  have hr : tableRising s.rm.blocks = true := hk.tabled.rising
  have hstate : (s.rm.block b).state = .filling := (hk.placed b (Set.notMem_empty b) .filling (by decide)).mp ⟨c, hfill⟩
  obtain ⟨hlt, -, -, hlist⟩ := hk.tabled.held b (holds_of_filling hstate)
  have hcount : t.rm.freeCount = (s.rm.toFree b).freeCount := by
    rw [Ring.freeCount_of_free h.free, hrm]
    rfl
  have hunheld : ¬ x.rm.holds b := by
    rw [hrm]
    change ¬ (tableGet (s.rm.toFree b).blocks b).isSome
    rw [Ring.get_toFree b b hr, if_pos rfl]
    nofun
  refine ⟨?_, hcount.trans (Ring.freeCount_toFree hlist), ?_⟩
  · rw [h.unheld b hunheld, hrm]
    exact Ring.block_toFree hr hlt hlist
  · rw [h.level, hcount, hrm]
    rfl

/-- A block sealed by the channel stays so, or is selected at once. -/
theorem EngineTaken.sealedOn {cause : SealCause} {k : ClassId} {o : Option BlockId} (h : EngineTaken c x s t)
    (hs : SealedOn b cause k (o, x.rm)) : (t.rm.block b).cause = some cause ∧ (t.rm.block b).cls = some k ∧
      ((t.rm.block b).state = .sealing ∨ (t.rm.block b).state = .queued ∨ (t.rm.block b).state = .sending) := by
  obtain ⟨-, hcls, hcause, hstate⟩ := keptOrSelected_contents (h.blocks b)
  exact ⟨hcause.trans hs.cause, hcls.trans hs.cls, hstate (hs.state.imp_right .inl)⟩

theorem exec_channelStop {r : Request} (hserving : Serving r s) (hrow : r.row = some .channelStop)
    (hfits : lengthFits .channelStop r = true) (hc : byteAt r.contents 0 = byteOf c.val) : exec .channelStop s = .next (settle (finish r
      (s.withEngine c (stopChannel (s.env c) (s.engine c)).1, (stopChannel (s.env c) (s.engine c)).2, []))) := by
  refine (released_eq (fun u => settle (serve .channelStop (channelCommand stopChannel) u)) hserving.1).trans ?_
  rw [serve_of_serving hserving hrow nofun hfits, channelCommand_of_channel hc]

end

/-- Settles O52: by the channel's state; for a run, what the BREAK end, the seal or release and the offered gap leave. -/
theorem stopClosesTheRun : Obligations.StopClosesTheRun := by
  unfold Obligations.StopClosesTheRun
  intro s tag z1 z2 c r hserving hsound
  have hexec := exec_channelStop (r := r) (c := c) hserving rfl rfl rfl
  have harmed := stopChannel_of_armed (v := s.env c) (e := s.engine c)
  have hstopped := stopChannel_of_stopped (v := s.env c) (e := s.engine c)
  have hrunning := stopChannel_of_running (v := s.env c) (e := s.engine c)
  generalize stopChannel (s.env c) (s.engine c) = x at *
  obtain ⟨x, status⟩ := x
  obtain ⟨hstream, hreply⟩ := finish_of_mu_eq (r := r) (x := (s.withEngine c x, status, [])) (s := s) rfl
  have htaken : EngineTaken c x s (settle (finish r (s.withEngine c x, status, []))) :=
    engineTaken_settle (finish_chans ..) (finish_rm ..) (finish_marks ..)
  have hreply' := answered_settle hreply
  have hstream' := (congrArg Management.stream (settle_mu (finish r (s.withEngine c x, status, [])))).trans hstream
  have honly : ChangesOnly [.chans, .mu, .rm, .ds, .planes, .marks] s (settle (finish r (s.withEngine c x, status, []))) :=
    changesOnly_settle (changesOnly_finish r _ (changesOnly_of fun p => by
      cases p with
      | chans | rm | marks => exact .inl (by simp)
      | _ => exact .inr rfl) (by simp)) (by simp)
  dsimp only at hexec hreply'
  generalize settle (finish r (s.withEngine c x, status, [])) = t at *
  have hch := htaken.channel
  have hclosed := runClosed_stopRun (v := s.env c) (e := s.engine c) hsound
  refine ⟨t, hexec, hstream', htaken.others, honly, ?_, fun hs => ?_, fun hs => ?_, fun hs => ?_, fun hs hcollected => ?_, fun hs => ?_⟩
  · rw [hch]
    cases hs : (s.chans[c]).state with
    | idle => obtain ⟨rfl, -⟩ := Prod.mk.inj (hstopped (.inl hs)); rfl
    | armed => obtain ⟨rfl, -⟩ := Prod.mk.inj (harmed hs); rfl
    | active =>
      obtain ⟨rfl, -⟩ := Prod.mk.inj (hrunning (.inl hs))
      exact (hclosed (.inl hs)).run.1
    | loss =>
      obtain ⟨rfl, -⟩ := Prod.mk.inj (hrunning (.inr hs))
      exact (hclosed (.inr hs)).run.1
    | closing => obtain ⟨rfl, -⟩ := Prod.mk.inj (hstopped (.inr hs)); rfl
  · obtain ⟨rfl, rfl⟩ := Prod.mk.inj (harmed hs)
    exact ⟨hreply', hch, htaken.marks⟩
  · obtain ⟨rfl, rfl⟩ := Prod.mk.inj (hstopped hs)
    exact ⟨hreply', hch, htaken.marks⟩
  · obtain ⟨rfl, rfl⟩ := Prod.mk.inj (hrunning hs)
    have h := hclosed hs
    rw [hch]
    exact ⟨hreply', h.filling, h.record, h.group, h.current, h.run.2.1, h.state, fun hne =>
      ⟨(h.gap hne).1, htaken.marks.trans (h.gap hne).2⟩⟩
  · obtain ⟨rfl, rfl⟩ := Prod.mk.inj (hrunning (.inl hs))
    obtain ⟨-, hk⟩ := (blocksCollected_iff s).mp hcollected
    refine ⟨fun hg => ?_, fun b hfill => ⟨fun hpos hvalues => ?_, fun hzero hg hr => ?_⟩⟩
    · obtain ⟨hgap, hmarks⟩ := stopRun_of_no_group (v := s.env c) (e := s.engine c) hs hg hsound
      exact ⟨hch ▸ hgap, htaken.marks.trans hmarks⟩
    · have hstate : (s.rm.block b).state = .filling := (hk.placed b (Set.notMem_empty b) .filling (by decide)).mp ⟨c, hfill⟩
      have hfills : Fills b (s.engine c) :=
        ⟨hfill, holds_of_filling hstate, hpos, fun r hr _ hzero => absurd (hvalues r hr) (by rw [hzero]; exact Nat.lt_irrefl 0)⟩
      obtain ⟨hfull, hroom⟩ := sealedOn_stopRun (v := s.env c) hs hfills (kept_withFill hk c)
      have hsealed : ∀ cause, SealedOn b cause ((s.ts.channels[c]).current).cls
          (giveUpBlock (s.env c) (brokenOff (s.env c) (s.engine c))).filled →
          SealedOn b cause ((s.ts.channels[c]).current).cls (none, (stopRun (s.env c) (s.engine c)).rm) := fun cause h => by
        rw [stopRun_rm]
        exact h.of_block_eq nofun rfl
      have hends := fun hg => recordEnds_stopRun (v := s.env c) (e := s.engine c) hs hg hfills hsound.1
      by_cases hend : FullAtEnd b (s.engine c)
      · obtain ⟨hcause, hcls, hst⟩ := htaken.sealedOn (hsealed _ (hfull hend))
        obtain ⟨cp, hc, hrec, hg, hover⟩ := hend
        refine ⟨hst, hcls, fun cp' hc' => ?_, fun hc' => absurd (hc.symm.trans hc') nofun, fun hg' => absurd hg' hg⟩
        obtain rfl := Option.some.inj (hc.symm.trans hc')
        exact hcause.trans (if_pos ⟨hrec, hg, hover⟩).symm
      · obtain ⟨hcause, hcls, hst⟩ := htaken.sealedOn (hsealed _ (hroom hend))
        refine ⟨hst, hcls, fun cp hc => hcause.trans (if_neg fun ⟨h1, h2, h3⟩ => hend ⟨cp, hc, h1, h2, h3⟩).symm, fun _ => hcause,
          fun hg => ?_⟩
        rw [recordClosed_iff, hch]
        exact (hends hg).congr rfl (keptOrSelected_contents (htaken.blocks b)).1
    · have hbroken := brokenOff_of_no_group (v := s.env c) (e := s.engine c) hs hg
      rw [closeRecord_of_none hr] at hbroken
      obtain ⟨-, hempty⟩ := stopRun_rm_of_kept (v := s.env c) (e := s.engine c) (b := b) (by rw [hbroken]; exact hfill) (by rw [hbroken])
      exact htaken.released hk hfill (hempty hzero)
  · obtain ⟨rfl, rfl⟩ := Prod.mk.inj (hrunning (.inr hs))
    have hbroken := brokenOff_of_loss (v := s.env c) (e := s.engine c) hs
    have hgap := fun g hg => stopRun_gap_of_loss (v := s.env c) (e := s.engine c) hs (g := g) hg
    refine ⟨fun g hg hne hroom => ?_, fun g hg hzero => ?_, fun b hfill hstate => ⟨fun hpos => ?_, fun hcollected hzero => ?_⟩⟩
    · obtain ⟨h1, h2⟩ := (hgap g hg).1 hne hroom
      exact ⟨hch ▸ h1, htaken.marks.trans h2⟩
    · obtain ⟨h1, h2⟩ := (hgap g hg).2 hzero
      exact ⟨hch ▸ h1, htaken.marks.trans h2⟩
    · obtain ⟨hseal, -⟩ := stopRun_rm_of_kept (v := s.env c) (e := s.engine c) (b := b) (by rw [hbroken]; exact hfill) (by rw [hbroken])
      obtain ⟨st, hst, hblock⟩ := Ring.block_seal ((s.ts.channels[c]).current).cls .stop (holds_of_filling hstate)
      have hkept := htaken.blocks b
      rw [hseal hpos] at hkept
      obtain ⟨hcontents, hcls, hcause, hqueued⟩ := keptOrSelected_contents hkept
      refine ⟨hcause.trans (congrArg Descriptor.cause hblock), hcls.trans (congrArg Descriptor.cls hblock), ?_, hqueued ?_⟩
      · exact (congrArg Prod.fst hcontents).trans (congrArg Descriptor.bytesUsed hblock :)
      · refine Or.imp_right .inl (?_ : _ ∨ _)
        exact hst.imp (congrArg Descriptor.state hblock).trans (congrArg Descriptor.state hblock).trans
    · obtain ⟨-, hk⟩ := (blocksCollected_iff s).mp hcollected
      obtain ⟨-, hempty⟩ := stopRun_rm_of_kept (v := s.env c) (e := s.engine c) (b := b) (by rw [hbroken]; exact hfill) (by rw [hbroken])
      exact htaken.released hk hfill (hempty hzero)

end Sys2Proof.Machine
end

section
/-! PROOFS. What a stream command does to the channels (R32, R38, R41, R162). -/

namespace Sys2Proof.Machine

open Sys2Proof.Safety

/-- A part that is the same after all drops out of a frame. -/
theorem changesOnly_without {ps qs : List Part} {s t : State} {q : Part} (h : ChangesOnly ps s t) (hq : SamePart s t q)
    (hsub : ∀ p ∈ ps, p = q ∨ p ∈ qs) : ChangesOnly qs s t := fun p hp => by
  by_cases hpq : p = q
  · exact hpq ▸ hq
  · exact h p fun hin => (hsub p hin).elim hpq hp

/-! ## A channel's own turn in a common event -/

section
variable {s : State}

theorem changesOnly_onChannel (f : Env → Engine → Engine) (c : ChannelId) (s : State) :
    ChangesOnly [.chans, .rm, .marks, .orders] s (onChannel f c s) := changesOnly_of fun p => by
  cases p with
  | chans | rm | marks | orders => exact .inl (by simp)
  | _ => exact .inr rfl

theorem changesOnly_dropOrder (s : State) : ChangesOnly [.chans, .rm, .marks, .orders] s (dropOrder s) := changesOnly_of fun p => by
  cases p with
  | chans | rm | marks | orders => exact .inl (by simp)
  | _ => exact .inr rfl

/-- What each channel does in a common event is its own: of the channels it changes itself alone, and besides them RM and MK. -/
structure OwnTurns (f : ChannelId → State → State) : Prop where
  only : ∀ c t, ChangesOnly [.chans, .rm, .marks, .orders] t (f c t)
  others : ∀ c d t, c ≠ d → (f c t).chans[d] = t.chans[d]

theorem ownTurns_onChannel (f : Env → Engine → Engine) : OwnTurns (onChannel f) :=
  ⟨changesOnly_onChannel f, fun _ _ t h => onChannel_chans_ne f h t⟩

section
variable {f : ChannelId → State → State}

theorem OwnTurns.changesOnly (hf : OwnTurns f) (s : State) :
    ChangesOnly [.chans, .rm, .marks, .orders] s (eachChannel f s) :=
  eachChannel_induct (P := ChangesOnly [.chans, .rm, .marks, .orders] s) _ s (changesOnly_dropOrder s) fun c t h =>
    changesOnly_trans h (hf.only c t)

/-- A channel takes a common event once, in a part where it stands as before the event. -/
theorem OwnTurns.turn (hf : OwnTurns f) (s : State) (c : ChannelId) : ∃ t, ChangesOnly [.chans, .rm, .marks, .orders] s t ∧
    t.chans[c] = s.chans[c] ∧ (eachChannel f s).chans[c] = (f c t).chans[c] := by
  have h := eachChannel_induct_done (P := fun done u => ChangesOnly [.chans, .rm, .marks, .orders] s u ∧
    (c ∉ done → u.chans[c] = s.chans[c]) ∧ (c ∈ done → ∃ t, ChangesOnly [.chans, .rm, .marks, .orders] s t ∧
      t.chans[c] = s.chans[c] ∧ u.chans[c] = (f c t).chans[c])) f s
    ⟨changesOnly_dropOrder s, fun _ => rfl, fun h => absurd h (Finset.notMem_empty c)⟩ ?_
  · exact h.2.2 (Finset.mem_univ c)
  · intro done d u hd ⟨honly, hbefore, hafter⟩
    refine ⟨changesOnly_trans honly (hf.only d u), fun hc => ?_, fun hc => ?_⟩
    · obtain ⟨hcd, hc⟩ := not_or.mp (Finset.mem_insert.not.mp hc)
      rw [hf.others d c u (Ne.symm hcd)]
      exact hbefore hc
    · obtain rfl | hc := Finset.mem_insert.mp hc
      · exact ⟨u, honly, hbefore hd, rfl⟩
      · rw [hf.others d c u (by rintro rfl; exact hd hc)]
        exact hafter hc

end

theorem eachChannel_marks {f : Env → Engine → Engine} (hf : ∀ v e, (f v e).marks = e.marks) (s : State) :
    (eachChannel (onChannel f) s).marks = s.marks :=
  eachChannel_induct (P := fun u => u.marks = s.marks) _ s rfl fun c u h => (hf (u.env c) (u.engine c)).trans h

end

/-! ## The stream leaves RUN (R32) -/

section
variable {v : Env} {e : Engine}

theorem leaveRun_marks (v : Env) (e : Engine) : (leaveRun v e).marks = e.marks := by
  obtain ⟨-, hmarks, -⟩ := breakEnd_frame v e
  unfold leaveRun
  split
  · dsimp only
    split
    · exact hmarks
    · exact hmarks
  all_goals rfl

theorem leaveRun_of_stopped (h : e.ch.state = .idle ∨ e.ch.state = .armed ∨ e.ch.state = .closing) : leaveRun v e = e := by
  obtain h | h | h := h
  all_goals simp only [leaveRun, h]

theorem leaveRun_of_loss (h : e.ch.state = .loss) : leaveRun v e = { e with ch := addHeld e.ch } := by
  simp only [leaveRun, h]

theorem leaveRun_of_kept (h : e.ch.state = .active) (hkept : (breakEnd v e).ch.state = .active) : leaveRun v e =
    { breakEnd v e with
      ch := { (breakEnd v e).ch with
        state := .loss
        gap := some (Gap.start v.c (breakEnd v e).ch.run (breakEnd v e).ch.nextIndex 0#64 none .held) } } := by
  simp only [leaveRun, h, hkept, if_true]

theorem leaveRun_of_lost (h : e.ch.state = .active) (hlost : (breakEnd v e).ch.state = .loss) :
    leaveRun v e = { breakEnd v e with ch := addHeld (breakEnd v e).ch } := by
  simp only [leaveRun, h, hlost, reduceCtorEq, if_false]

theorem causes_addHeld (x : CauseSet) : addCause x .held = x ||| 16#5 ∧ (addCause x .held).getLsbD 4 = true := by
  refine ⟨rfl, ?_⟩
  change (x ||| 16#5).getLsbD 4 = true
  rw [BitVec.getLsbD_or]
  exact Bool.or_true _

/-- What is left of a running channel once the stream has left RUN: it is in LOSS, nothing is open, its gap has cause HELD. -/
structure HeldOff (ch ch' : Channel) : Prop where
  state : ch'.state = .loss
  index : ch'.nextIndex = ch.nextIndex
  closed : ch'.closed
  held : ∃ g, ch'.gap = some g ∧ g.causes.getLsbD 4 = true

/-- HELD joins the gap of a sound LOSS channel. -/
theorem heldOff_addHeld {ch ch' : Channel} (hsound : ChannelSound ch') (hs : ch'.state = .loss) (hi : ch'.nextIndex = ch.nextIndex) :
    HeldOff ch (addHeld ch') := by
  obtain ⟨hclosed, -⟩ := closed_of_loss hsound hs
  obtain ⟨-, -, -, -, hloss⟩ := hsound
  rw [hs] at hloss
  obtain ⟨-, g, hg, -⟩ := hloss
  exact ⟨hs, hi, hclosed, { g with causes := addCause g.causes .held }, by rw [addHeld, hg]; rfl, (causes_addHeld g.causes).2⟩

theorem heldOff_leaveRun (hsound : ChannelSound e.ch) (h : e.ch.state = .active ∨ e.ch.state = .loss) :
    HeldOff e.ch (leaveRun v e).ch := by
  obtain h | h := h
  · have hbroken : ChannelSound (breakEnd v e).ch :=
      (moves_breakEnd h).keep (P := fun e => ChannelSound e.ch) (fun _ _ hm => hm.channelSound) hsound
    obtain ⟨⟨-, hindex, -⟩, -⟩ := breakEnd_frame v e
    obtain hkept | hlost := breakEnd_state v h
    · obtain ⟨hclosed, -⟩ := breakEnd_closed hbroken
      rw [leaveRun_of_kept h hkept]
      exact ⟨rfl, hindex, hclosed, _, rfl, (by decide : (causeSet .held).getLsbD 4 = true)⟩
    · rw [leaveRun_of_lost h hlost]
      exact heldOff_addHeld hbroken hlost hindex
  · rw [leaveRun_of_loss h]
    exact heldOff_addHeld hsound h rfl

/-- A LOSS channel keeps its gap, with HELD among its causes. -/
theorem leaveRun_gap_of_loss (hsound : ChannelSound e.ch) (h : e.ch.state = .loss) {g : Gap} (hg : (leaveRun v e).ch.gap = some g) :
    ∃ g', e.ch.gap = some g' ∧ g = { g' with causes := g'.causes ||| 16#5 } := by
  obtain ⟨-, -, -, -, hloss⟩ := hsound
  rw [h] at hloss
  obtain ⟨-, g', hg', -⟩ := hloss
  rw [leaveRun_of_loss h] at hg
  refine ⟨g', hg', Option.some.inj (hg.symm.trans ?_)⟩
  rw [addHeld, hg']
  rfl

/-- An ACTIVE channel with no group in progress starts an empty gap at its next index. -/
theorem leaveRun_gap_of_no_group (h : e.ch.state = .active) (hgroup : e.ch.group = none) :
    (leaveRun v e).ch.gap = some ⟨v.c, e.ch.run, e.ch.nextIndex, 0#64, none, .held, 16#5⟩ := by
  obtain ⟨⟨hrun, hindex, -⟩, -⟩ := breakEnd_frame v e
  have hkept : (breakEnd v e).ch.state = .active := by
    have heq := brokenOff_of_no_group (v := v) h hgroup
    rw [brokenOff, if_pos h] at heq
    rw [heq]
    exact (closeRecord_placement .break_ e).2.2.1.trans h
  rw [leaveRun_of_kept h hkept]
  dsimp only
  rw [hrun, hindex]
  rfl

end

/-! ## The stream enters STANDBY (R38, R41) -/

section
variable {v : Env} {e : Engine}

theorem takeStandby_of_running (h : e.ch.state = .active ∨ e.ch.state = .loss) : takeStandby v e = stopRun v e :=
  congrArg Prod.fst (stopChannel_of_running h)

theorem takeStandby_of_armed (h : e.ch.state = .armed) : takeStandby v e = { e with ch := { e.ch with state := .idle } } :=
  congrArg Prod.fst (stopChannel_of_armed h)

theorem takeStandby_of_stopped (h : e.ch.state = .idle ∨ e.ch.state = .closing) : takeStandby v e = e :=
  congrArg Prod.fst (stopChannel_of_stopped h)

/-- A channel that has no run going fills no block and has no record open. -/
theorem closed_of_stopped {ch : Channel} (hsound : ChannelSound ch) (h : ch.state = .idle ∨ ch.state = .armed ∨ ch.state = .closing) :
    ch.filling = none ∧ ch.record = none := by
  obtain ⟨-, -, -, -, hparts⟩ := id hsound
  have hparts : ch.current = none ∧ ch.filling = none := by
    obtain h | h | h := h
    · rw [h] at hparts
      exact ⟨hparts.1, hparts.2.1⟩
    · rw [h] at hparts
      exact ⟨hparts.1, hparts.2.1⟩
    · rwa [h] at hparts
  exact ⟨hparts.2, (closed_of_no_profile hsound hparts.1).1⟩

/-- A sound channel under a STANDBY command: no run goes on, and no block is filled. -/
theorem takeStandby_closed (hsound : ChannelSound e.ch) :
    (takeStandby v e).ch.run = e.ch.run ∧ (takeStandby v e).ch.filling = none ∧ (takeStandby v e).ch.record = none := by
  have hrunning := fun h => runClosed_stopRun (v := v) hsound h
  have hstopped := fun h => closed_of_stopped hsound h
  cases hs : e.ch.state with
  | idle => rw [takeStandby_of_stopped (.inl hs)]; exact ⟨rfl, hstopped (.inl hs)⟩
  | armed => rw [takeStandby_of_armed hs]; exact ⟨rfl, hstopped (.inr (.inl hs))⟩
  | closing => rw [takeStandby_of_stopped (.inr hs)]; exact ⟨rfl, hstopped (.inr (.inr hs))⟩
  | active =>
    rw [takeStandby_of_running (.inl hs)]
    exact ⟨(hrunning (.inl hs)).run.1, (hrunning (.inl hs)).filling, (hrunning (.inl hs)).record⟩
  | loss =>
    rw [takeStandby_of_running (.inr hs)]
    exact ⟨(hrunning (.inr hs)).run.1, (hrunning (.inr hs)).filling, (hrunning (.inr hs)).record⟩

end

/-! ## Stream commands, served -/

section
variable {s : State} {r : Request} {row : RequestRow}

theorem streamCommand_of_source {sources : List StreamState} {target : StreamState} {pass : State → State}
    (h : s.mu.stream ∈ sources) : streamCommand sources target pass s = (pass (setStream target s), .ok, []) := if_pos h

theorem changesOnly_setStream (target : StreamState) (s : State) : ChangesOnly [.mu] s (setStream target s) := changesOnly_of fun p => by
  cases p with
  | mu => exact .inl (by simp)
  | _ => exact .inr rfl

/-- HALT stops selection and load claims (R124). -/
theorem drainWork_of_halt (h : s.mu.stream = .halt) : drainWork s = s := by
  have hselect : selectBlocks s = s := by
    have hnot : s.selectionAllowed = false := decide_eq_false fun ⟨_, hne⟩ => hne h
    unfold selectBlocks selectOnce
    rw [hnot]
    rfl
  have hclaim : ∀ i, claimLoad i s = s := fun i => if_neg fun ⟨_, hne⟩ => hne h
  rw [drainWork, hselect, claimLoads, hclaim, hclaim]

theorem settle_of_halt (h : s.mu.stream = .halt) : ChangesOnly [.planes] s (settle s) := by
  rw [settle, drainWork_of_halt h, grants_eq]
  refine changesOnly_of fun p => ?_
  cases p with
  | planes => exact .inl (by simp)
  | _ => exact .inr rfl

theorem released_settle_serve_of_serving {run : Request → State → Served} (hserving : Serving r s) (hrow : r.row = some row)
    (hknown : row ≠ .unknownRequestKind) (hfits : lengthFits row r = true) :
    released s (fun t => settle (serve row run t)) = .next (settle (finish r (run r s))) := by
  rw [released_eq _ hserving.1, serve_of_serving hserving hrow hknown hfits]

/-- A stream command that reaches the channels, served from one of its states. -/
theorem exec_streamCommand {cmd : Instr} {run : Request → State → Served} {target : StreamState} {f : Env → Engine → Engine}
    (hexec : exec cmd s = released s (fun t => settle (serve row run t))) (hserving : Serving r s) (hrow : r.row = some row)
    (hknown : row ≠ .unknownRequestKind) (hfits : lengthFits row r = true)
    (hrun : run r s = (eachChannel (onChannel f) (setStream target s), .ok, [])) :
    ∃ t, exec cmd s = .next t ∧ ChangesOnly [.mu, .chans, .rm, .ds, .planes, .marks, .orders] s t ∧
      t.marks = (eachChannel (onChannel f) (setStream target s)).marks ∧
      ∀ c : ChannelId, ∃ u : State, u.chans[c] = s.chans[c] ∧ t.chans[c] = (f (u.env c) (u.engine c)).ch := by
  refine ⟨_, hexec.trans (released_settle_serve_of_serving hserving hrow hknown hfits), ?_⟩
  rw [hrun]
  refine ⟨changesOnly_settle (changesOnly_finish r _ (changesOnly_trans (changesOnly_mono (by simp) (changesOnly_setStream target s))
    (changesOnly_mono (by simp) ((ownTurns_onChannel f).changesOnly _))) (by simp)) (by simp), ?_, fun c => ?_⟩
  · rw [settle_marks, finish_marks]
  · obtain ⟨u, -, hu, hch⟩ := (ownTurns_onChannel f).turn (setStream target s) c
    refine ⟨u, hu, ?_⟩
    rw [settle_chans, finish_chans, ← onChannel_chans_self]
    exact hch

end

/-- PAUSE from RUN, or HALT from RUN. -/
theorem exec_leavesRun {s : State} {tag z1 z2 z3 : Byte} {cmd : Instr} {code : Byte}
    (hcmd : (cmd = .streamPause ∧ code = 2#8) ∨ (cmd = .streamHalt ∧ code = 3#8))
    (hserving : Serving ⟨tag, 3#8, [code, z1, z2, z3]⟩ s) (hrun : s.mu.stream = .run) :
    ∃ t, exec cmd s = .next t ∧ ChangesOnly [.mu, .chans, .rm, .ds, .planes, .orders] s t ∧
      ∀ c : ChannelId, ∃ u : State, u.chans[c] = s.chans[c] ∧ t.chans[c] = (leaveRun (u.env c) (u.engine c)).ch := by
  have hserved : ∃ t, exec cmd s = .next t ∧ ChangesOnly [.mu, .chans, .rm, .ds, .planes, .marks, .orders] s t ∧
      t.marks = s.marks ∧ ∀ c : ChannelId, ∃ u : State, u.chans[c] = s.chans[c] ∧ t.chans[c] = (leaveRun (u.env c) (u.engine c)).ch := by
    have hsource : s.mu.stream ∈ [StreamState.run] := by rw [hrun]; decide
    obtain ⟨rfl, rfl⟩ | ⟨rfl, rfl⟩ := hcmd
    · obtain ⟨t, hexec, honly, hmarks, hturn⟩ := exec_streamCommand (cmd := .streamPause) (f := leaveRun) (target := .pause) rfl
        hserving rfl nofun rfl (streamCommand_of_source hsource)
      exact ⟨t, hexec, honly, hmarks.trans (eachChannel_marks leaveRun_marks _), hturn⟩
    · obtain ⟨t, hexec, honly, hmarks, hturn⟩ := exec_streamCommand (cmd := .streamHalt) (f := leaveRun) (target := .halt) rfl
        hserving rfl nofun rfl ((if_neg (by rw [hrun]; nofun)).trans (streamCommand_of_source hsource))
      exact ⟨t, hexec, honly, hmarks.trans (eachChannel_marks leaveRun_marks _), hturn⟩
  obtain ⟨t, hexec, honly, hmarks, hturn⟩ := hserved
  exact ⟨t, hexec, changesOnly_without honly (q := .marks) hmarks (by simp), hturn⟩

/-- Settles O50, command by command; a channel's share by its own turn in the common event. -/
theorem streamChangesReachTheChannels : Obligations.StreamChangesReachTheChannels := by
  unfold Obligations.StreamChangesReachTheChannels
  refine ⟨fun s tag z1 z2 z3 hserving hs => ?_, fun s tag z1 z2 z3 hserving hs => ?_, fun s tag z1 z2 z3 hserving hs => ?_,
    fun s tag z1 z2 z3 cmd code hcmd hserving hs hsound => ?_, fun s tag z1 z2 z3 hserving hs hsound => ?_⟩
  · refine ⟨_, released_serve_of_serving hserving rfl nofun rfl, changesOnly_finish _ _ ?_ (by simp)⟩
    rw [streamCommand_of_source (by rw [hs]; decide)]
    exact changesOnly_setStream .run s
  · refine ⟨_, released_settle_serve_of_serving hserving rfl nofun rfl, ?_⟩
    rw [streamCommand_of_source (by obtain hs | hs := hs <;> rw [hs] <;> decide)]
    have honly := changesOnly_finish ⟨tag, 3#8, [4#8, z1, z2, z3]⟩ (setStream .run s, .ok, []) (changesOnly_setStream .run s) (by simp)
    exact ⟨changesOnly_settle (changesOnly_mono (by simp) honly) (by simp), settle_blocks (finish_rm ..)⟩
  · refine ⟨_, released_settle_serve_of_serving hserving rfl nofun rfl, ?_⟩
    rw [if_pos hs, streamCommand_of_source (by rw [hs]; decide)]
    have honly := changesOnly_finish ⟨tag, 3#8, [3#8, z1, z2, z3]⟩ (setStream .halt s, .ok, []) (changesOnly_setStream .halt s) (by simp)
    exact changesOnly_trans (changesOnly_mono (by simp) honly)
      (changesOnly_mono (by simp) (settle_of_halt (finish_stream ..)))
  · obtain ⟨t, hexec, honly, hturn⟩ := exec_leavesRun hcmd hserving hs
    refine ⟨t, hexec, honly, fun c => ?_⟩
    obtain ⟨u, hu, hch⟩ := hturn c
    have hsound : ChannelSound (u.engine c).ch := (congrArg ChannelSound hu).mpr (hsound.1 c)
    have hheld := heldOff_leaveRun (v := u.env c) hsound
    rw [hch, ← hu]
    refine ⟨fun h => congrArg Engine.ch (leaveRun_of_stopped h), fun h => ?_⟩
    obtain ⟨hstate, hindex, hclosed, g, hg, hcause⟩ := hheld h
    refine ⟨hstate, hindex, hclosed.1, hclosed.2, g, hg, hcause, fun h => leaveRun_gap_of_loss hsound h hg, fun h hgroup => ?_⟩
    exact Option.some.inj (hg.symm.trans (leaveRun_gap_of_no_group h hgroup))
  · obtain ⟨t, hexec, honly, -, hturn⟩ := exec_streamCommand (cmd := .streamStandby) (f := takeStandby) (target := .standby) rfl
      hserving rfl nofun rfl (streamCommand_of_source (sources := [.run, .pause, .halt]) (by simpa using hs))
    refine ⟨t, hexec, honly, fun c => ?_⟩
    obtain ⟨u, hu, hch⟩ := hturn c
    have hsound : ChannelSound (u.engine c).ch := (congrArg ChannelSound hu).mpr (hsound.1 c)
    obtain ⟨hrun, hfilling, hrecord⟩ := takeStandby_closed (v := u.env c) hsound
    have hstate := fun h => (runClosed_stopRun (v := u.env c) hsound h).state
    rw [hch, ← hu]
    refine ⟨hrun, hfilling, hrecord, fun h => ?_, fun h => congrArg Engine.ch (takeStandby_of_stopped h), fun h => ?_⟩
    · rw [takeStandby_of_armed h]
    · rw [takeStandby_of_running h]
      exact hstate h

end Sys2Proof.Machine
end

section
/-! PROOFS. Bad frames at the Acquisition Port (R1 to R3, R8, R29). -/

namespace Sys2Proof.Machine

open Sys2Proof.Safety

/-! ## A missed-frame report (R8, R29) -/

section
variable {v : Env} {e : Engine} {n frame : Word64}

theorem missedReport_of_stopped (h : e.ch.state ≠ .active ∧ e.ch.state ≠ .loss) : missedReport v n frame e = e := by
  unfold missedReport
  split
  · next hs => exact absurd hs h.1
  · next hs => exact absurd hs h.2
  all_goals rfl

theorem missedReport_of_active (h : e.ch.state = .active) : missedReport v n frame e = { breakEnd v e with
    ch := { lose v (breakEnd v e).ch.nextIndex n frame .frame (breakEnd v e).ch with nextIndex := (breakEnd v e).ch.nextIndex + n } } := by
  simp only [missedReport, h]

theorem missedReport_of_loss (h : e.ch.state = .loss) : missedReport v n frame e =
    { e with ch := { e.ch with gap := e.ch.gap.map (Gap.extend n frame .frame), nextIndex := e.ch.nextIndex + n } } := by
  simp only [missedReport, h, lose_of_loss _ _ _ _ h]

theorem missedReport_marks (v : Env) (n frame : Word64) (e : Engine) : (missedReport v n frame e).marks = e.marks := by
  obtain ⟨-, hmarks, -⟩ := breakEnd_frame v e
  unfold missedReport
  split
  · exact hmarks
  all_goals rfl

theorem lose_state {ch : Channel} {first : Word64} {cause : LossCause} (h : ch.state = .active ∨ ch.state = .loss) :
    (lose v first n frame cause ch).state = .loss := by
  obtain h | h := h
  · rw [lose_of_active _ _ _ _ h]
  · rw [lose_of_loss _ _ _ _ h]; exact h

/-- A running channel to which frames are missing is in LOSS, its next index further by the samples lost. -/
theorem missedReport_running (h : e.ch.state = .active ∨ e.ch.state = .loss) : (missedReport v n frame e).ch.state = .loss ∧
    (missedReport v n frame e).ch.nextIndex = e.ch.nextIndex + n := by
  obtain h | h := h
  · obtain ⟨⟨-, hindex, -⟩, -⟩ := breakEnd_frame v e
    rw [missedReport_of_active h]
    exact ⟨lose_state (breakEnd_state v h), congrArg (· + n) hindex⟩
  · rw [missedReport_of_loss h]
    exact ⟨h, rfl⟩

end

/-! ## Reports to the channels with slots -/

section
variable {s : State} {missed : Nat} {first : Word64}

/-- A common event that some channels pass over. -/
theorem ownTurns_unless {f : ChannelId → Env → Engine → Engine} {p : ChannelId → Prop} [∀ c, Decidable (p c)] :
    OwnTurns (fun c t => if p c then t else onChannel (f c) c t) := by
  refine ⟨fun c t => ?_, fun c d t h => ?_⟩
  · split
    · exact changesOnly_refl _ t
    · exact changesOnly_onChannel (f c) c t
  · split
    · rfl
    · exact onChannel_chans_ne (f c) h t

theorem reportMissed_marks (missed : Nat) (first : Word64) (s : State) : (reportMissed missed first s).marks = s.marks := by
  refine eachChannel_induct (P := fun u => u.marks = s.marks) _ s rfl fun c u h => ?_
  split
  · exact h
  · exact (missedReport_marks _ _ _ _).trans h

theorem reportMissed_changesOnly (missed : Nat) (first : Word64) (s : State) :
    ChangesOnly [.chans, .rm, .orders] s (reportMissed missed first s) :=
  changesOnly_without ((ownTurns_unless (p := fun c => slotsOf s.ts c = 0)
    (f := fun c v e => missedReport v (BitVec.ofNat 64 (slotsOf s.ts c * missed)) first e)).changesOnly s)
    (q := .marks) (reportMissed_marks missed first s) (by simp)

/-- What becomes of a channel when frames are missing. -/
theorem reportMissed_chans (missed : Nat) (first : Word64) (s : State) (c : ChannelId) :
    (slotsOf s.ts c = 0 → (reportMissed missed first s).chans[c] = s.chans[c]) ∧
    (slotsOf s.ts c ≠ 0 → ∃ u : State, u.chans[c] = s.chans[c] ∧ (reportMissed missed first s).chans[c] =
      (missedReport (u.env c) (BitVec.ofNat 64 (slotsOf s.ts c * missed)) first (u.engine c)).ch) := by
  obtain ⟨u, -, hu, hturn⟩ :=
    (ownTurns_unless (p := fun c => slotsOf s.ts c = 0) (f := fun c v e => missedReport v (BitVec.ofNat 64 (slotsOf s.ts c * missed)) first e)).turn s c
  refine ⟨fun h => ?_, fun h => ⟨u, hu, ?_⟩⟩
  · refine hturn.trans ?_
    rw [if_pos h, hu]
  · refine hturn.trans ?_
    rw [if_neg h]
    exact onChannel_chans_self _ c u

end

/-! ## What makes a frame bad (R1, R2) -/

section
variable {s : State}

theorem countAcceptable_iff (s : State) (f : FrameParts) : countAcceptable s f = true ↔
    f.samples.length = s.ts.settings.slotCount ∨
      (s.ts.pendingSlotCount = some f.samples.length ∧ (f.flags.getLsbD 0 || s.ap.forcedBoundary) = true) := by
  unfold countAcceptable boundaryFrame FrameParts.sweepFlag
  rw [Bool.or_eq_true, decide_eq_true_iff]
  refine or_congr_right' fun hne => ?_
  cases s.ts.pendingSlotCount with
  | none => simp
  | some n =>
    simp only [Bool.and_eq_true, decide_eq_true_iff, Option.some.injEq]
    refine and_congr_left fun _ => ⟨fun h => h.2.symm, fun h => ⟨fun hn => hne (h.symm.trans hn), h.symm⟩⟩

/-- R2: a whole frame is good exactly when its check is right and its sample count acceptable. -/
theorem goodFrame_whole (s : State) (tag flags check : Word16) (xs : List Word16) :
    goodFrame s true (tag :: flags :: (xs ++ [check])) =
      if frameCheck tag flags xs = check ∧ countAcceptable s ⟨tag, flags, xs, check⟩ = true then some ⟨tag, flags, xs, check⟩
      else none := by
  unfold goodFrame
  rw [frameParts_eq]
  simp only [Bool.true_and, Bool.and_eq_true, decide_eq_true_iff]
  rfl

/-- A frame cut or too long is bad (R1). -/
theorem goodFrame_of_not_framed (s : State) (words : List Word16) : goodFrame s false words = none := by
  unfold goodFrame
  split
  · exact if_neg (by simp)
  · rfl

theorem setOpen_of_eq {o : Option OpenFrame} (h : s.ap.openFrame = o) : setOpen o s = s := by
  unfold setOpen
  rw [← h]

/-- With 35 words in the open frame, whatever ends it ends it as a bad one (R1). -/
theorem foldl_portWord_overlong {ws : List Word16} (hws : ws.length = 35) (w : Word16) : ∀ (vs : List Word16) (long : Bool),
    (vs.map (fun x => PortWord.mk x false false) ++ [PortWord.mk w false true]).foldl portWord (setOpen (some ⟨ws, long⟩) s) =
      takeFrame false ws (setOpen none s)
  | [], long => by simp [portWord, addWord, OpenFrame.add, setOpen, hws]
  | v :: vs, long => by
    have hstep : portWord (setOpen (some ⟨ws, long⟩) s) ⟨v, false, false⟩ = setOpen (some ⟨ws, true⟩) s := by
      simp [portWord, addWord, OpenFrame.add, setOpen, hws]
    rw [List.map_cons, List.cons_append, List.foldl_cons, hstep]
    exact foldl_portWord_overlong hws w vs true

/-- A frame of 36 words or more. -/
theorem foldl_portWord_long (hopen : s.ap.openFrame = none) (v w : Word16) {vs : List Word16} (h : 34 ≤ vs.length) :
    ∃ ws, (PortWord.mk v true false :: (vs.map (fun x => PortWord.mk x false false) ++ [PortWord.mk w false true])).foldl portWord s =
      takeFrame false ws s := by
  have hlen : ([v] ++ vs.take 34).length = 35 := by simp [h]
  refine ⟨[v] ++ vs.take 34, ?_⟩
  have hwords : vs.map (fun x => PortWord.mk x false false) =
      (vs.take 34).map (fun x => PortWord.mk x false false) ++ (vs.drop 34).map (fun x => PortWord.mk x false false) := by
    rw [← List.map_append, List.take_append_drop]
  rw [hwords, List.append_assoc, List.foldl_cons, portWord_start v hopen, List.foldl_append,
    foldl_portWord_middle s (vs.take 34) (by simp [h]), foldl_portWord_overlong hlen, setOpen_of_eq hopen]

/-- The start of a frame cuts the one that is open (R1). -/
theorem portWord_cut {o : OpenFrame} (hopen : s.ap.openFrame = some o) (w : Word16) :
    portWord s ⟨w, true, false⟩ = setOpen (some ⟨[w], false⟩) (takeFrame false o.words (setOpen none s)) := by
  simp [portWord, startFrame, hopen, addWord, OpenFrame.add, setOpen]

/-- The part after a bad frame, with `left` open. -/
theorem foldl_portWord_of_bad {words : List PortWord} {left : Option OpenFrame} (h : BadBurst s words left) :
    words.foldl portWord s = setOpen left (settle (takeBad (setOpen none s))) := by
  obtain ⟨hopen, rfl, hburst⟩ | ⟨hopen, w, rfl, rfl⟩ := h
  · have hclosed : setOpen none (settle (takeBad s)) = settle (takeBad s) := setOpen_of_eq (by rw [settle_ap, takeBad_ap]; exact hopen)
    rw [setOpen_of_eq hopen, hclosed]
    obtain ⟨tag, flags, check, xs, hlen, rfl, hbad⟩ | ⟨w, rfl⟩ | ⟨v, w, rfl⟩ | ⟨v, vs, w, hlong, rfl⟩ := hburst
    · rw [foldl_portWord_frameBurst tag flags check hopen hlen]
      refine takeFrame_of_bad ?_
      rw [goodFrame_whole, if_neg]
      rintro ⟨hcheck, hcount⟩
      obtain hbad | ⟨hwidth, hpending⟩ := hbad
      · exact hbad hcheck.symm
      · exact ((countAcceptable_iff ..).mp hcount).elim hwidth hpending
    · have hword : portWord s ⟨w, true, true⟩ = takeFrame true [w] (setOpen none s) := by
        simp [portWord, startFrame, hopen, addWord, OpenFrame.add, setOpen]
      rw [List.foldl_cons, List.foldl_nil, hword, setOpen_of_eq hopen]
      exact takeFrame_of_bad rfl
    · rw [List.foldl_cons, List.foldl_cons, List.foldl_nil, portWord_start v hopen, portWord_end s w (by simp), setOpen_of_eq hopen]
      exact takeFrame_of_bad rfl
    · obtain ⟨ws, hfold⟩ := foldl_portWord_long hopen v w hlong
      rw [hfold]
      exact takeFrame_of_bad (goodFrame_of_not_framed s ws)
  · obtain ⟨o, hopen⟩ := Option.ne_none_iff_exists'.mp hopen
    rw [List.foldl_cons, List.foldl_nil, portWord_cut hopen, takeFrame_of_bad (goodFrame_of_not_framed _ _)]

end

/-! ## One missed frame (R3, R8, R28) -/

section
variable {s : State}

/-- What a bad frame leaves of a channel; `first` is the frame counter before it. -/
theorem takeBad_chans (s : State) (c : ChannelId) :
    (s.ap.expected = none ∨ slotsOf s.ts c = 0 → (takeBad s).chans[c] = s.chans[c]) ∧
    (s.ap.expected ≠ none → slotsOf s.ts c ≠ 0 → ∃ u : State, u.chans[c] = s.chans[c] ∧
      (takeBad s).chans[c] = (missedReport (u.env c) (BitVec.ofNat 64 (slotsOf s.ts c)) s.ap.frameCounter (u.engine c)).ch) := by
  unfold takeBad
  dsimp only
  cases hexpected : s.ap.expected with
  | none => exact ⟨fun _ => rfl, fun h => absurd rfl h⟩
  | some e =>
    obtain ⟨hnone, hsome⟩ := reportMissed_chans 1 s.ap.frameCounter
      { s with ap := { s.ap with frameCounter := s.ap.frameCounter + 1#64, expected := some (e + 1#16) } } c
    rw [Nat.mul_one] at hsome
    exact ⟨fun h => hnone (h.resolve_left nofun), fun _ => hsome⟩

theorem changesOnly_ap (s : State) (ap : AcquisitionPort) : ChangesOnly [.ap] s { s with ap := ap } := changesOnly_of fun p => by
  cases p with
  | ap => exact .inl (by simp)
  | _ => exact .inr rfl

theorem takeBad_changesOnly (s : State) : ChangesOnly [.ap, .chans, .rm, .orders] s (takeBad s) := by
  unfold takeBad
  dsimp only
  have hap := fun ap => changesOnly_mono (qs := [.ap, .chans, .rm, .orders]) (by simp) (changesOnly_ap s ap)
  split
  · exact changesOnly_trans (hap _) (changesOnly_mono (by simp) (reportMissed_changesOnly _ _ _))
  · exact hap _

end

theorem changesOnly_setOpen (o : Option OpenFrame) (s : State) :
    ChangesOnly [.ap, .chans, .rm, .planes, .ds, .orders] s (setOpen o s) := changesOnly_mono (by simp) (changesOnly_ap s _)

/-- A bad frame's effect on a channel (R3, R8, R28, R29). -/
theorem takeBad_channel (s : State) (c : ChannelId) :
    if s.ap.expected ≠ none ∧ slotsOf s.ts c ≠ 0 ∧ ((s.chans[c]).state = .active ∨ (s.chans[c]).state = .loss)
    then ((takeBad s).chans[c]).state = .loss ∧
      ((takeBad s).chans[c]).nextIndex = (s.chans[c]).nextIndex + BitVec.ofNat 64 (slotsOf s.ts c) ∧
      ((s.chans[c]).state = .loss → ∀ g, (s.chans[c]).gap = some g →
        ((takeBad s).chans[c]).gap = some (g.extend (BitVec.ofNat 64 (slotsOf s.ts c)) s.ap.frameCounter .frame))
    else (takeBad s).chans[c] = s.chans[c] := by
  obtain ⟨hsame, hreport⟩ := takeBad_chans s c
  split
  · next h =>
    obtain ⟨hexpected, hslots, hstate⟩ := h
    obtain ⟨u, hu, hch⟩ := hreport hexpected hslots
    rw [hch]
    rw [← hu] at hstate ⊢
    obtain ⟨hloss, hindex⟩ := missedReport_running (v := u.env c) (e := u.engine c) (n := BitVec.ofNat 64 (slotsOf s.ts c))
      (frame := s.ap.frameCounter) hstate
    refine ⟨hloss, hindex, fun h g hg => ?_⟩
    rw [missedReport_of_loss (e := u.engine c) h]
    exact congrArg (Option.map _) hg
  · next h =>
    by_cases hnone : s.ap.expected = none ∨ slotsOf s.ts c = 0
    · exact hsame hnone
    · obtain ⟨hexpected, hslots⟩ := not_or.mp hnone
      obtain ⟨u, hu, hch⟩ := hreport hexpected hslots
      rw [hch]
      rw [← hu] at h ⊢
      exact congrArg Engine.ch (missedReport_of_stopped (e := u.engine c)
        ⟨fun ha => h ⟨hexpected, hslots, .inl ha⟩, fun hl => h ⟨hexpected, hslots, .inr hl⟩⟩)

/-- Settles O26, by what makes the frame bad, then by each channel's turn in the report. -/
theorem badFramesCountAsOneMissed : Obligations.BadFramesCountAsOneMissed := by
  unfold Obligations.BadFramesCountAsOneMissed
  intro s words left hpin hbad
  have hexec : exec (.acquisitionFrame words) s = .next (words.foldl portWord s) :=
    released_eq (fun t => words.foldl portWord t) hpin
  rw [foldl_portWord_of_bad hbad] at hexec
  have hap := takeBad_ap (s := setOpen none s)
  have hchannel := takeBad_channel (setOpen none s)
  have honly := changesOnly_trans (changesOnly_setOpen none s)
    (changesOnly_mono (by simp) (takeBad_changesOnly (setOpen none s)))
  generalize takeBad (setOpen none s) = u at *
  have hap := (settle_ap u).trans hap
  rw [← settle_chans u] at hchannel
  have honly := changesOnly_settle honly (by simp)
  generalize settle u = v at *
  refine ⟨_, hexec, congrArg (fun ap => { ap with openFrame := left }) hap, hchannel, ?_⟩
  exact changesOnly_trans honly (changesOnly_setOpen left v)

end Sys2Proof.Machine
end

section
/-! PROOFS. Good frames at the Acquisition Port: tags, boundaries, deliveries (R2, R4 to R12, R24 to R35, R131). -/

namespace Sys2Proof.Machine

open Sys2Proof.Safety

/-! ## Gap marks that join the Mark Queue (R34, R130) -/

/-- The marks of `m` followed by GAP marks, none at a full queue; the rest of MK as it was. -/
structure GapsJoin (m m' : MarkUnit) : Prop where
  head : m'.headInTx = m.headInTx
  skip : m'.skip = m.skip
  queue : ∃ gaps : List Gap, m'.queue = m.queue ++ gaps.map Mark.gap ∧ (64 ≤ m.queue.length → gaps = [])

theorem GapsJoin.refl (m : MarkUnit) : GapsJoin m m := ⟨rfl, rfl, [], by simp, fun _ => rfl⟩

theorem GapsJoin.of_eq {m m' : MarkUnit} (h : m' = m) : GapsJoin m m' := h ▸ .refl m

theorem GapsJoin.trans {m m' m'' : MarkUnit} (h : GapsJoin m m') (h' : GapsJoin m' m'') : GapsJoin m m'' := by
  obtain ⟨hhead, hskip, gaps, hqueue, hfull⟩ := h
  obtain ⟨hhead', hskip', gaps', hqueue', hfull'⟩ := h'
  refine ⟨hhead'.trans hhead, hskip'.trans hskip, gaps ++ gaps', ?_, fun hlen => ?_⟩
  · rw [hqueue', hqueue, List.map_append, List.append_assoc]
  · have hlen' : 64 ≤ m'.queue.length := by rw [hqueue, List.length_append]; omega
    rw [hfull hlen, hfull' hlen', List.append_nil]

theorem gapsJoin_offerGap (e : Engine) : GapsJoin e.marks (offerGap e).1.marks := by
  obtain ⟨-, he⟩ | ⟨g, -, -, he⟩ | ⟨g, -, -, hroom, he⟩ | ⟨g, -, -, -, he⟩ := offerGap_cases e
  · rw [he]; exact .refl _
  · rw [he]; exact .refl _
  · rw [he]; exact ⟨rfl, rfl, [g], rfl, fun hfull => absurd hroom (not_lt.mpr hfull)⟩
  · rw [he]; exact .refl _

/-! ## Arrivals (R26 to R34) -/

/-- A running channel has counted `n` samples and is still running. -/
structure Counted (n : Nat) (e e' : Engine) : Prop where
  run : e'.ch.run = e.ch.run
  sweep : e'.ch.lastSweep = e.ch.lastSweep
  index : e'.ch.nextIndex = e.ch.nextIndex + BitVec.ofNat 64 n
  state : e'.ch.state = .active ∨ e'.ch.state = .loss
  marks : GapsJoin e.marks e'.marks

section
variable {v : Env} {e e' : Engine}

theorem Counted.refl (h : e.ch.state = .active ∨ e.ch.state = .loss) : Counted 0 e e :=
  ⟨rfl, rfl, (BitVec.add_zero _).symm, h, .refl _⟩

theorem Counted.trans {n m : Nat} {e'' : Engine} (h : Counted n e e') (h' : Counted m e' e'') : Counted (n + m) e e'' := by
  refine ⟨h'.run.trans h.run, h'.sweep.trans h.sweep, ?_, h'.state, h.marks.trans h'.marks⟩
  rw [h'.index, h.index, BitVec.add_assoc, BitVec.ofNat_add]

/-- What keeps the run, the index and MK counts nothing. -/
theorem Counted.of_sameRun (h : SameRun e.ch e'.ch) (hmarks : e'.marks = e.marks)
    (hstate : e'.ch.state = .active ∨ e'.ch.state = .loss) : Counted 0 e e' :=
  ⟨h.1, h.2.2, h.2.1.trans (BitVec.add_zero _).symm, hstate, .of_eq hmarks⟩

theorem counted_breakEnd (hs : e.ch.state = .active) : Counted 0 e (breakEnd v e) := by
  obtain ⟨hrun, hmarks, -⟩ := breakEnd_frame v e
  exact .of_sameRun hrun hmarks (breakEnd_state v hs)

theorem counted_groupSample (a : Arrival) (hs : e.ch.state = .active) : Counted 1 e (groupSample v a e) := by
  have hjoin : Counted 1 e { e with ch := { e.ch with
      current := some (groupingProfile v a.zones e), group := some (joinedGroup a e.ch), nextIndex := e.ch.nextIndex + 1#64 } } :=
    ⟨rfl, rfl, rfl, .inl hs, .refl _⟩
  unfold groupSample
  dsimp only
  split
  · refine hjoin.trans (m := 0) ?_
    obtain ⟨hrun, hmarks, hstate, -⟩ := placeGroup_frame v (joinedGroup a e.ch) { e with ch := { e.ch with
      current := some (groupingProfile v a.zones e), group := some (joinedGroup a e.ch), nextIndex := e.ch.nextIndex + 1#64 } }
    exact .of_sameRun hrun hmarks (hstate.imp (fun h => h.trans hs) fun h => h.2)
  · exact hjoin

theorem counted_stayInLoss (a : Arrival) (hs : e.ch.state = .loss) : Counted 1 e (stayInLoss v a e) :=
  ⟨rfl, rfl, rfl, .inr hs, .refl _⟩

theorem counted_arriveLoss (a : Arrival) (hs : e.ch.state = .loss) : Counted 1 e (arriveLoss v a e) := by
  have hjoin := gapsJoin_offerGap e
  unfold arriveLoss
  split
  · split
    · next e1 he =>
      have hch := offerGap_of_accepted (e := e) (by rw [he])
      rw [he] at hch hjoin
      have hexit : Counted 0 e { e1 with ch := { e1.ch with state := .active, current := none } } := by
        refine ⟨?_, ?_, ?_, .inl rfl, hjoin⟩
        · exact (congrArg Channel.run hch :)
        · exact (congrArg Channel.lastSweep hch :)
        · exact (congrArg Channel.nextIndex hch :).trans (BitVec.add_zero _).symm
      exact hexit.trans (counted_groupSample a rfl)
    · next e1 he =>
      have hkept := offerGap_of_refused (e := e) (by rw [he])
      rw [he] at hkept
      rw [show e1 = e from hkept]
      exact counted_stayInLoss a hs
  · exact counted_stayInLoss a hs

theorem counted_enterShed (a : Arrival) (hs : e.ch.state = .active) : Counted 1 e (enterShed v a e) := by
  unfold enterShed
  rw [lose_of_active _ _ _ _ hs]
  exact ⟨rfl, rfl, rfl, .inr rfl, .refl _⟩

theorem counted_arriveActive (a : Arrival) (hs : e.ch.state = .active) : Counted 1 e (arriveActive v a e) := by
  have hbreak := counted_breakEnd (v := v) hs
  have hstate := breakEnd_state v hs
  unfold arriveActive
  split
  · dsimp only
    split
    · next hl => exact hbreak.trans (counted_arriveLoss a hl)
    · next hl => exact hbreak.trans (counted_enterShed a (hstate.resolve_right hl))
  · split
    · dsimp only
      split
      · next hl => exact hbreak.trans (counted_arriveLoss a hl)
      · next hl =>
        have ha := hstate.resolve_right hl
        generalize breakEnd v e = e1 at *
        have hprofile : ∀ p, Counted 0 e1 { e1 with ch := { e1.ch with current := some p } } :=
          fun p => .of_sameRun (.refl _) rfl (.inl ha)
        exact (hbreak.trans (hprofile _)).trans (counted_groupSample a ha)
    · exact counted_groupSample a hs

theorem counted_arrive (a : Arrival) (h : e.ch.state = .active ∨ e.ch.state = .loss) : Counted 1 e (arrive v a e) := by
  obtain hs | hs := h
  · simp only [arrive, hs]
    exact counted_arriveActive a hs
  · simp only [arrive, hs]
    exact counted_arriveLoss a hs

theorem counted_arriveAll (d : Delivery) (h : e.ch.state = .active ∨ e.ch.state = .loss) :
    Counted d.samples.length e (arriveAll v d e) := by
  unfold arriveAll
  generalize d.samples = xs
  induction xs generalizing e with
  | nil => exact .refl h
  | cons x xs ih =>
    have hfirst := counted_arrive (v := v) ⟨x, d.frame, d.zones⟩ h
    rw [List.length_cons, Nat.add_comm]
    exact hfirst.trans (ih hfirst.state)

/-! ## Deliveries (R16, R24, R35) -/

theorem counted_boundaryHandling (h : e.ch.state = .active ∨ e.ch.state = .loss) : Counted 0 e (boundaryHandling v e) := by
  have hbreak : Counted 0 e (if e.ch.state = .active then breakEnd v e else e) := by
    split
    · next hs => exact counted_breakEnd hs
    · exact .refl h
  unfold boundaryHandling
  generalize (if e.ch.state = .active then breakEnd v e else e) = e1 at *
  dsimp only
  split
  · obtain ⟨hmarks, -, hstate, hrun, hindex, hsweep, -⟩ := sealFilling_frame v .sweep e1
    exact hbreak.trans (m := 0) (.of_sameRun ⟨hrun, hindex, hsweep⟩ hmarks (by rw [hstate]; exact hbreak.state))
  · exact hbreak

theorem deliver_of_stopped (d : Delivery) (h : e.ch.state = .idle ∨ e.ch.state = .closing) : deliver v d e = e := by
  obtain h | h := h
  all_goals simp only [deliver, h]

theorem deliver_of_armed (d : Delivery) (h : e.ch.state = .armed) :
    deliver v d e = if activates v d then arriveAll v d { e with ch := activate d e.ch } else e := by
  simp only [deliver, h]

/-- A running channel counts every sample delivered to it. -/
theorem deliver_of_running (d : Delivery) (h : e.ch.state = .active ∨ e.ch.state = .loss) :
    (deliver v d e).ch.nextIndex = e.ch.nextIndex + BitVec.ofNat 64 d.samples.length ∧
    ((deliver v d e).ch.state = .active ∨ (deliver v d e).ch.state = .loss) ∧ GapsJoin e.marks (deliver v d e).marks := by
  have hboundary : Counted 0 e (if d.boundary || d.sweep != e.ch.lastSweep then boundaryHandling v e else e) := by
    split
    · exact counted_boundaryHandling h
    · exact .refl h
  have heq : deliver v d e = arriveAll v d
      { (if d.boundary || d.sweep != e.ch.lastSweep then boundaryHandling v e else e) with
        ch := { (if d.boundary || d.sweep != e.ch.lastSweep then boundaryHandling v e else e).ch with lastSweep := d.sweep } } := by
    obtain h | h := h
    all_goals simp only [deliver, h]
  rw [heq]
  generalize (if d.boundary || d.sweep != e.ch.lastSweep then boundaryHandling v e else e) = e1 at *
  have harrive := counted_arriveAll (v := v) (e := { e1 with ch := { e1.ch with lastSweep := d.sweep } }) d hboundary.state
  refine ⟨?_, harrive.state, hboundary.marks.trans harrive.marks⟩
  rw [harrive.index]
  dsimp only
  rw [hboundary.index, BitVec.add_zero]

/-- An ARMED channel begins its run at a delivery, or takes none. -/
theorem deliver_begins (d : Delivery) (h : e.ch.state = .armed) (hact : activates v d = true) :
    Counted d.samples.length { e with ch := activate d e.ch } (deliver v d e) := by
  rw [deliver_of_armed d h, if_pos hact]
  exact counted_arriveAll d (.inl rfl)

theorem gapsJoin_deliver (v : Env) (d : Delivery) (e : Engine) : GapsJoin e.marks (deliver v d e).marks := by
  cases hs : e.ch.state with
  | idle => rw [deliver_of_stopped d (.inl hs)]; exact .refl _
  | closing => rw [deliver_of_stopped d (.inr hs)]; exact .refl _
  | active => exact (deliver_of_running d (.inl hs)).2.2
  | loss => exact (deliver_of_running d (.inr hs)).2.2
  | armed =>
    by_cases hact : activates v d = true
    · exact (deliver_begins d hs hact).marks
    · rw [deliver_of_armed d hs, if_neg hact]; exact .refl _

end

/-! ## The stages of a good frame (R4) -/

section
variable {s : State} {f : FrameParts} {frame : Word64} {boundary : Bool} {c : ChannelId}

/-- The delivery a channel takes of a frame. -/
def deliveryOf (s : State) (f : FrameParts) (frame : Word64) (boundary : Bool) (c : ChannelId) : Delivery :=
  ⟨samplesFor s.ts f.samples c, frame, s.ap.sweepCounter, f.zones, boundary⟩

theorem ownTurns_distribute (s : State) (f : FrameParts) (frame : Word64) (boundary : Bool) :
    OwnTurns (fun c t => if (samplesFor s.ts f.samples c).isEmpty = true then t
      else onChannel (fun v e => deliver v (deliveryOf s f frame boundary c) e) c t) :=
  ownTurns_unless (p := fun c => (samplesFor s.ts f.samples c).isEmpty = true)
    (f := fun c v e => deliver v (deliveryOf s f frame boundary c) e)

theorem distribute_changesOnly (s : State) (f : FrameParts) (frame : Word64) (boundary : Bool) :
    ChangesOnly [.chans, .rm, .marks, .orders] s (distribute f frame boundary s) := (ownTurns_distribute s f frame boundary).changesOnly s

theorem gapsJoin_distribute (s : State) (f : FrameParts) (frame : Word64) (boundary : Bool) :
    GapsJoin s.marks (distribute f frame boundary s).marks := by
  refine eachChannel_induct (P := fun u => GapsJoin s.marks u.marks) _ s (.refl _) fun c u h => ?_
  dsimp only
  split
  · exact h
  · exact h.trans (gapsJoin_deliver _ _ (u.engine c))

/-- What becomes of a channel at a frame's distribution. -/
theorem distribute_chans (s : State) (f : FrameParts) (frame : Word64) (boundary : Bool) (c : ChannelId) :
    (samplesFor s.ts f.samples c = [] → (distribute f frame boundary s).chans[c] = s.chans[c]) ∧
    (samplesFor s.ts f.samples c ≠ [] → ∃ u : State, u.chans[c] = s.chans[c] ∧
      (distribute f frame boundary s).chans[c] = (deliver (s.env c) (deliveryOf s f frame boundary c) (u.engine c)).ch) := by
  obtain ⟨u, honly, hu, hturn⟩ := (ownTurns_distribute s f frame boundary).turn s c
  have henv : u.env c = s.env c := by
    have hts : u.ts = s.ts := honly .ts (by simp)
    have hmu : u.mu = s.mu := honly .mu (by simp)
    rw [State.env, State.env, hts, hmu]
  refine ⟨fun h => ?_, fun h => ⟨u, hu, ?_⟩⟩
  · refine hturn.trans ?_
    rw [if_pos (List.isEmpty_iff.mpr h), hu]
  · refine hturn.trans ?_
    rw [if_neg fun he => h (List.isEmpty_iff.mp he), ← henv]
    exact onChannel_chans_self _ c u

/-- R24: whether an ARMED channel's run begins with a frame. -/
def Begins (s : State) (f : FrameParts) (boundary : Bool) (c : ChannelId) : Prop :=
  s.mu.stream = .run ∧ samplesFor s.ts f.samples c ≠ [] ∧ (boundary = true ∨ ((s.ts.channels[c]).current).startAtSweep = false)

theorem activates_iff (h : samplesFor s.ts f.samples c ≠ []) :
    activates (s.env c) (deliveryOf s f frame boundary c) = true ↔ Begins s f boundary c := by
  unfold activates Begins
  rw [Bool.and_eq_true, decide_eq_true_iff, Bool.or_eq_true, Bool.not_eq_true', or_comm]
  exact and_congr_right fun _ => ⟨fun hb => ⟨h, hb⟩, fun hb => hb.2⟩

/-- A stopped channel takes no delivery. -/
theorem distribute_of_stopped (f : FrameParts) (frame : Word64) (boundary : Bool)
    (h : (s.chans[c]).state = .idle ∨ (s.chans[c]).state = .closing) :
    (distribute f frame boundary s).chans[c] = s.chans[c] := by
  obtain ⟨hnone, hsome⟩ := distribute_chans s f frame boundary c
  by_cases hxs : samplesFor s.ts f.samples c = []
  · exact hnone hxs
  · obtain ⟨u, hu, hch⟩ := hsome hxs
    rw [hch, ← hu]
    rw [← hu] at h
    exact congrArg Engine.ch (deliver_of_stopped (e := u.engine c) _ h)

/-- A running channel counts its samples of the frame. -/
theorem distribute_of_running (f : FrameParts) (frame : Word64) (boundary : Bool)
    (h : (s.chans[c]).state = .active ∨ (s.chans[c]).state = .loss) :
    (((distribute f frame boundary s).chans[c]).state = .active ∨ ((distribute f frame boundary s).chans[c]).state = .loss) ∧
    ((distribute f frame boundary s).chans[c]).nextIndex =
      (s.chans[c]).nextIndex + BitVec.ofNat 64 (samplesFor s.ts f.samples c).length := by
  obtain ⟨hnone, hsome⟩ := distribute_chans s f frame boundary c
  by_cases hxs : samplesFor s.ts f.samples c = []
  · rw [hnone hxs, hxs]
    exact ⟨h, (BitVec.add_zero _).symm⟩
  · obtain ⟨u, hu, hch⟩ := hsome hxs
    rw [hch, ← hu]
    rw [← hu] at h
    obtain ⟨hindex, hstate, -⟩ := deliver_of_running (v := s.env c) (e := u.engine c) (deliveryOf s f frame boundary c) h
    exact ⟨hstate, hindex⟩

/-- An ARMED channel whose run begins counts its samples of the frame; otherwise it stays. -/
theorem distribute_of_armed (f : FrameParts) (frame : Word64) (boundary : Bool) (h : (s.chans[c]).state = .armed) :
    (Begins s f boundary c →
      ((distribute f frame boundary s).chans[c]).nextIndex = BitVec.ofNat 64 (samplesFor s.ts f.samples c).length ∧
      ((distribute f frame boundary s).chans[c]).run = (s.chans[c]).run ∧
      ((distribute f frame boundary s).chans[c]).lastSweep = s.ap.sweepCounter ∧
      (((distribute f frame boundary s).chans[c]).state = .active ∨ ((distribute f frame boundary s).chans[c]).state = .loss)) ∧
    (¬ Begins s f boundary c → (distribute f frame boundary s).chans[c] = s.chans[c]) := by
  obtain ⟨hnone, hsome⟩ := distribute_chans s f frame boundary c
  by_cases hxs : samplesFor s.ts f.samples c = []
  · exact ⟨fun ⟨_, hne, _⟩ => absurd hxs hne, fun _ => hnone hxs⟩
  · obtain ⟨u, hu, hch⟩ := hsome hxs
    have hact := activates_iff (frame := frame) (boundary := boundary) hxs
    rw [hch, ← hu]
    rw [← hu] at h
    refine ⟨fun hbegins => ?_, fun hstays => ?_⟩
    · have hcounted := deliver_begins (v := s.env c) (e := u.engine c) _ h (hact.mpr hbegins)
      exact ⟨hcounted.index.trans (BitVec.zero_add _), hcounted.run, hcounted.sweep, hcounted.state⟩
    · exact congrArg Engine.ch ((deliver_of_armed (e := u.engine c) _ h).trans (if_neg fun ha => hstays (hact.mp ha)))

/-- The part once a good frame's tag is compared and the missed frames are reported (stages 1 and 2 of R4). -/
def compared (f : FrameParts) (s : State) : State :=
  if missedFrames s.ap f.tag = 0 then { s with ap := compareTag f s.ap }
  else reportMissed (missedFrames s.ap f.tag) s.ap.frameCounter { s with ap := compareTag f s.ap }

/-- A good frame's number (R7). -/
def frameNumber (f : FrameParts) (s : State) : Word64 := s.ap.frameCounter + BitVec.ofNat 64 (missedFrames s.ap f.tag)

/-- The part once a boundary has been taken (stage 3 of R4). -/
def bounded (f : FrameParts) (s : State) : State :=
  if boundaryFrame s f then takeBoundary (frameNumber f s) (compared f s) else compared f s

theorem takeGood_eq (f : FrameParts) (s : State) :
    takeGood f s = distribute f (frameNumber f s) (boundaryFrame s f) (bounded f s) := rfl

theorem compared_changesOnly (f : FrameParts) (s : State) : ChangesOnly [.ap, .chans, .rm, .orders] s (compared f s) := by
  have hap := changesOnly_mono (qs := [.ap, .chans, .rm, .orders]) (by simp) (changesOnly_ap s (compareTag f s.ap))
  unfold compared
  split
  · exact hap
  · exact changesOnly_trans hap (changesOnly_mono (by simp) (reportMissed_changesOnly _ _ _))

/-- What missed frames leave of a channel (R5, R8, R29). -/
theorem compared_chans (f : FrameParts) (s : State) (c : ChannelId) :
    ((s.chans[c]).state ≠ .active ∧ (s.chans[c]).state ≠ .loss → (compared f s).chans[c] = s.chans[c]) ∧
    ((s.chans[c]).state = .active ∨ (s.chans[c]).state = .loss →
      (((compared f s).chans[c]).state = .active ∨ ((compared f s).chans[c]).state = .loss) ∧
      ((compared f s).chans[c]).nextIndex =
        (s.chans[c]).nextIndex + BitVec.ofNat 64 (slotsOf s.ts c * missedFrames s.ap f.tag)) := by
  unfold compared
  split
  · next hnone =>
    have hzero : BitVec.ofNat 64 (slotsOf s.ts c * missedFrames s.ap f.tag) = 0#64 := by rw [hnone, Nat.mul_zero]
    refine ⟨fun _ => rfl, fun h => ⟨h, ?_⟩⟩
    rw [hzero, BitVec.add_zero]
  · obtain ⟨hsame, hreport⟩ := reportMissed_chans (missedFrames s.ap f.tag) s.ap.frameCounter { s with ap := compareTag f s.ap } c
    by_cases hslots : slotsOf s.ts c = 0
    · rw [hsame hslots, hslots, Nat.zero_mul]
      exact ⟨fun _ => rfl, fun h => ⟨h, (BitVec.add_zero _).symm⟩⟩
    · obtain ⟨u, hu, hch⟩ := hreport hslots
      have hu : u.chans[c] = s.chans[c] := hu
      rw [hch, ← hu]
      refine ⟨fun h => congrArg Engine.ch (missedReport_of_stopped (e := u.engine c) h), fun h => ?_⟩
      obtain ⟨hloss, hindex⟩ := missedReport_running (v := u.env c) (e := u.engine c) h
      exact ⟨.inr hloss, hindex⟩

/-- The tables a frame is distributed by (R12). -/
def tablesFor (f : FrameParts) (s : State) : TableStore := if boundaryFrame s f then s.ts.commit else s.ts

/-- MK once a boundary frame is taken: a SWEEP request unless the stream is INIT or STANDBY (R12, R131). -/
def marksFor (f : FrameParts) (s : State) : MarkUnit :=
  if boundaryFrame s f = true ∧ (s.mu.stream = .run ∨ s.mu.stream = .pause ∨ s.mu.stream = .halt)
  then s.marks.sweepRequest (s.ap.sweepCounter + 1#32) (frameNumber f s) else s.marks

theorem MarkUnit.sweepRequest_of_room {m : MarkUnit} {sweep : Word32} {frame : Word64} (h : m.queue.length < 64) :
    m.sweepRequest sweep frame = { m with queue := m.queue ++ [.sweep sweep frame m.skip], skip := 0 } := if_pos h

theorem MarkUnit.sweepRequest_of_full {m : MarkUnit} {sweep : Word32} {frame : Word64} (h : ¬ m.queue.length < 64) :
    m.sweepRequest sweep frame = { m with skip := if m.skip < 65535 then m.skip + 1 else m.skip } := if_neg h

theorem configuring_iff (st : StreamState) : configuring st = true ↔ ¬ (st = .run ∨ st = .pause ∨ st = .halt) := by
  cases st <;> simp [configuring]

theorem bounded_frame (f : FrameParts) (s : State) : (bounded f s).chans = (compared f s).chans ∧
    (bounded f s).ts = tablesFor f s ∧ (bounded f s).mu = s.mu ∧ (bounded f s).marks = marksFor f s ∧
    ChangesOnly [.ap, .ts, .chans, .rm, .marks, .orders] s (bounded f s) := by
  have honly := compared_changesOnly f s
  have hts : (compared f s).ts = s.ts := honly .ts (by simp)
  have hmu : (compared f s).mu = s.mu := honly .mu (by simp)
  have hmarks : (compared f s).marks = s.marks := honly .marks (by simp)
  have hsweep : (compared f s).ap.sweepCounter = s.ap.sweepCounter := by
    unfold compared
    split
    · rfl
    · rw [reportMissed_ap]; rfl
  have honly := changesOnly_mono (qs := [.ap, .ts, .chans, .rm, .marks, .orders]) (by simp) honly
  unfold bounded tablesFor marksFor
  generalize compared f s = u at *
  cases boundaryFrame s f with
  | false => exact ⟨rfl, hts, hmu, hmarks, honly⟩
  | true =>
    refine ⟨rfl, congrArg TableStore.commit hts, hmu, ?_, changesOnly_trans honly (changesOnly_of fun p => ?_)⟩
    · change (if configuring u.mu.stream = true then u.marks else u.marks.sweepRequest (u.ap.sweepCounter + 1#32) _) = _
      rw [hmu, hmarks, hsweep]
      by_cases hc : configuring s.mu.stream = true
      · rw [if_pos hc, if_neg fun h => (configuring_iff _).mp hc h.2]
      · rw [if_neg hc, if_pos ⟨rfl, not_not.mp fun h => hc ((configuring_iff _).mpr h)⟩]
    · cases p with
      | ap | ts | marks | chans | rm | orders => exact .inl (by simp)
      | _ => exact .inr rfl

end

/-! ## A good frame -/

section
variable {s : State} {f : FrameParts} {c : ChannelId}

theorem begins_bounded : Begins (bounded f s) f (boundaryFrame s f) c ↔ s.mu.stream = .run ∧
    samplesFor (tablesFor f s) f.samples c ≠ [] ∧
    (boundaryFrame s f = true ∨ (((tablesFor f s).channels[c]).current).startAtSweep = false) := by
  obtain ⟨-, hts, hmu, -⟩ := bounded_frame f s
  rw [Begins, hts, hmu]

theorem takeGood_of_stopped (h : (s.chans[c]).state = .idle ∨ (s.chans[c]).state = .closing) :
    (takeGood f s).chans[c] = s.chans[c] := by
  obtain ⟨hsame, -⟩ := compared_chans f s c
  obtain ⟨hchans, -⟩ := bounded_frame f s
  have hkept : (bounded f s).chans[c] = s.chans[c] := by
    rw [hchans]
    exact hsame (by obtain h | h := h <;> rw [h] <;> exact ⟨nofun, nofun⟩)
  rw [takeGood_eq, distribute_of_stopped _ _ _ (by rwa [hkept]), hkept]

/-- A running channel counts its samples of the frames missed and of the frame (R5, R8, R26). -/
theorem takeGood_of_running (h : (s.chans[c]).state = .active ∨ (s.chans[c]).state = .loss) :
    (((takeGood f s).chans[c]).state = .active ∨ ((takeGood f s).chans[c]).state = .loss) ∧
    ((takeGood f s).chans[c]).nextIndex = (s.chans[c]).nextIndex + BitVec.ofNat 64 (slotsOf s.ts c * missedFrames s.ap f.tag)
      + BitVec.ofNat 64 (samplesFor (tablesFor f s) f.samples c).length := by
  obtain ⟨-, hrunning⟩ := compared_chans f s c
  obtain ⟨hstate, hindex⟩ := hrunning h
  obtain ⟨hchans, hts, -⟩ := bounded_frame f s
  rw [← hchans] at hstate hindex
  rw [takeGood_eq, ← hindex, ← hts]
  exact distribute_of_running _ _ _ hstate

/-- An ARMED channel's run begins with the frame, or the channel stays (R24). -/
theorem takeGood_of_armed (h : (s.chans[c]).state = .armed) :
    if s.mu.stream = .run ∧ samplesFor (tablesFor f s) f.samples c ≠ [] ∧
      (boundaryFrame s f = true ∨ (((tablesFor f s).channels[c]).current).startAtSweep = false)
    then ((takeGood f s).chans[c]).nextIndex = BitVec.ofNat 64 (samplesFor (tablesFor f s) f.samples c).length ∧
      ((takeGood f s).chans[c]).run = (s.chans[c]).run ∧ ((takeGood f s).chans[c]).lastSweep = (takeGood f s).ap.sweepCounter ∧
      (((takeGood f s).chans[c]).state = .active ∨ ((takeGood f s).chans[c]).state = .loss)
    else (takeGood f s).chans[c] = s.chans[c] := by
  obtain ⟨hsame, -⟩ := compared_chans f s c
  obtain ⟨hchans, hts, -⟩ := bounded_frame f s
  have hkept : (bounded f s).chans[c] = s.chans[c] := by
    rw [hchans]
    exact hsame (by rw [h]; exact ⟨nofun, nofun⟩)
  obtain ⟨hbegins, hstays⟩ := distribute_of_armed f (frameNumber f s) (boundaryFrame s f) (hkept ▸ h)
  have hiff := begins_bounded (s := s) (f := f) (c := c)
  rw [takeGood_eq, distribute_ap, ← hts]
  rw [← hts] at hiff
  rw [hkept] at hbegins hstays
  split
  · next hb => exact hbegins (hiff.mpr hb)
  · next hb => exact hstays fun hs => hb (hiff.mp hs)

theorem takeGood_changesOnly (f : FrameParts) (s : State) :
    ChangesOnly [.ap, .ts, .chans, .rm, .marks, .orders] s (takeGood f s) := by
  obtain ⟨-, -, -, -, honly⟩ := bounded_frame f s
  exact changesOnly_trans honly (changesOnly_mono (by simp) (distribute_changesOnly (bounded f s) f _ _))

theorem gapsJoin_takeGood (f : FrameParts) (s : State) : GapsJoin (marksFor f s) (takeGood f s).marks := by
  obtain ⟨-, -, -, hmarks, -⟩ := bounded_frame f s
  rw [← hmarks]
  exact gapsJoin_distribute _ _ _ _

theorem takeGood_ts (f : FrameParts) (s : State) : (takeGood f s).ts = tablesFor f s := by
  obtain ⟨-, hts, -⟩ := bounded_frame f s
  exact (distribute_changesOnly (bounded f s) f _ _ .ts (by simp)).trans hts

/-- MK after a good frame: a SWEEP mark with the skipped count, or one more skipped at a full queue, then GAP marks (R12, R131). -/
theorem takeGood_marks (f : FrameParts) (s : State) : (takeGood f s).marks.headInTx = s.marks.headInTx ∧
    if boundaryFrame s f = true ∧ (s.mu.stream = .run ∨ s.mu.stream = .pause ∨ s.mu.stream = .halt)
    then (if s.marks.queue.length < 64
      then (takeGood f s).marks.skip = 0 ∧ ∃ gaps : List Gap, (takeGood f s).marks.queue = s.marks.queue ++
        .sweep (s.ap.sweepCounter + 1#32) (frameNumber f s) s.marks.skip :: gaps.map Mark.gap
      else (takeGood f s).marks.queue = s.marks.queue ∧
        (takeGood f s).marks.skip = (if s.marks.skip < 65535 then s.marks.skip + 1 else s.marks.skip))
    else (takeGood f s).marks.skip = s.marks.skip ∧
      ∃ gaps : List Gap, (takeGood f s).marks.queue = s.marks.queue ++ gaps.map Mark.gap := by
  obtain ⟨hhead, hskip, gaps, hqueue, hfull⟩ := gapsJoin_takeGood f s
  unfold marksFor at hhead hskip hqueue hfull
  split
  · next hb =>
    rw [if_pos hb] at hhead hskip hqueue hfull
    split
    · next hroom =>
      rw [MarkUnit.sweepRequest_of_room hroom] at hhead hskip hqueue
      exact ⟨hhead, hskip, gaps, by rw [hqueue, List.append_assoc]; rfl⟩
    · next hroom =>
      rw [MarkUnit.sweepRequest_of_full hroom] at hhead hskip hqueue hfull
      rw [hfull (not_lt.mp hroom)] at hqueue
      exact ⟨hhead, hqueue.trans (List.append_nil _), hskip⟩
  · next hb =>
    rw [if_neg hb] at hhead hskip hqueue
    exact ⟨hhead, hskip, gaps, hqueue⟩

end

/-- The frames by which a tag is ahead of the expected one (R5). -/
theorem missedFrames_eq (ap : AcquisitionPort) (tag : Word16) : missedFrames ap tag =
    if (match ap.expected with | none => 0 | some e => (tag - e).toNat) < 4096
    then (match ap.expected with | none => 0 | some e => (tag - e).toNat) else 0 := by
  unfold missedFrames
  cases ap.expected <;> rfl

theorem resynchronises_eq (ap : AcquisitionPort) (tag : Word16) : resynchronises ap tag =
    decide (4096 ≤ (match ap.expected with | none => 0 | some e => (tag - e).toNat)) := by
  unfold resynchronises
  cases ap.expected <;> rfl

/-- Settles O25: the frame's parts, the counters, each channel's turn and the marks of a good frame. -/
theorem goodFramesAdvanceTheCounters : Obligations.GoodFramesAdvanceTheCounters := by
  unfold Obligations.GoodFramesAdvanceTheCounters
  intro s tag flags xs hpin hopen hcount hlen ahead missed boundary ts'
  have hgood : goodFrame s true (tag :: flags :: (xs ++ [frameCheck tag flags xs])) = some ⟨tag, flags, xs, frameCheck tag flags xs⟩ := by
    rw [goodFrame_whole, if_pos ⟨rfl, (countAcceptable_iff ..).mpr hcount⟩]
  have hexec : exec (.acquisitionFrame (frameBurst tag flags xs (frameCheck tag flags xs))) s =
      .next (settle (takeGood ⟨tag, flags, xs, frameCheck tag flags xs⟩ s)) := by
    rw [← takeFrame_of_good hgood, ← foldl_portWord_frameBurst tag flags _ hopen hlen]
    exact released_eq (fun t => (frameBurst tag flags xs (frameCheck tag flags xs)).foldl portWord t) hpin
  have hmissed : missedFrames s.ap tag = missed := missedFrames_eq s.ap tag
  have hresync : resynchronises s.ap tag = decide (4096 ≤ ahead) := resynchronises_eq s.ap tag
  generalize hf : (⟨tag, flags, xs, frameCheck tag flags xs⟩ : FrameParts) = f at hexec
  have hboundary : boundaryFrame s f = boundary := by rw [← hf]; rfl
  have hts' : tablesFor f s = ts' := by unfold tablesFor; rw [hboundary]
  have hsamples : f.samples = xs := by rw [← hf]
  have htag : f.tag = tag := by rw [← hf]
  have hap := takeGood_ap (s := s) f
  have hts := takeGood_ts f s
  have hstopped := fun c => takeGood_of_stopped (f := f) (s := s) (c := c)
  have hrunning := fun c => takeGood_of_running (f := f) (s := s) (c := c)
  have harmed := fun c => takeGood_of_armed (f := f) (s := s) (c := c)
  have hmarks := takeGood_marks f s
  have honly := changesOnly_settle (changesOnly_mono (qs := [.ap, .ts, .chans, .rm, .planes, .ds, .marks, .orders]) (by simp)
    (takeGood_changesOnly f s)) (by simp)
  rw [frameNumber, htag, hmissed, hboundary] at hmarks
  rw [hboundary] at hap
  simp only [hts', hsamples, htag, hmissed, hboundary] at hts hrunning harmed
  generalize takeGood f s = u at *
  refine ⟨settle u, hexec, ?_⟩
  rw [settle_ap, settle_ts, settle_chans, settle_marks]
  refine ⟨?_, ?_, ?_, ?_, ?_, ?_, hts, hstopped, hrunning, harmed, hmarks.1, hmarks.2, honly⟩
  all_goals rw [hap]
  · rw [← hmissed, ← htag]; rfl
  · rw [← htag]; rfl
  · rw [← hresync, ← htag]; rfl
  · rfl
  · exact hopen

end Sys2Proof.Machine
end
